-- ==== Sys2Proof/Word.lean ====
section
/-! DEFINITION. The word types of the module: bytes, half words, words and double words as the manual lays them out (R8, R9). -/

namespace Sys2Proof

/-- One byte. -/
abbrev Byte := BitVec 8
/-- A 16-bit field: keys, opcodes, sequences, epochs, sessions. -/
abbrev Half := BitVec 16
/-- A 32-bit field: logged addresses, setpoints, schedule IDs. -/
abbrev Word := BitVec 32
/-- A 64-bit word: cross-lane words, status words, global times as they travel. -/
abbrev Dword := BitVec 64

end Sys2Proof
end

