-- ==== Sys2Proof/Syntax.lean ====
section
/-! DEFINITION. The commands of the block and the data they carry. -/

namespace Sys2Proof

/-- The three lanes (R2). -/
inductive Lane where
  | l1 | l2 | l3
  deriving DecidableEq, Repr

/-- The two axes, and with a lane the two sets: S (steer) and B (brake) (R2). -/
inductive Axis where
  | s | b
  deriving DecidableEq, Repr

/-- The three phases (R2). -/
inductive Phase where
  | u | v | w
  deriving DecidableEq, Repr

/-- The two network channels of a lane (R2). -/
inductive Chan where
  | x | y
  deriving DecidableEq, Repr

/-- The two SENT ports of a lane: SENTA and SENTB. -/
inductive SentPort where
  | a | b
  deriving DecidableEq, Repr

/-- The two switch inputs of a lane. -/
inductive SwPort where
  | sw1 | sw2
  deriving DecidableEq, Repr

/-- The two twin links (R32). -/
inductive TwinLink where
  | k1 | k2
  deriving DecidableEq, Repr

/-- The module modes (R5). -/
inductive Mode where
  | dormant | boot | ready | run | limp | service
  deriving DecidableEq, Repr

/-- The lane roles (R5). -/
inductive Role where
  | none | leader | deputy | member
  deriving DecidableEq, Repr

/-- The lane states (R5). -/
inductive LaneState where
  | off | starting | active | rejoining | isolated | quenched
  deriving DecidableEq, Repr

/-- How a packet is carried, with the sender (R331): a Hiolo node identity or the host port. -/
inductive Carriage where
  | hiolo (node : BitVec 5)
  | host
  deriving DecidableEq, Repr

/-- One FCP request (R327) whose length and CRC have been checked (orders 1 and 2 of R335): the header fields, the
reserved bytes as received (R10, R340), the
parameter bytes and the MAC where one is present. `at_` is the instant in ns at which it is handled. -/
structure Req where
  at_      : Nat
  carriage : Carriage
  verMajor : Byte
  verMinor : Byte
  flags    : Byte
  seq      : Half
  target   : Byte
  epoch    : Half
  session  : Half
  reserved : Half
  params   : List Byte
  mac      : Option Dword
  deriving DecidableEq, Repr

/-- One word of a protected path as received: its 64 data bits and its 8 check bits (R26). -/
structure XWord where
  data  : Dword
  check : Byte
  deriving DecidableEq, Repr

/-- One received Hiolo frame (R281, R282): what the checks of R287 look at, the header fields and the payload.
`sfd` is the instant of the received end of the SFD relative to the basic-cycle start, in ns; `dataLen` is the length
of the Ethernet data field in bytes; `cc` is the last byte of the source address. -/
structure HFrame where
  fcsOk     : Bool
  dest      : BitVec 48
  etherType : Half
  cc        : Byte
  dataLen   : Nat
  sfd       : Nat
  major     : BitVec 4
  minor     : BitVec 4
  window    : BitVec 4
  matrix    : BitVec 5
  sender    : BitVec 5
  epoch     : Half
  sync      : Bool
  null      : Bool
  caps      : Bool
  fresh     : Half
  plen      : Half
  payload   : List Byte
  deriving DecidableEq, Repr

/-- One SENT fast-channel frame as measured (R214): every interval in units of 12.5 ns. `cal` is the calibration pulse
of 56 ticks, `status` the status pulse, `data` the data pulses, `crc` the CRC pulse, `pause` a pause pulse. -/
structure SentRaw where
  cal    : Nat
  status : Nat
  data   : List Nat
  crc    : Nat
  pause  : Option Nat
  deriving DecidableEq, Repr

/-- Three values, one per phase. -/
structure Three where
  u : Int
  v : Int
  w : Int
  deriving DecidableEq, Repr

/-- What the converters of a set hold in one half: the shunt codes of windows P and V (R137, R140) and the three sense readings
in mA at the hold of each (R150); `down` for a half that counts down (R157). -/
structure CurrentSample where
  down   : Bool
  codeP  : BitVec 14
  codeV  : BitVec 14
  senseP : Three
  senseV : Three
  deriving DecidableEq, Repr

/-- One switching edge of the period that ends, as measured (R104, R105): the leg, the switch, turn-on or turn-off,
when the gate reached the threshold that ends phase 1 (none: it did not), and when the switch node stood at 10 % and at 90 % of its
transition, each in 0.125 ns from the command of the edge. -/
structure EdgeSample where
  axis  : Axis
  phase : Phase
  high  : Bool
  on    : Bool
  gate  : Option Nat
  t10   : Nat
  t90   : Nat
  deriving DecidableEq, Repr

/-- What a lane measures about the PWM period that ends: the phase error of its carrier against the Leader's in 0.01 ns
(R168), the shunt codes of a zero vector of both sets for an offset sample (R138), the outcome of each set's background test
vector (R68), and the switching edges (R105). -/
structure PeriodSample where
  carrier : Int
  offS    : BitVec 14
  offB    : BitVec 14
  vecS    : Bool
  vecB    : Bool
  edges   : List EdgeSample
  deriving DecidableEq, Repr

/-- The codes of one half-period's auxiliary conversions (R152, R153): three terminals, the DC link and one
temperature on AUX-A; three terminals, the lane supply and one temperature on AUX-B; and one reference conversion of
R388 for each, in 1/1000 of its reference. -/
structure AuxSample where
  su    : BitVec 12
  sv    : BitVec 12
  sw    : BitVec 12
  link  : BitVec 12
  tempA : BitVec 12
  bu    : BitVec 12
  bv    : BitVec 12
  bw    : BitVec 12
  vsup  : BitVec 12
  tempB : BitVec 12
  refA  : Nat
  refB  : Nat
  deriving DecidableEq, Repr

/-- What a node senses in an arbitrating window (R296): carrier before its first start, a collision of its first
transmission, carrier since t_w + 32 us, and a collision of its second transmission. -/
structure ArbSense where
  busy       : List (Nat × Nat)
  collision1 : Bool
  collision2 : Bool
  deriving DecidableEq, Repr

/-- The readings of one set in the off-state test (R123, R124): the terminals in mV as sampled over the first 200 us of step D0,
and at the end of steps D0 to D3 (D1 injects U, D2 V, D3 W), and for each injecting step the terminals of the lane's other set and of the peers that stand
at 4.0 V or more, as leg codes. -/
structure SetReadings where
  early  : List Three
  d0     : Three
  d1     : Three
  d2     : Three
  d3     : Three
  other1 : List Byte
  other2 : List Byte
  other3 : List Byte
  deriving DecidableEq, Repr

/-- One lane's off-state test slot (R122, R126): both sets' readings, GEY_n in mV with and without injection, and the
sense-cell current in mA and link voltage in mV at the end of the test pulse. -/
structure OffStateSample where
  s      : SetReadings
  b      : SetReadings
  geyInj : Nat
  geyOff : Nat
  pulseI : Nat
  link   : Nat
  deriving DecidableEq, Repr

/-- A zero crossing of a line-to-line voltage (R201): the pair by its first phase (u: U to V, v: V to W, w: W to U), rising or
falling, and its instant in ns. -/
structure Crossing where
  pair   : Phase
  rising : Bool
  at_    : Nat
  deriving DecidableEq, Repr

/-- What one set saw over its catch time (R125, R200, R201): the peak of each line-to-line voltage in mV (u: U to V, v: V to W,
w: W to U); over one electrical period the DC part of each terminal voltage, the amplitude of its AC part and that of the AC part of the
mean of the three, in mV; the zero crossings of the line-to-line voltages, oldest first. -/
structure CatchSample where
  lines  : Three
  dc     : Three
  ac     : Three
  meanAc : Nat
  cross  : List Crossing
  deriving DecidableEq, Repr

/-- The catch-spin outcome of both sets of a lane. -/
structure CatchPair where
  s : CatchSample
  b : CatchSample
  deriving DecidableEq, Repr

/-- The d current of one pulse pair of the polarity detection: of the pulse along +d and of the one along -d, instants in ns from
the start of the pulse with the current in mA (R198). -/
structure PulsePair where
  plus  : List (Nat × Int)
  minus : List (Nat × Int)
  deriving DecidableEq, Repr

/-- The readings of one pair of phases in the averaging times of its level +I and of its level -I: line-to-line terminal averages
in codes of 20 mV with the shunt current in mA (R376). -/
structure PairReadings where
  plus  : List (Int × Int)
  minus : List (Int × Int)
  deriving DecidableEq, Repr

/-- One pulse of the inductance measurement, along its axis: mean voltage in mV, mean current in mA, duration in ns and change of
the current in mA (R376, R377). -/
structure LoadPulse where
  v  : Int
  i  : Int
  dt : Nat
  di : Int
  deriving DecidableEq, Repr

/-- The ringing after one gate-controlled turn-on: how long its first three periods last in ps, and how many crossings stand above
10 % of the edge amplitude (R377). -/
structure Ringing where
  span      : Nat
  crossings : Nat
  deriving DecidableEq, Repr

/-- What the measurement of one set reads for MEASURE_LOAD (R376, R377): the three pairs, the pulses along d and along q, and the
gate-controlled edges of legs U, V and W. -/
structure LoadSample where
  uv     : PairReadings
  vw     : PairReadings
  wu     : PairReadings
  pulseD : List LoadPulse
  pulseQ : List LoadPulse
  ringU  : List Ringing
  ringV  : List Ringing
  ringW  : List Ringing
  deriving DecidableEq, Repr

/-- One entry of the session table (R332, R449). -/
structure SessionEntry where
  num      : Half
  expert   : Bool
  binding  : Byte
  slot     : BitVec 3
  mark     : Option Half
  kReq     : BitVec 128
  kRep     : BitVec 128
  opened   : Nat
  lastUsed : Nat
  idleNs   : Nat
  proven   : Bool
  macFails : List Nat
  deriving DecidableEq, Repr

/-- The values of one supply item (R374). -/
structure SupplyEntry where
  discOpen : Bool
  vsup     : Half
  link     : Half
  svcc     : Half
  level    : Byte
  deriving DecidableEq, Repr

/-- The values of one boot report (R440): running bank (1 A, 2 B, 0 none), trial, trial failed, Boot failed, running
package, its security version and the last Boot step reached. -/
structure BootReport where
  bank        : BitVec 2
  trial       : Bool
  trialFailed : Bool
  bootFailed  : Bool
  package     : Word
  version     : Byte
  step        : Byte
  deriving DecidableEq, Repr

/-- The content of a key item of type 0x52 (R437). -/
inductive KeyContent where
  | ownerKeys (slot : BitVec 1) (ed : List Byte) (ml : List Byte)
  | keyPackage (bytes : List Byte)
  deriving DecidableEq, Repr

/-- A segment of a package: its offset and its bytes (R295). -/
structure Segment where
  off  : Nat
  data : List Byte
  deriving DecidableEq, Repr

/-- A change of the session table (R449): an entry opened, or the entry closed. -/
structure SessionChange where
  isOpen : Bool
  entry  : SessionEntry
  deriving DecidableEq, Repr

/-- What has been inverted when a word is read (R27): whether the word is read as a beat of the bus, the inverted data bits and
the inverted check bits, since the word was written or, on the bus, in the transfer. -/
structure BitErrors where
  bus   : Bool
  data  : Dword
  check : Byte
  deriving DecidableEq, Repr

/-- A set of the module: its lane and its axis. -/
structure SetRef where
  lane : Lane
  axis : Axis
  deriving DecidableEq, Repr

/-- VSUP_n and the DC link of a lane in mV. -/
structure SupplyMv where
  vsup : Nat
  link : Nat
  deriving DecidableEq, Repr

/-- The filtered levels of QA_n and QB_n. -/
structure QuadLevels where
  a : Bool
  b : Bool
  deriving DecidableEq, Repr

/-- What one target lane saw of its vote lines in the test of R52: isolated by the lower-numbered peer's line alone, by the
higher-numbered peer's alone, and its Caldera set by both. -/
structure VoteLines where
  target : Lane
  lower  : Bool
  upper  : Bool
  both   : Bool
  deriving DecidableEq, Repr

/-- The target sees a mismatch (R52). -/
def VoteLines.mismatch (v : VoteLines) : Bool := !(v.lower && v.upper && v.both)

/-- The sources of a lane reset (R413): the supply with VSUP_n and the DC link in mV, for causes 1 and 2, and the others by cause number. -/
inductive ResetSource where
  | supply (vsup link : Nat)
  | supplyRestart | wake | external | clock | watchdog | restart
  deriving DecidableEq, Repr

/-- What a lane's Boot reads and finds: the OTP words with inverted bits (word number, inverted data and check bits), the self-check of
the signature engine, the sign-and-verify test of the identity keys, the two copies of the owner root keys (Ed25519, then ML-DSA-65), the
packages of the firmware banks, of the two Almanac copies, of the two copies of the key package and of the parameter image with its journal,
each as its bytes read, the map bits of the blocks that failed in step 7, and the filtered ENA as Boot ended (R264, R436 to R439). -/
structure BootChecks where
  otp        : List (BitVec 7 × Dword × Byte)
  engineOk   : Bool
  identityOk : Bool
  own1       : List Byte
  own2       : List Byte
  bankA      : List Byte
  bankB      : List Byte
  almActive  : List Byte
  almPending : List Byte
  keys1      : List Byte
  keys2      : List Byte
  params1    : List Byte
  params2    : List Byte
  bistBad    : Dword
  ena        : Bool
  deriving DecidableEq, Repr

/-- The commands of the block: one constructor per row of the table of operations and events, in the table's order.
Every event carries the instant `t` at which it takes place; every FCP request carries its own instant in `r`. -/
inductive Instr where
  /-- R267: MODE_REQUEST with target Ready from Run, Limp or Service starts a controlled stop and de-energising, or ends Service. Operands: the request. -/
  | modeRequestReady (r : Req)
  /-- R179: MODE_REQUEST with target Run is checked for permission and calibration stamp and starts the energising sequence, answered with ACCEPTED_PENDING. Operands: the request. -/
  | modeRequestRun (r : Req)
  /-- R274: MODE_REQUEST with target Service is accepted in Ready only under the expert-session, standstill, homing and supply conditions. Operands: the request. -/
  | modeRequestService (r : Req)
  /-- R267: MODE_REQUEST with target Dormant is answered with OK while every filtered ENA is inactive, and the lanes then prepare to sleep. Operands: the request. -/
  | modeRequestDormant (r : Req)
  /-- R357: Returns the 64-bit mode status word. Operands: the request. -/
  | modeStatus (r : Req)
  /-- R357: Returns the Enable test state, filtered ENA and permission of each lane. Operands: the request. -/
  | enableTestStatus (r : Req)
  /-- R355: Sets a steer position target, or a speed in speed kind, and the profile engine plans a jerk-limited trajectory to it. Operands: the request. -/
  | steerAngle (r : Req)
  /-- R355: Sets the steer axis torque reference directly, clamped to T_max. Operands: the request. -/
  | steerTorque (r : Req)
  /-- R245: Plans a steer move time-scaled so that it arrives at the given global time. Operands: the request. -/
  | steerMoveAt (r : Req)
  /-- R249: Stops the steer axis under the stop deceleration without losing position. Operands: the request. -/
  | steerHold (r : Req)
  /-- R355: Sets a brake force target for the profile engine. Operands: the request. -/
  | brakeForce (r : Req)
  /-- R356: Sets a brake position target in QUAD counts, or a speed in speed kind, refused before a kiss-point learn or without two valid positions. Operands: the request. -/
  | brakePosition (r : Req)
  /-- R355: Moves the caliper to the air-gap position, or to the lowest force before any kiss-point learn. Operands: the request. -/
  | brakeRelease (r : Req)
  /-- R356: Sets brake setpoint mode park at the given park force, which stops and loss of command never lower. Operands: the request. -/
  | brakeParkApply (r : Req)
  /-- R356: Leaves park and sets brake force mode at the present force. Operands: the request. -/
  | brakeParkRelease (r : Req)
  /-- R241: Sets the rate, acceleration and jerk limits in force for one axis kind, bounded by the parameters. Operands: the request. -/
  | profileLimits (r : Req)
  /-- R245: Plans steer and brake moves that arrive together at one global time. Operands: the request. -/
  | vectorMove (r : Req)
  /-- R359: Returns the working and committed value codes of one parameter key. Operands: the request. -/
  | paramReadKey (r : Req)
  /-- R359: Returns bytes of the lane address space in an expert session, refused for unmapped or key-store addresses. Operands: the request. -/
  | paramReadMemory (r : Req)
  /-- R360: Checks up to 32 key-value pairs in order and writes all of them or none into the working image. Operands: the request. -/
  | paramWrite (r : Req)
  /-- R361: Checks the working image against every commit rule and, if all hold, has every Active lane write it to both MRAM copies. Operands: the request. -/
  | paramCommit (r : Req)
  /-- R361: When every Active lane has written the image, the Leader replies OK within 100 ms. Operands: the instant in ns. -/
  | paramCommitDone (t : Nat)
  /-- R359: Returns the base image ID, vehicle identity, change count, stamp match and image hash piecewise. Operands: the request. -/
  | paramImageInfo (r : Req)
  /-- R376: Starts the winding resistance, inductance and lead-length measurement sequence on the named sets, answered with ACCEPTED_PENDING. Operands: the request. -/
  | measureLoadStart (r : Req)
  /-- R362: Returns the measured load quantities and their valid masks piecewise. Operands: the request. -/
  | measureLoadRead (r : Req)
  /-- R376: The last requested quantity completes, the sets return to high-impedance and the valid mask equals the request. Operands: the instant in ns; the lane, the set and what its measurement read. -/
  | measureLoadComplete (t : Nat) (n : Lane) (x : Axis) (m : LoadSample)
  /-- R380: Starts time-domain reflectometry on one channel over 64 basic cycles while the other channel carries traffic. Operands: the request. -/
  | measureCableStart (r : Req)
  /-- R362: Returns the state, finding and distance of the cable measurement. Operands: the request. -/
  | measureCableRead (r : Req)
  /-- R380: After 64 pulses the echoes are averaged and classified as no fault, open or short with a distance. Operands: the instant in ns; averaged reflection in % of the incident amplitude, echo delay in ns. -/
  | measureCableComplete (t : Nat) (n : Lane) (refl : Int) (delay : Nat)
  /-- R375: Returns each lane's supply, DC link, SVCC_n and shedding level as seen by the answering lane. Operands: the request. -/
  | measureSupply (r : Req)
  /-- R341: Exchanges version ranges with a commander, agrees the highest common versions and admits joining channels. Operands: the request. -/
  | capsExchange (r : Req)
  /-- R387: Starts an on-demand BIST of the masked blocks in Service, answered with ACCEPTED_PENDING. Operands: the request. -/
  | selftestRun (r : Req)
  /-- R387: The BIST run ends, blocks are re-initialised and map bits are set or cleared. Operands: the instant in ns; blocks that ended their test, blocks that failed, and the map bits the failures name. -/
  | selftestComplete (t : Nat) (n : Lane) (done : Byte) (bad : Byte) (badBits : Dword)
  /-- R363: Returns the state, tested and failed masks and the unusable-block map. Operands: the request. -/
  | selftestResult (r : Req)
  /-- R363: Returns the health record, a port record or the agreed-version table of the target lane. Operands: the request. -/
  | healthRead (r : Req)
  /-- R446: Makes a dual-signed attestation report over the requester nonce and returns it piecewise. Operands: the request. -/
  | attestChallenge (r : Req)
  /-- R448: Opens a basic or expert session on a key slot, draws the module nonce and derives the request and reply keys. Operands: the request. -/
  | sessionOpen (r : Req)
  /-- R365: Closes the request's own session or, in an expert session, another session. Operands: the request. -/
  | sessionClose (r : Req)
  /-- R366: Carries a key-provisioning or owner-enrolment package in segments and, on the last segment, checks and stores it. Operands: the request. -/
  | keyProvision (r : Req)
  /-- R367: Opens a firmware or parameter-image transfer, abandoning any open transfer. Operands: the request. -/
  | fwBegin (r : Req)
  /-- R367: Writes one package segment into the non-running bank or staging area of every Active lane. Operands: the request. -/
  | fwChunk (r : Req)
  /-- R441: Makes every Active lane check its transferred copy under the package checks. Operands: the request. -/
  | fwVerifyStart (r : Req)
  /-- R367: Reports the verification state or the failing check of the lowest failing lane. Operands: the request. -/
  | fwVerifyRead (r : Req)
  /-- R441: After a passed verification sets the trial bank or writes the staged image, then restarts every Active lane into Boot. Operands: the request. -/
  | fwActivate (r : Req)
  /-- R363: Returns the Meridian reading, corrections, channel states, sources and schedule IDs. Operands: the request. -/
  | timeStatus (r : Req)
  /-- R292: Carries an Almanac package in segments and, when complete, checks it and stores it as pending in every Active lane. Operands: the request. -/
  | scheduleLoad (r : Req)
  /-- R364: Returns up to 32 fault-log entries from a start index, newest first. Operands: the request. -/
  | logRead (r : Req)
  /-- R364: Clears the fault log, corrected-error counters or port, channel and link counters by scope. Operands: the request. -/
  | logClear (r : Req)
  /-- R250: Starts steer end-stop learn, brake kiss-point learn or both, answered with ACCEPTED_PENDING. Operands: the request. -/
  | homingStart (r : Req)
  /-- R368: HOMING_START with the abort bit aborts homing of the named axes with reason 6. Operands: the request. -/
  | homingStartAbort (r : Req)
  /-- R368: Returns homing states, abort reason, learned flags and compare slot status. Operands: the request. -/
  | homingStatus (r : Req)
  /-- R230: Arms or disarms a position-compare slot of a named lane through the relay stream. Operands: the request. -/
  | compareSet (r : Req)
  /-- R55: Applies the zone computer's verdict on an open dispute. Operands: the request. -/
  | arbitrate (r : Req)
  /-- R58: Makes each Active peer vote against the named lane with reason 7, or makes it self-quench. Operands: the request. -/
  | quench (r : Req)
  /-- R58: If the target has not reported Quenched 5 ms after the request, the Leader answers FAULT_LANE. Operands: the instant in ns. -/
  | quenchTimeout (t : Nat)
  /-- R50: In Service, peers withdraw their votes, the target's Caldera clears and the lane restarts and rejoins. Operands: the request. -/
  | calderaClear (r : Req)
  /-- R298: A received command frame is checked and its accepted copy placed in the lane's receive triple buffer. Operands: the instant in ns; the receiving lane and channel, and the frame. -/
  | commandFrame (t : Nat) (n : Lane) (c : Chan) (f : HFrame)
  /-- R286: A received null frame shows its sender alive and on schedule and carries no data. Operands: the instant in ns; as for a command frame. -/
  | nullFrame (t : Nat) (n : Lane) (c : Chan) (f : HFrame)
  /-- R309: A reference frame from a used time source records a deviation for the offset correction. Operands: the instant in ns; as for a command frame. -/
  | referenceFrame (t : Nat) (n : Lane) (c : Chan) (f : HFrame)
  /-- R381: A received CAPS announcement is stored per node identity. Operands: the instant in ns; as for a command frame. -/
  | capsFrame (t : Nat) (n : Lane) (c : Chan) (f : HFrame)
  /-- R344: A CAN FD frame of the host port adds one segment to a request packet, which is processed when its last segment arrives. Operands: the instant in ns; identifier, CAN FD with bit-rate switching or classical, data field. -/
  | hostPortFrame (t : Nat) (id : BitVec 29) (fd : Bool) (data : List Byte)
  /-- R344: A gap of more than 50 ms between segments discards the partial packet and counts it. Operands: the instant in ns. -/
  | hostPortSegmentTimeout (t : Nat)
  /-- R34: A received cross-lane frame is committed whole, and its header, status and torque words come into use. Operands: the instant in ns; sender, receiver, the words with their check bits. -/
  | crossLaneFrameCommit (t : Nat) (src : Lane) (dst : Lane) (ws : List XWord)
  /-- R17: A link receiver reports loss of signal and the peer treats the sending lane as absent. Operands: the instant in ns; sender and receiver of the direction. -/
  | linkLossOfSignal (t : Nat) (src : Lane) (dst : Lane)
  /-- R39: After LINK.LOSS_PERIODS consecutive lost frames the receiver declares the link direction down. Operands: the instant in ns; sender and receiver of the direction. -/
  | linkDown (t : Nat) (src : Lane) (dst : Lane)
  /-- R39: After 16 consecutive committed frames the link direction is declared up again. Operands: the instant in ns; sender and receiver of the direction. -/
  | linkUp (t : Nat) (src : Lane) (dst : Lane)
  /-- R74: A received twin frame is checked and its setpoints, references and authorities come into use. Operands: the instant in ns; the twin link and the seven words with their check bits. -/
  | twinFrame (t : Nat) (k : TwinLink) (ws : List XWord)
  /-- R78: After TWIN.LOSS_STEPS steps without a checked frame the twin link is declared down. Operands: the instant in ns; the twin link. -/
  | twinLinkDown (t : Nat) (k : TwinLink)
  /-- R262: A peer's filtered ENA state arrives in the relay stream and updates the withdrawal count. Operands: the instant in ns; sender and receiver, and the state that the item names. -/
  | enableStateItem (t : Nat) (src : Lane) (dst : Lane) (on : Bool)
  /-- R300: A relayed command frame from a peer is placed in the relayed lane's receive buffer. Operands: the instant in ns; relaying peer and relayed lane, and the channel and the frame that the item carries. -/
  | inboundFrameItem (t : Nat) (src : Lane) (dst : Lane) (c : Chan) (f : HFrame)
  /-- R300: The relayed lane's status packets arrive at the relaying peer for its own status frames. Operands: the instant in ns; relayed lane and relaying peer, and the epoch, the freshness and the status payload that the item carries. -/
  | outboundStatusItem (t : Nat) (src : Lane) (dst : Lane) (epoch : Half) (fresh : Half) (payload : List Byte)
  /-- R300: A relay item not sent within NET.RELAY_HOLD basic cycles, or overtaken, is dropped and counted. Operands: the instant in ns; the lane that holds the item; whether it is of type 0x11. -/
  | relayItemDrop (t : Nat) (n : Lane) (outbound : Bool)
  /-- R295: A segment of the Leader's Almanac package arrives at a lane whose Almanac differs. Operands: the instant in ns; sender and receiver, and the segment that the item carries. -/
  | almanacSegmentItem (t : Nat) (src : Lane) (dst : Lane) (g : Segment)
  /-- R295: A peer's active and pending schedule IDs arrive and are compared with the Leader's. Operands: the instant in ns; sender and receiver, and the active and pending schedule ID and the activation time that the item carries. -/
  | scheduleReportItem (t : Nat) (src : Lane) (dst : Lane) (act : Word) (pend : Word) (at_ : Dword)
  /-- R322: A peer's time item arrives and serves time correction for a lane without an integrated channel. Operands: the instant in ns; sender and receiver, and the two flags and the Meridian reading that the item carries. -/
  | timeItem (t : Nat) (src : Lane) (dst : Lane) (synced : Bool) (integ : Bool) (reading : Int)
  /-- R449: A session table change from the Leader arrives and updates the lane's copy. Operands: the instant in ns; sender and receiver, and the change that the item carries. -/
  | sessionItem (t : Nat) (src : Lane) (dst : Lane) (c : SessionChange)
  /-- R374: A peer's supply measurements arrive for MEASURE_SUPPLY. Operands: the instant in ns; sender and receiver, and the values that the item carries. -/
  | supplyItem (t : Nat) (src : Lane) (dst : Lane) (e : SupplyEntry)
  /-- R440: A peer's boot report arrives and decides the governing package and trial state. Operands: the instant in ns; sender and receiver, and the report that the item carries. -/
  | bootReportItem (t : Nat) (src : Lane) (dst : Lane) (e : BootReport)
  /-- R440: A segment of the governing firmware arrives at a failed lane, which checks and activates the bank when complete. Operands: the instant in ns; sender and receiver, and the offset of the segment, the number of its bytes and the bytes that the item carries. -/
  | firmwareCopyItem (t : Nat) (src : Lane) (dst : Lane) (off : Nat) (len : Nat) (data : List Byte)
  /-- R437: Owner root keys or the key package arrive from a peer for a lane with no valid copy. Operands: the instant in ns; sender and receiver, and the keys or the package that the item carries. -/
  | keyItem (t : Nat) (src : Lane) (dst : Lane) (e : KeyContent)
  /-- R215: A SENT fast-channel frame is checked in order and its value accepted or discarded. Operands: the instant in ns; the measured pulses of one fast-channel frame. -/
  | sentFrame (t : Nat) (n : Lane) (p : SentPort) (f : SentRaw)
  /-- R219: A complete serial message is checked and stored by message ID. Operands: the instant in ns; the port; the ID and the data of the message and whether its CRC is right, as bits 3 and 2 of the newest status nibbles spell them. -/
  | sentSerialMessage (t : Nat) (n : Lane) (p : SentPort) (id : Byte) (data : Half) (crcOk : Bool)
  /-- R217: No accepted frame within the timeout sets the timeout bit and clears validity. Operands: the instant in ns; the port. -/
  | sentTimeout (t : Nat) (n : Lane) (p : SentPort)
  /-- R23: The 1 kHz application cycle accepts the freshest receive buffer and applies, answers or refuses its packets. Operands: the instant in ns; the lane whose cycle starts. -/
  | applicationCycle (t : Nat) (n : Lane)
  /-- R243: At each 8 kHz step the profile engine and outer loops produce setpoints and torque references, and availabilities and shares are updated. Operands: the instant in ns; the lane that runs the 8 kHz step. -/
  | outerLoopStep (t : Nat) (n : Lane)
  /-- R190: At each PWM period boundary the lane sends its cross-lane frame, forms the consensus and runs per-period checks. Operands: the instant in ns; the lane whose period boundary it is, and what it measured over the period. -/
  | pwmPeriod (t : Nat) (n : Lane) (m : PeriodSample)
  /-- R157: At the current-sample instant the field engine forms currents, runs the regulators and delivers new duty values within 200 ns. Operands: the instant in ns; the set, and what its converters held. -/
  | currentLoopUpdate (t : Nat) (n : Lane) (x : Axis) (m : CurrentSample)
  /-- R153: At each half-period boundary the auxiliary converters convert terminals, link, supply and one temperature. Operands: the instant in ns; the codes of the half-period's conversions. -/
  | auxConversion (t : Nat) (n : Lane) (m : AuxSample)
  /-- R297: At its exclusive window start the lane latches and sends its status frame, or a null frame, on both channels. Operands: the instant in ns; the lane whose exclusive window starts. -/
  | statusFrameSend (t : Nat) (n : Lane)
  /-- R319: A Joining channel sends its CAPS frame in an arbitrating window under the access rules. Operands: the instant in ns; the joining channel and what it senses on the medium. -/
  | capsFrameSend (t : Nat) (n : Lane) (c : Chan) (m : ArbSense)
  /-- R310: At the end of the last usable reference window the lane computes and slews its offset correction. Operands: the instant in ns; the lane. -/
  | offsetCorrection (t : Nat) (n : Lane)
  /-- R310: At each matrix-cycle start the lane updates its rate correction from the summed offset corrections. Operands: the instant in ns; the lane. -/
  | rateCorrection (t : Nat) (n : Lane)
  /-- R315: At each basic-cycle start the Shutter compares its predicted start with the Meridian and re-aligns or closes. Operands: the instant in ns; the lane and the channel; the length since the Meridian pulse before, in RC ticks with an 8-bit fraction; the ns the enable line stood high outside the lane's windows. -/
  | shutterPhaseCheck (t : Nat) (n : Lane) (c : Chan) (k : Nat) (high : Nat)
  /-- R313: No source value for NET.SYNC_HOLDOVER basic cycles makes the lane go Passive. Operands: the instant in ns; the lane. -/
  | syncHoldover (t : Nat) (n : Lane)
  /-- R312: The Meridian steps to the reference or midpoint in the permitted cases and logs it. Operands: the instant in ns; the lane and the channel whose source decides. -/
  | timeStep (t : Nat) (n : Lane) (c : Chan)
  /-- R318: After L agreeing basic cycles a channel leaves Listen or Passive into Integrated or Joining. Operands: the instant in ns; the lane and the channel. -/
  | channelIntegrated (t : Nat) (n : Lane) (c : Chan)
  /-- R319: Admission not received within NET.JOIN_TIMEOUT is logged while CAPS frames continue. Operands: the instant in ns; the lane and the channel. -/
  | joinTimeout (t : Nat) (n : Lane) (c : Chan)
  /-- R323: A Meridian differing from both synchronised peers for 2 basic cycles makes the lane go Passive and take peer time. Operands: the instant in ns; the lane. -/
  | peerSkew (t : Nat) (n : Lane)
  /-- R83: A channel not integrated for 2 matrix cycles is logged as lost. Operands: the instant in ns; the lane and the channel. -/
  | channelLost (t : Nat) (n : Lane) (c : Chan)
  /-- R293: At the first matrix-cycle start after the activation time the pending Almanac becomes active. Operands: the instant in ns; the lane. -/
  | almanacSwitch (t : Nat) (n : Lane)
  /-- R332: A session without an accepted packet for its idle time closes. Operands: the instant in ns; the session number. -/
  | sessionIdleTimeout (t : Nat) (num : Half)
  /-- R449: A session without a valid MAC within SEC.OPEN_PROOF, or with too many MAC failures, is closed and logged. Operands: the instant in ns; the session number. -/
  | sessionDropped (t : Nat) (num : Half)
  /-- R352: A piecewise read snapshot lapses 1 s after it was taken. Operands: the instant in ns; answering lane and session of the snapshot. -/
  | piecewiseSnapshotExpiry (t : Nat) (n : Lane) (session : Half)
  /-- R389: At matrix position 0 the lane latches its health record and publishes it in four pieces. Operands: the instant in ns; the lane. -/
  | healthRecordLatch (t : Nat) (n : Lane)
  /-- R30: The lane reads and checks memory words in the background and writes back corrected words. Operands: the instant in ns; the lane, the byte address of the word read, and the bits that have been inverted. -/
  | memoryScrub (t : Nat) (n : Lane) (a : Word) (e : BitErrors)
  /-- R393: Every 10 min the lifetime counters are written to MRAM. Operands: the instant in ns; the lane. -/
  | lifetimeCounterWrite (t : Nat) (n : Lane)
  /-- R393: Every 1 s the baseplate reading advances the thermal-cycle counter. Operands: the instant in ns; the lane. -/
  | thermalCycleSample (t : Nat) (n : Lane)
  /-- R14: Differing lockstep core outputs are blocked and logged, and the lane is faulted. Operands: the instant in ns; the lane and the core output address. -/
  | lockstepMismatch (t : Nat) (n : Lane) (a : Word)
  /-- R48: A single counting incoming vote takes the lane's legs high-impedance and the lane enters Isolated. Operands: the instant in ns; the lane voted against. -/
  | votedIsolated (t : Nat) (n : Lane)
  /-- R47: Two counting votes or the self-quench input set the Caldera, remove the gate supplies and make the lane Quenched. Operands: the instant in ns; the lane whose Caldera sets. -/
  | calderaSet (t : Nat) (n : Lane)
  /-- R44: SHADOW.STEPS consecutive torque mismatches make the lane vote against the Leader with reason 1. Operands: the instant in ns; the comparing lane. -/
  | torqueShadow (t : Nat) (n : Lane)
  /-- R45: SHADOW.STEPS consecutive profile mismatches make the Deputy re-seed its shadow profile. Operands: the instant in ns; the Deputy. -/
  | profileReseed (t : Nat) (n : Lane)
  /-- R45: A second profile mismatch within 1 s marks the Deputy's profile engine unusable and it gives up the role. Operands: the instant in ns; the Deputy. -/
  | deputySelftestFail (t : Nat) (n : Lane)
  /-- R45: The new Deputy's mismatch within 1 s makes both lanes vote against the Leader with reason 2. Operands: the instant in ns; the new Deputy. -/
  | profileShadow (t : Nat) (n : Lane)
  /-- R46: A link down with signal present for LINK.SILENCE_VOTE periods, unheard by the third lane, draws a reason-4 vote. Operands: the instant in ns; voter and target. -/
  | linkSilence (t : Nat) (n : Lane) (target : Lane)
  /-- R66: A newer-epoch claim not matched by an observed Leader loss within 2 steps draws a reason-6 vote. Operands: the instant in ns; voter and claimant. -/
  | epochClaim (t : Nat) (n : Lane) (target : Lane)
  /-- R54: A single vote still counting after VOTE.CONFIRM steps opens a dispute. Operands: the instant in ns; accuser and target. -/
  | dispute (t : Nat) (n : Lane) (target : Lane)
  /-- R57: No valid ARBITRATE within ARB.TIMEOUT is logged and the dispute stays open. Operands: the instant in ns; accuser and target. -/
  | disputeTimeout (t : Nat) (n : Lane) (target : Lane)
  /-- R59: At the first step boundary after a Leader loss the Deputy or Member assumes the Leader role and increments the epoch. Operands: the instant in ns; the lane that assumes the role. -/
  | leaderHandover (t : Nat) (n : Lane)
  /-- R497: An eligible lane that becomes Active takes the Leader role from a non-eligible Leader at the next step boundary. Operands: the instant in ns; the eligible lane that became Active. -/
  | leaderReturn (t : Nat) (n : Lane)
  /-- R42: A vacant Deputy role is filled by the next eligible Active lane at the next step. Operands: the instant in ns; the lane that becomes Deputy. -/
  | deputyAssign (t : Nat) (n : Lane)
  /-- R43: The Deputy applies a held motion command when the Leader's S2 first reports its sequence number. Operands: the instant in ns; the Deputy. -/
  | deputyShadowApply (t : Nat) (n : Lane)
  /-- R62: The new Deputy completes its profile snapshot and may cast PROFILE_SHADOW votes. Operands: the instant in ns; the new Deputy. -/
  | shadowSnapshotDone (t : Nat) (n : Lane)
  /-- R69: Rejoin step 1 ends when stamps match or copied records are recomputed. Operands: the instant in ns; the Rejoining lane. -/
  | rejoinRecordsCopied (t : Nat) (n : Lane)
  /-- R69: Rejoin step 2 ends when the Leader's state snapshot is received. Operands: the instant in ns; the Rejoining lane. -/
  | rejoinSnapshotReceived (t : Nat) (n : Lane)
  /-- R69: Rejoin step 4 ends when the observer stays within 4 degrees of the median for 16 periods. Operands: the instant in ns; the Rejoining lane. -/
  | rejoinConverged (t : Nat) (n : Lane)
  /-- R69: At the end of REJOIN.RAMP the lane becomes Active with its configured share. Operands: the instant in ns; the Rejoining lane. -/
  | rejoinRampEnd (t : Nat) (n : Lane)
  /-- R69: A rejoin step not completed within its limit fails and the lane returns to Isolated. Operands: the instant in ns; the Rejoining lane. -/
  | rejoinFail (t : Nat) (n : Lane)
  /-- R72: 1 s after a failure the lane re-enters Rejoining at step 1. Operands: the instant in ns; the lane whose attempt failed. -/
  | rejoinRetry (t : Nat) (n : Lane)
  /-- R95: LOC.HOLD_CYCLES cycles without a fresh command set CMD_STALE and hold the last targets. Operands: the instant in ns. -/
  | cmdHold (t : Nat)
  /-- R95: LOC.TIMEOUT without a fresh command starts the loss-of-command behaviour. Operands: the instant in ns. -/
  | lossOfCommand (t : Nat)
  /-- R111: Both commands of a leg asserted together block both drivers and take the leg high-impedance. Operands: the instant in ns; the leg. -/
  | legInterlock (t : Nat) (n : Lane) (x : Axis) (p : Phase)
  /-- R118: di/dt above the limit turns the leg off softly within 80 ns. Operands: the instant in ns; the leg, the di/dt in A/ns, the ns since the newest turn-on command of that switch, and for how many ns above. -/
  | legDidt (t : Nat) (n : Lane) (x : Axis) (p : Phase) (didt : Rat) (since : Nat) (held : Nat)
  /-- R119: A sense-cell current above the set threshold takes the set high-impedance and marks it unusable. Operands: the instant in ns; the set, the sense current of the switch in uA, for how many ns above, and the ns since the newest commanded edge of that switch. -/
  | setOvercurrent (t : Nat) (n : Lane) (x : Axis) (i : Int) (held : Nat) (since : Nat)
  /-- R115: Bootstrap undervoltage inserts a low-side refresh in the next period. Operands: the instant in ns; the leg and its bootstrap voltage in mV. -/
  | bootstrapRefresh (t : Nat) (n : Lane) (x : Axis) (p : Phase) (mv : Nat)
  /-- R116: A bootstrap still low after 4 periods takes the leg high-impedance. Operands: the instant in ns; the leg and its bootstrap voltage in mV. -/
  | bootUv (t : Nat) (n : Lane) (x : Axis) (p : Phase) (mv : Nat)
  /-- R107: Saturation persisting for 64 gate-controlled edges increments the leg's saturation counter. Operands: the instant in ns; the leg. -/
  | gateServoSaturation (t : Nat) (n : Lane) (x : Axis) (p : Phase)
  /-- R122: A lane's off-state and Geyser test slot runs and classifies its terminals before energising. Operands: the instant in ns; the lane and the readings of its slot. -/
  | offStateDiagnostics (t : Nat) (n : Lane) (m : OffStateSample)
  /-- R128: The DC link crossing 58.5 V rising or 57.5 V falling turns the firmware Geyser on or off. Operands: the instant in ns; the DC link in mV. -/
  | firmwareGeyser (t : Nat) (n : Lane) (mv : Nat)
  /-- R128: The DC link crossing 62.0 V rising or 61.0 V falling turns the hardware Geyser on or off. Operands: the instant in ns; the DC link in mV. -/
  | hardwareGeyser (t : Nat) (n : Lane) (mv : Nat)
  /-- R129: 2 us after turn-on the Geyser current is checked and a low current marks the switch faulty. Operands: the instant in ns; the DC link in mV and the sense-cell current in mA. -/
  | geyserCurrentCheck (t : Nat) (n : Lane) (mv : Nat) (i : Nat)
  /-- R130: Geyser current of more than 1 A for 10 us unrequested opens the disconnect and requests a quench. Operands: the instant in ns; the switch current in mA and for how many ns. -/
  | geyserNotBlocking (t : Nat) (n : Lane) (i : Nat) (held : Nat)
  /-- R131: The Geyser junction above 150 C blocks both Geyser paths. Operands: the instant in ns; junction temperature in 1/16 C. -/
  | geyserHot (t : Nat) (n : Lane) (temp : Int)
  /-- R131: The Geyser junction below 130 C releases the Geyser paths. Operands: the instant in ns; junction temperature in 1/16 C. -/
  | geyserHotRelease (t : Nat) (n : Lane) (temp : Int)
  /-- R132: The link crossing 62.0 V with the Geyser unavailable shorts the low sides of each regenerating set. Operands: the instant in ns; the DC link in mV. -/
  | activeShort (t : Nat) (n : Lane) (mv : Nat)
  /-- R132: After 10 ms with link and speed low the short ends and the set returns to field control. Operands: the instant in ns; the set and the DC link in mV. -/
  | activeShortEnd (t : Nat) (n : Lane) (x : Axis) (mv : Nat)
  /-- R133: The DC link reaching 68.0 V opens the input disconnect within 2 us. Operands: the instant in ns; the DC link in mV. -/
  | inputDisconnectOpen (t : Nat) (n : Lane) (mv : Nat)
  /-- R133: The disconnect closes when supply and link have been below 64.0 V for 100 us. Operands: the instant in ns; supply and link in mV and for how many ns below. -/
  | inputDisconnectClose (t : Nat) (n : Lane) (vsup : Nat) (mv : Nat) (held : Nat)
  /-- R149: CS.MISS_LIMIT periods with predicted samples reduce the set's modulation limit. Operands: the instant in ns; the set. -/
  | windowLimited (t : Nat) (n : Lane) (x : Axis)
  /-- R149: CS.MISS_LIMIT periods without a predicted sample clear the window-limited signal. Operands: the instant in ns; the set. -/
  | windowLimitedClear (t : Nat) (n : Lane) (x : Axis)
  /-- R151: A persisting shunt or sense-cell disagreement takes the set high-impedance and marks it unusable. Operands: the instant in ns; the set and the phase concerned; none where the finding is on the sum of the set. -/
  | senseMismatch (t : Nat) (n : Lane) (x : Axis) (p : Option Phase)
  /-- R168: Carrier error above 50 ns for 16 periods sets the carrier-unlock flag. Operands: the instant in ns; the lane. -/
  | carrierUnlock (t : Nat) (n : Lane)
  /-- R176: The thermal integrator reaching E_max ramps the set's limit to ILIM_CONT. Operands: the instant in ns; the lane whose integrator it is; the set. -/
  | i2tLimit (t : Nat) (n : Lane) (x : SetRef)
  /-- R176: The thermal integrator falling below half of E_max ramps the limit back to ILIM_PEAK. Operands: the instant in ns; the lane whose integrator it is; the set. -/
  | i2tRecover (t : Nat) (n : Lane) (x : SetRef)
  /-- R179: At the first PWM peak after the step boundary following catch-spin all usable sets start switching. Operands: the instant in ns. -/
  | setsStartSwitching (t : Nat)
  /-- R179: At the step at which every axis carries torque the mode becomes Run, or Limp. Operands: the instant in ns. -/
  | runEntryComplete (t : Nat)
  /-- R180: After HOLD.DELAY at standstill the steer torque clamp ramps to the hold fraction. Operands: the instant in ns. -/
  | steerHoldStart (t : Nat)
  /-- R181: After HOLD.DELAY with steady force the brake hold search begins. Operands: the instant in ns. -/
  | brakeHoldStart (t : Nat)
  /-- R181: Each HOLD.B_DWELL lowers the brake clamp one step or settles the search. Operands: the instant in ns. -/
  | brakeHoldDwell (t : Nat)
  /-- R200: At the end of the catch time the set takes its angle and speed from the induced voltages or finds standstill. Operands: the instant in ns; the lane and what its two sets saw. -/
  | catchSpinEnd (t : Nat) (n : Lane) (m : CatchPair)
  /-- R197: At the end of OBS.ACQ_TIME non-converged observers clear angle valid and polarity detection follows. Operands: the instant in ns; the axis. -/
  | angleAcquisitionEnd (t : Nat) (x : Axis)
  /-- R198: A lane's sets apply d-axis pulses and decide the magnet polarity. Operands: the instant in ns; the pulse times of the attempts of the S set and the B set. -/
  | polarityDetection (t : Nat) (n : Lane) (ms : List PulsePair) (mb : List PulsePair)
  /-- R199: After every lane has decided, the lanes compare polarities in the common reference. Operands: the instant in ns; the axis. -/
  | polarityCompare (t : Nat) (x : Axis)
  /-- R204: No valid estimate for OBS.HOLDOVER removes the axis's sets and leads to Limp. Operands: the instant in ns; the axis. -/
  | consensusLost (t : Nat) (x : Axis)
  /-- R205: A deviation beyond the limit for OBS.CONSENSUS_PERIODS sets self-suspect and draws reason-3 votes. Operands: the instant in ns; the deviating lane and the axis. -/
  | angleSuspect (t : Nat) (n : Lane) (x : Axis)
  /-- R207: With two estimates disagreeing, the one farther from the prediction draws a reason-3 vote. Operands: the instant in ns; the outlier's lane and the axis. -/
  | angleOutlier (t : Nat) (n : Lane) (x : Axis)
  /-- R208: An injection response out of range for 4 cycles clears angle valid. Operands: the instant in ns; the set. -/
  | obsInjFault (t : Nat) (n : Lane) (x : Axis)
  /-- R208: A back-EMF flux out of range for 16 periods clears angle valid while it lasts. Operands: the instant in ns; the set. -/
  | obsPsiMismatch (t : Nat) (n : Lane) (x : Axis)
  /-- R212: SVCC_n below 4.50 V for 1 ms invalidates the lane's ports. Operands: the instant in ns; SVCC_n in mV and for how many ns. -/
  | svccFault (t : Nat) (n : Lane) (mv : Nat) (held : Nat)
  /-- R212: SVCC_n above 4.75 V for 1 ms clears the supply-fault bit. Operands: the instant in ns; SVCC_n in mV and for how many ns. -/
  | svccRecover (t : Nat) (n : Lane) (mv : Nat) (held : Nat)
  /-- R212: During overload the sensor supply retries full current every 100 ms. Operands: the instant in ns; the lane. -/
  | svccRetry (t : Nat) (n : Lane)
  /-- R221: QUAD.ILLEGAL_LIMIT illegal transitions within the window clear position-valid. Operands: the instant in ns; the lane. -/
  | quadInvalid (t : Nat) (n : Lane)
  /-- R222: More than 1,000 edges in 100 us clear position-valid. Operands: the instant in ns; the lane. -/
  | quadOverrate (t : Nat) (n : Lane)
  /-- R224: After QUAD.RECOVER without faults the port re-references from its peers and sets position-valid. Operands: the instant in ns; the lane. -/
  | quadRecover (t : Nat) (n : Lane)
  /-- R226: A switch input stable for SWx.FILTER changes its filtered state. Operands: the instant in ns; the input, its sampled level and for how many ns stable. -/
  | switchChange (t : Nat) (n : Lane) (k : SwPort) (high : Bool) (held : Nat)
  /-- R227: More than SW.CHATTER_K changes in the window set the input aside. Operands: the instant in ns; the input and the instants at which its sampled level has changed since the last event. -/
  | chatter (t : Nat) (n : Lane) (k : SwPort) (ats : List Nat)
  /-- R227: A whole chatter window without change ends the episode and restores validity. Operands: the instant in ns; the input, its present level, ns without a change. -/
  | chatterEnd (t : Nat) (n : Lane) (k : SwPort) (high : Bool) (held : Nat)
  /-- R228: A switch active beyond its plausibility is set aside. Operands: the instant in ns; the input. -/
  | stuck (t : Nat) (n : Lane) (k : SwPort)
  /-- R231: A compare slot whose source crosses its value latches time and value and enters fired. Operands: the instant in ns; the slot, and the time and the value of the crossing that its source has made. -/
  | compareFire (t : Nat) (n : Lane) (k : BitVec 2) (stamp : Dword) (v : Int)
  /-- R252: Current rise or the end-stop switch detects an end stop during a steer seek. Operands: the instant in ns. -/
  | homingEndDetected (t : Nat)
  /-- R253: An end-stop indication in the wrong direction aborts homing with reason 2. Operands: the instant in ns. -/
  | homingSwitchUnexpected (t : Nat)
  /-- R254: The B1 retract completes and closing begins. Operands: the instant in ns. -/
  | brakeRetractDone (t : Nat)
  /-- R254: The force reaching HOME.B_KISS_FORCE records the kiss point. Operands: the instant in ns. -/
  | brakeKissPoint (t : Nat)
  /-- R254: The force reaching HOME.B_STIFF_FORCE records the stiffness and sets the offsets. Operands: the instant in ns. -/
  | brakeStiffnessPoint (t : Nat)
  /-- R251: The final homing move reaches its target, the records are stored and completion is logged. Operands: the instant in ns; the axis. -/
  | homingDone (t : Nat) (x : Axis)
  /-- R256: HOME.TIMEOUT from HOMING_START aborts homing with reason 1. Operands: the instant in ns. -/
  | homingTimeout (t : Nat)
  /-- R262: ENA_n active for 1 ms signals wake and starts Boot of the lane. Operands: the instant in ns; the lane and for how many ns its ENA has been active. -/
  | wake (t : Nat) (n : Lane) (held : Nat)
  /-- R262: ENA_n stable for 200 us changes the filtered state and advances the Enable test. Operands: the instant in ns; the lane, the sampled level and for how many ns stable. -/
  | enaFilterChange (t : Nat) (n : Lane) (on : Bool) (held : Nat)
  /-- R265: A test not passed within ENA.TEST_TIMEOUT of Active entry is logged. Operands: the instant in ns; the lane. -/
  | enaTestTimeout (t : Nat) (n : Lane)
  /-- R271: A lone inactive ENA for ENA.DISAGREE_TIME withdraws that lane's permission. Operands: the instant in ns; the lane. -/
  | enaWithdrawn (t : Nat) (n : Lane)
  /-- R272: After a stop both axes below the speed band for 100 ms take the legs high-impedance and the module to Ready. Operands: the instant in ns. -/
  | stopToReady (t : Nat)
  /-- R267: Every filtered ENA inactive for ENA.SLEEP_DELAY in Ready takes the module to Dormant. Operands: the instant in ns. -/
  | enaSleepDelay (t : Nat)
  /-- R267: Once the Leader's reply frame has left its window every lane enters Dormant and opens its disconnect. Operands: the instant in ns. -/
  | dormantEntry (t : Nat)
  /-- R275: MODE.SERVICE_TIMEOUT without an accepted command ends Service. Operands: the instant in ns. -/
  | serviceTimeout (t : Nat)
  /-- R268: 500 ms after the first wake edge lanes still retrying are treated as Off and the others proceed. Operands: the instant in ns. -/
  | bootWaitTimeout (t : Nat)
  /-- R268: With no lane Active and every woken ENA inactive for 1 ms the module enters Dormant. Operands: the instant in ns; for how many ns the wake comparators of all woken lanes have read inactive. -/
  | bootToDormant (t : Nat) (held : Nat)
  /-- R52: Once every participating lane has ended Boot step 7, the lanes test their vote lines and then become Active. Operands: the instant in ns; what the target lanes saw. -/
  | voteLineTest (t : Nat) (seen : List VoteLines)
  /-- R442: The module not in Ready within 500 ms of the restart fails the trial. Operands: the instant in ns. -/
  | fwTrialTimeout (t : Nat)
  /-- R443: After FW.RAISE_DELAY hours in Run or Limp each lane raises its anti-rollback counter. Operands: the instant in ns. -/
  | rollbackRaised (t : Nat)
  /-- R396: The effective supply crossing a level threshold for its qualification time changes the shedding level. Operands: the instant in ns; the lane, VSUP_n and its DC link in mV. -/
  | supplyShed (t : Nat) (n : Lane) (vsup : Nat) (link : Nat)
  /-- R400: The armed 14 V comparator sets the Caldera through the self-quench input. Operands: the instant in ns; the lane, VSUP_n and its DC link, and for how many ns the comparator has seen them so. -/
  | supplyQuench (t : Nat) (n : Lane) (v : SupplyMv) (held : Nat)
  /-- R402: A supply-only quenched lane restarts after SUPPLY.RESTART_DELAY above 15 V. Operands: the instant in ns; the lane, VSUP_n and its DC link, and for how many ns they have stood so. -/
  | supplyRestart (t : Nat) (n : Lane) (v : SupplyMv) (held : Nat)
  /-- R406: VSUP_n at 61.0 V opens the input disconnect. Operands: the instant in ns; VSUP_n in mV. -/
  | supplyOvOpen (t : Nat) (n : Lane) (mv : Nat)
  /-- R406: VSUP_n below 58.0 V for 1 ms closes the disconnect. Operands: the instant in ns; VSUP_n in mV and for how many ns. -/
  | supplyOvClose (t : Nat) (n : Lane) (mv : Nat) (held : Nat)
  /-- R404: The DC link above VSUP_n by 20 mV makes the disconnect block within 1 us. Operands: the instant in ns; supply and link in mV. -/
  | disconnectBlock (t : Nat) (n : Lane) (vsup : Nat) (mv : Nat)
  /-- R404: The DC link reaching VSUP_n less 2 V completes precharge. Operands: the instant in ns; supply and link in mV. -/
  | prechargeComplete (t : Nat) (n : Lane) (vsup : Nat) (mv : Nat)
  /-- R404: A precharge not complete in 5 ms keeps the lane in reset and retries every 100 ms. Operands: the instant in ns; the lane. -/
  | prechargeRetry (t : Nat) (n : Lane)
  /-- R415: A reset source disables the gate drivers, sets fuse-map pad states and stops votes and transmitters. Operands: the instant in ns; the lane and the source. -/
  | resetAssert (t : Nat) (n : Lane) (src : ResetSource)
  /-- R417: RST_n low for 1 us or longer asserts reset cause 5. Operands: the instant in ns; for how many ns RST_n has been low. -/
  | externalReset (t : Nat) (n : Lane) (low : Nat)
  /-- R417: 25 us after the lane stops driving RST_n it samples the pin to decide on external reset. Operands: the instant in ns; whether the pin reads low. -/
  | rstHandshakeSample (t : Nat) (n : Lane) (low : Bool)
  /-- R416: 20 us after the last condition a domain leaves reset and the lane proceeds through Boot. Operands: the instant in ns; the lane and what its Boot checks found. -/
  | resetRelease (t : Nat) (n : Lane) (b : BootChecks)
  /-- R419: 256 consecutive tap periods within 2 percent qualify a clock domain. Operands: the instant in ns; the lane, the domain, the last tap periods in ps, newest first, and the periods of QOSC counted over 256 tap periods of REF. -/
  | clockQualified (t : Nat) (n : Lane) (d : Fin 13) (taps : List Nat) (count : Nat)
  /-- R420: A domain not qualified within 2 ms fails qualification. Operands: the instant in ns; the domain and the ns since its source was enabled. -/
  | clockQualFail (t : Nat) (n : Lane) (d : Fin 13) (waited : Nat)
  /-- R420: Every 100 ms a lane held by a failed core clock retries qualification. Operands: the instant in ns; the lane. -/
  | clockQualRetry (t : Nat) (n : Lane)
  /-- R421: Four consecutive tap periods outside 2 percent lose a qualified domain. Operands: the instant in ns; the lane, the domain and the last tap periods in ps, newest first. -/
  | clockLoss (t : Nat) (n : Lane) (d : Fin 13) (taps : List Nat)
  /-- R413: No application cycle start for 2 ms forces the quench request and may self-quench. Operands: the instant in ns; the lane. -/
  | watchdog (t : Nat) (n : Lane)
  /-- R413: 10 ms after the watchdog trips the lane resets with cause 7. Operands: the instant in ns; the lane. -/
  | watchdogReset (t : Nat) (n : Lane)
  /-- R496: An incoming vote line of an Isolated target falls, so the target's legs stay high-impedance but it may rejoin or retry. Operands: the instant in ns; the target of the withdrawn vote. -/
  | voteWithdrawn (t : Nat) (n : Lane)
  /-- R221: A filtered edge, or an illegal double transition, on QA_n or QB_n counts the hardware counter or increments QERR. Operands: the instant in ns; the lane, the levels of QA_n and QB_n, and the number of samples for which the line that last changed has stood at its level. -/
  | quadEdge (t : Nat) (n : Lane) (v : QuadLevels) (stable : Nat)
  /-- R441: Every Active lane finishes checking its transferred copy, and the verification state becomes passed or failed. Operands: the instant in ns. -/
  | fwVerifyComplete (t : Nat)
  /-- R446: The signed attestation report is made, within 8 ms of the challenge, and becomes readable. Operands: the instant in ns; the lane that made the report. -/
  | attestReportDone (t : Nat) (n : Lane)
  /-- R405: After Dormant entry the DC link falls below 5 V and the active bleeder turns off. Operands: the instant in ns; the DC link in mV. -/
  | bleederOff (t : Nat) (n : Lane) (mv : Nat)
  /-- R404: The DC link falls back below VSUP_n, so the blocking input disconnect conducts forward again and the firmware Geyser inhibit of R406 resumes. Operands: the instant in ns; supply and link in mV. -/
  | disconnectConductForward (t : Nat) (n : Lane) (vsup : Nat) (mv : Nat)
  /-- R466: After bus-off, the host-port bridge recovers once 128 × 11 recessive bits have passed. Operands: the instant in ns; recessive bits that have passed. -/
  | busOffRecovery (t : Nat) (bits : Nat)
  /-- R466: A dominant level that the host-port transmitter holds for more than 4 ms is released. Operands: the instant in ns; for how many ns the transmitter has held a dominant level. -/
  | dominantTimeout (t : Nat) (held : Nat)
  deriving DecidableEq, Repr

end Sys2Proof
end

