-- ==== Sys2Proof/WellFormed.lean ====
section
/-! DEFINITION. Which commands are well formed: the bounds the manual puts on what a command carries. -/

namespace Sys2Proof

/-- A request carries at most 1,372 parameter bytes, and a MAC exactly when its flag says so (R327, R328). -/
def Req.wf (r : Req) : Bool := decide (r.params.length ≤ 1372) && r.mac.isSome == r.flags.getLsbD 6

/-- A Hiolo frame as received fits the Ethernet data field: at least 46 and at most 1,412 bytes (R279, R282). -/
def HFrame.wf (f : HFrame) : Bool :=
  decide (46 ≤ f.dataLen) && decide (f.dataLen ≤ 1412) && decide (f.payload.length ≤ f.dataLen - 12)

/-- A SENT frame carries 1 to 8 data pulses (R214). -/
def SentRaw.wf (f : SentRaw) : Bool := decide (1 ≤ f.data.length) && decide (f.data.length ≤ 8)

/-- Owner keys have the lengths of their algorithms (R431, R437). -/
def KeyContent.wf : KeyContent → Bool
  | .ownerKeys _ ed ml => ed.length == 32 && ml.length == 1952
  | .keyPackage bytes => decide (bytes.length ≤ 16384)

/-- The bounds of every command. -/
def Instr.wf : Instr → Bool
  | .modeRequestReady r => r.wf
  | .modeRequestRun r => r.wf
  | .modeRequestService r => r.wf
  | .modeRequestDormant r => r.wf
  | .modeStatus r => r.wf
  | .enableTestStatus r => r.wf
  | .steerAngle r => r.wf
  | .steerTorque r => r.wf
  | .steerMoveAt r => r.wf
  | .steerHold r => r.wf
  | .brakeForce r => r.wf
  | .brakePosition r => r.wf
  | .brakeRelease r => r.wf
  | .brakeParkApply r => r.wf
  | .brakeParkRelease r => r.wf
  | .profileLimits r => r.wf
  | .vectorMove r => r.wf
  | .paramReadKey r => r.wf
  | .paramReadMemory r => r.wf
  | .paramWrite r => r.wf
  | .paramCommit r => r.wf
  | .paramCommitDone _ => true
  | .paramImageInfo r => r.wf
  | .measureLoadStart r => r.wf
  | .measureLoadRead r => r.wf
  | .measureLoadComplete _ _ _ _ => true
  | .measureCableStart r => r.wf
  | .measureCableRead r => r.wf
  | .measureCableComplete _ _ _ _ => true
  | .measureSupply r => r.wf
  | .capsExchange r => r.wf
  | .selftestRun r => r.wf
  | .selftestComplete _ _ _ _ _ => true
  | .selftestResult r => r.wf
  | .healthRead r => r.wf
  | .attestChallenge r => r.wf
  | .sessionOpen r => r.wf
  | .sessionClose r => r.wf
  | .keyProvision r => r.wf
  | .fwBegin r => r.wf
  | .fwChunk r => r.wf
  | .fwVerifyStart r => r.wf
  | .fwVerifyRead r => r.wf
  | .fwActivate r => r.wf
  | .timeStatus r => r.wf
  | .scheduleLoad r => r.wf
  | .logRead r => r.wf
  | .logClear r => r.wf
  | .homingStart r => r.wf
  | .homingStartAbort r => r.wf
  | .homingStatus r => r.wf
  | .compareSet r => r.wf
  | .arbitrate r => r.wf
  | .quench r => r.wf
  | .quenchTimeout _ => true
  | .calderaClear r => r.wf
  | .commandFrame _ _ _ f => f.wf
  | .nullFrame _ _ _ f => f.wf
  | .referenceFrame _ _ _ f => f.wf
  | .capsFrame _ _ _ f => f.wf
  | .hostPortFrame _ _ _ data => decide (data.length ≤ 64)
  | .hostPortSegmentTimeout _ => true
  | .crossLaneFrameCommit _ src dst ws => src != dst && decide (10 ≤ ws.length) && decide (ws.length ≤ 57)
  | .linkLossOfSignal _ src dst => src != dst
  | .linkDown _ src dst => src != dst
  | .linkUp _ src dst => src != dst
  | .twinFrame _ _ ws => ws.length == 7
  | .twinLinkDown _ _ => true
  | .enableStateItem _ src dst _ => src != dst
  | .inboundFrameItem _ src dst _ f => f.wf && src != dst
  | .outboundStatusItem _ src dst _ _ payload => src != dst && decide (payload.length ≤ 1400)
  | .relayItemDrop _ _ _ => true
  | .almanacSegmentItem _ src dst g => src != dst && decide (g.data.length ≤ 512)
  | .scheduleReportItem _ src dst _ _ _ => src != dst
  | .timeItem _ src dst _ _ _ => src != dst
  | .sessionItem _ src dst c => c.entry.num != 0 && src != dst
  | .supplyItem _ src dst _ => src != dst
  | .bootReportItem _ src dst _ => src != dst
  | .firmwareCopyItem _ src dst _ len data => src != dst && decide (len ≤ 512) && data.length == len
  | .keyItem _ src dst e => e.wf && src != dst
  | .sentFrame _ _ _ f => f.wf
  | .sentSerialMessage _ _ _ _ _ _ => true
  | .sentTimeout _ _ _ => true
  | .applicationCycle _ _ => true
  | .outerLoopStep _ _ => true
  | .pwmPeriod _ _ _ => true
  | .currentLoopUpdate _ _ _ _ => true
  | .auxConversion _ _ _ => true
  | .statusFrameSend _ _ => true
  | .capsFrameSend _ _ _ _ => true
  | .offsetCorrection _ _ => true
  | .rateCorrection _ _ => true
  | .shutterPhaseCheck _ _ _ _ _ => true
  | .syncHoldover _ _ => true
  | .timeStep _ _ _ => true
  | .channelIntegrated _ _ _ => true
  | .joinTimeout _ _ _ => true
  | .peerSkew _ _ => true
  | .channelLost _ _ _ => true
  | .almanacSwitch _ _ => true
  | .sessionIdleTimeout _ _ => true
  | .sessionDropped _ _ => true
  | .piecewiseSnapshotExpiry _ _ _ => true
  | .healthRecordLatch _ _ => true
  | .memoryScrub _ _ _ _ => true
  | .lifetimeCounterWrite _ _ => true
  | .thermalCycleSample _ _ => true
  | .lockstepMismatch _ _ _ => true
  | .votedIsolated _ _ => true
  | .calderaSet _ _ => true
  | .torqueShadow _ _ => true
  | .profileReseed _ _ => true
  | .deputySelftestFail _ _ => true
  | .profileShadow _ _ => true
  | .linkSilence _ n target => n != target
  | .epochClaim _ n target => n != target
  | .dispute _ n target => n != target
  | .disputeTimeout _ n target => n != target
  | .leaderHandover _ _ => true
  | .leaderReturn _ _ => true
  | .deputyAssign _ _ => true
  | .deputyShadowApply _ _ => true
  | .shadowSnapshotDone _ _ => true
  | .rejoinRecordsCopied _ _ => true
  | .rejoinSnapshotReceived _ _ => true
  | .rejoinConverged _ _ => true
  | .rejoinRampEnd _ _ => true
  | .rejoinFail _ _ => true
  | .rejoinRetry _ _ => true
  | .cmdHold _ => true
  | .lossOfCommand _ => true
  | .legInterlock _ _ _ _ => true
  | .legDidt _ _ _ _ _ _ _ => true
  | .setOvercurrent _ _ _ _ _ _ => true
  | .bootstrapRefresh _ _ _ _ _ => true
  | .bootUv _ _ _ _ _ => true
  | .gateServoSaturation _ _ _ _ => true
  | .offStateDiagnostics _ _ _ => true
  | .firmwareGeyser _ _ _ => true
  | .hardwareGeyser _ _ _ => true
  | .geyserCurrentCheck _ _ _ _ => true
  | .geyserNotBlocking _ _ _ _ => true
  | .geyserHot _ _ _ => true
  | .geyserHotRelease _ _ _ => true
  | .activeShort _ _ _ => true
  | .activeShortEnd _ _ _ _ => true
  | .inputDisconnectOpen _ _ _ => true
  | .inputDisconnectClose _ _ _ _ _ => true
  | .windowLimited _ _ _ => true
  | .windowLimitedClear _ _ _ => true
  | .senseMismatch _ _ _ _ => true
  | .carrierUnlock _ _ => true
  | .i2tLimit _ _ _ => true
  | .i2tRecover _ _ _ => true
  | .setsStartSwitching _ => true
  | .runEntryComplete _ => true
  | .steerHoldStart _ => true
  | .brakeHoldStart _ => true
  | .brakeHoldDwell _ => true
  | .catchSpinEnd _ _ _ => true
  | .angleAcquisitionEnd _ _ => true
  | .polarityDetection _ _ ms mb => decide (ms.length ≤ 3) && decide (mb.length ≤ 3)
  | .polarityCompare _ _ => true
  | .consensusLost _ _ => true
  | .angleSuspect _ _ _ => true
  | .angleOutlier _ _ _ => true
  | .obsInjFault _ _ _ => true
  | .obsPsiMismatch _ _ _ => true
  | .svccFault _ _ _ _ => true
  | .svccRecover _ _ _ _ => true
  | .svccRetry _ _ => true
  | .quadInvalid _ _ => true
  | .quadOverrate _ _ => true
  | .quadRecover _ _ => true
  | .switchChange _ _ _ _ _ => true
  | .chatter _ _ _ _ => true
  | .chatterEnd _ _ _ _ _ => true
  | .stuck _ _ _ => true
  | .compareFire _ _ _ _ _ => true
  | .homingEndDetected _ => true
  | .homingSwitchUnexpected _ => true
  | .brakeRetractDone _ => true
  | .brakeKissPoint _ => true
  | .brakeStiffnessPoint _ => true
  | .homingDone _ _ => true
  | .homingTimeout _ => true
  | .wake _ _ _ => true
  | .enaFilterChange _ _ _ _ => true
  | .enaTestTimeout _ _ => true
  | .enaWithdrawn _ _ => true
  | .stopToReady _ => true
  | .enaSleepDelay _ => true
  | .dormantEntry _ => true
  | .serviceTimeout _ => true
  | .bootWaitTimeout _ => true
  | .bootToDormant _ _ => true
  | .voteLineTest _ seen => decide (seen.length ≤ 3)
  | .fwTrialTimeout _ => true
  | .rollbackRaised _ => true
  | .supplyShed _ _ _ _ => true
  | .supplyQuench _ _ _ _ => true
  | .supplyRestart _ _ _ _ => true
  | .supplyOvOpen _ _ _ => true
  | .supplyOvClose _ _ _ _ => true
  | .disconnectBlock _ _ _ _ => true
  | .prechargeComplete _ _ _ _ => true
  | .prechargeRetry _ _ => true
  | .resetAssert _ _ _ => true
  | .externalReset _ _ _ => true
  | .rstHandshakeSample _ _ _ => true
  | .resetRelease _ _ _ => true
  | .clockQualified _ _ _ _ _ => true
  | .clockQualFail _ _ _ _ => true
  | .clockQualRetry _ _ => true
  | .clockLoss _ _ _ _ => true
  | .watchdog _ _ => true
  | .watchdogReset _ _ => true
  | .voteWithdrawn _ _ => true
  | .quadEdge _ _ _ _ => true
  | .fwVerifyComplete _ => true
  | .attestReportDone _ _ => true
  | .bleederOff _ _ _ => true
  | .disconnectConductForward _ _ _ _ => true
  | .busOffRecovery _ _ => true
  | .dominantTimeout _ _ => true

end Sys2Proof
end

