-- ==== Sys2Proof/Decode.lean ====
section
/-! DEFINITION. The decoder over the rows of the table that give bits. The table of this block gives no row any bits, so
no word spells a command. -/

namespace Sys2Proof

/-- The command a word of the table spells: none, since no row of the table carries bits. -/
def decodeTableWord (_nbits _w : Nat) : Option Instr := none

end Sys2Proof
end

