-- ==== Sys2Proof/Config.lean ====
section
/-! DEFINITION. What an implementation fixes and the values the manual leaves open: constants without a body, so that no
proof can see which value they hold. -/

namespace Sys2Proof

/-- The ordering grade is A1, with a maximum baseplate temperature of 125 C; otherwise A0 with 105 C (R1). A device is
ordered under one of them; the manual covers both. -/
opaque Config.gradeA1 : Bool

/-- Fresh random bytes of the module: the nonces of R448, by draw. -/
opaque Config.nonce : Nat → BitVec 128

/-- The delay in ns of the link from one lane to another, which a round-trip measurement at Boot determines (R168, R322). -/
opaque Config.linkDelay : (src dst : BitVec 2) → Nat

/-- A free number by draw, for values the manual does not state. -/
opaque Config.freeInt : Nat → Int

/-- Whether a low of RST_n from 0.2 to 1 us asserts cause 5, by draw: the manual leaves it to the spread of the filter
(R417). -/
opaque Config.rstBand : Nat → Bool

/-- AES-128-CMAC of NIST SP 800-38B (R331, R448). -/
opaque Config.cmac : BitVec 128 → List Byte → BitVec 128

/-- SHA-512/256 (R69, R359, R429). -/
opaque Config.hash : List Byte → BitVec 256

/-- The Ed25519 check of a signature over a message by a public key (R431). -/
opaque Config.ed25519Ok : (key msg sig : List Byte) → Bool

/-- The ML-DSA-65 check of a signature over a message by a public key (R431). -/
opaque Config.mlDsaOk : (key msg sig : List Byte) → Bool

/-- The two signatures of an attestation report by the lane's identity keys (R446). -/
opaque Config.identitySign : Lane → List Byte → List Byte

/-- The lane identity certificate chain of an attestation report (R446). -/
opaque Config.identityChain : Lane → List Byte

/-- The X25519 and ML-KEM-768 public keys of a lane, 1,216 bytes (R445, R446). -/
opaque Config.encapKeys : Lane → List Byte

/-- The Ohmuz release root: its Ed25519 and its ML-DSA-65 public key (R432). -/
opaque Config.releaseEd : List Byte
opaque Config.releaseMl : List Byte

/-- What the body of a parameter image holds: vehicle identity and base values (R432, R441). The manual does not give the
layout of that body. -/
opaque Config.imageOf : List Byte → BitVec 64 × List (BitVec 16 × Int)

/-- The unwrapped key block of one lane of a key package (R450): none where the unwrapping fails. -/
opaque Config.unwrapKeys : Lane → List Byte → Option (List Byte)

/-- Which 8 of the columns of weight 5 the parity-check matrix uses, which column belongs to which data bit, and which column
of even weight to which address bit, each as the choices of a selection without return (R26 leaves the three open). -/
opaque Config.columns5 : List Nat
opaque Config.dataOrder : List Nat
opaque Config.addrOrder : List Nat

/-- The 4-bit fast-channel CRC of SENT frames, legacy or recommended, over the data nibbles (R215). -/
opaque Config.sentCrc : (recommended : Bool) → List (BitVec 4) → BitVec 4

/-- The CRCs of SENT serial messages: 4 bits over the 12 bits of a short message, 6 bits over the 24 bits of an enhanced one (R219;
the manual leaves them to SAE J2716). -/
opaque Config.serialCrc4 : List Bool → BitVec 4
opaque Config.serialCrc6 : List Bool → BitVec 6

/-- Sine and cosine of an electrical angle of 360/65536 degrees per code (R159). -/
opaque Config.sin : BitVec 16 → Rat
opaque Config.cos : BitVec 16 → Rat

/-- Steer axis units that one electrical revolution of the steer motor moves the rack (R91): a property of the actuator. -/
opaque Config.steerUnitsPerRev : Rat

/-- What an axis reads while it has neither a valid sensor value nor a reference, by instant (R91 states none). -/
opaque Config.noReading : Axis → Nat → Int

/-- The square root the field engine computes (R165, R175). -/
opaque Config.sqrt : Rat → Rat

/-- The circle constant of R161. -/
opaque Config.pi : Rat

/-- The outer-loop law of one axis: from its kind of setpoint (1 a brake position, else 0), state, setpoint, its rate, feedback
and speed to its new state and its torque reference in mA (R240, R243). -/
opaque Config.outerLaw : Axis × Nat → (state : Int) → (setpoint rate feedback : Rat) → (speed : Int) → Int × Int

/-- Torque that a speed-mode loop asks for, in mA (R182, R183). -/
opaque Config.speedLaw : Axis → (state : Int) → (setpoint : Rat) → (speed : Int) → Int × Int

/-- The tracking loop of an observer: from its angle, speed, angle error in rad, the set's own voltage references in V, bandwidth in
Hz and time step in s to its new angle and speed (R189, R191). The manual gives its order and bandwidth; it names the voltage references
among the observer's inputs and does not say what they do. -/
opaque Config.pll : (theta : BitVec 16) → (omega : Int) → (err : Rat) → (vref : Rat × Rat) → (bw : Rat) → (dt : Rat) →
  BitVec 16 × Int

/-- The angle of a vector in codes of 360/65536 degrees (R192). -/
opaque Config.atan2 : (y x : Rat) → BitVec 16

/-- The q response in A of a set to the injection of a peer: from the angle between the two estimates, the injection phase, the
peer's amplitude and the coupling factor (R194). -/
opaque Config.coupledQ : (angle phi : BitVec 16) → (amp km : Rat) → Rat

/-- The axis of the peers' injection as induced in a floating winding, as an angle error in rad (R195). -/
opaque Config.floatAxis : (theta : BitVec 16) → (term : Rat × Rat) → Rat

/-- The notch at the injection frequency: from the last two inputs, the present input and the last two outputs to its output,
for an injection frequency and an update rate in Hz (R163). -/
opaque Config.notch : (fInj fu : Rat) → List (Rat × Rat) → Rat × Rat → List (Rat × Rat) → Rat × Rat

/-- The factory table of plateau codes, by leg temperature in 1/16 C, DC link in mV and edge: 0 high-side turn-on, 1 high-side
turn-off, 2 low-side turn-on, 3 low-side turn-off (R106). -/
opaque Config.gateTable : (temp : Int) → (link edge : Nat) → BitVec 8

end Sys2Proof
end

