-- ==== Sys2Proof/Machine/State.lean ====
section
/-! DEFINITION. The state of the module: every register, buffer, counter, latch and mode the manual gives it, as plain
data, and the state right after reset. A field's default value is its value at reset. -/

namespace Sys2Proof.Machine

/-- What stops the block for good. The manual gives every command and event of the table an effect, so no meaning
raises one; the type has a single reason for a queue the step could not take a command from, which never occurs.
Safe: a run that stopped would prove nothing. -/
inductive Fault where
  /-- Raised by no meaning. Safe. -/
  | never
  deriving DecidableEq, Repr

/-- Why a command has no meaning. -/
inductive Refusal where
  /-- The command has no meaning yet. Raised only by the dispatch table. Safe. -/
  | notModelled (mnemonic : String)
  deriving DecidableEq, Repr


/-- The fields of the newest committed cross-lane frame of one peer (R37), as the receiving lane keeps them. -/
structure XView where
  /-- Word H (R37). -/
  h : Dword := 0
  /-- Word S1 (R37). -/
  s1 : Dword := 0
  /-- Word S2 (R37). -/
  s2 : Dword := 0
  /-- Word S3 (R37). -/
  s3 : Dword := 0
  /-- Word S4 (R37). -/
  s4 : Dword := 0
  /-- Word S5 (R37). -/
  s5 : Dword := 0
  /-- Word S6 (R37). -/
  s6 : Dword := 0
  /-- Word S7 (R37). -/
  s7 : Dword := 0
  /-- Word T (R37). -/
  tq : Dword := 0
  deriving DecidableEq, Repr

/-- One incoming cross-lane link direction of a lane, with what arrives over it. -/
structure LinkIn where
  /-- Fields of the newest committed frame (R34, R37). -/
  view : XView := {}
  /-- Words H, S1 to S7 and T of the newest frame sent to the peer (R34, R37). -/
  out : XView := {}
  /-- Relay words of that frame (R34, R36). -/
  outRelay : List Dword := []
  /-- Rest of the relay item that has started toward the peer (R36). -/
  txPart : List Byte := []
  /-- Relay items waiting for the peer, oldest first (R36, R299). -/
  txq : List (List Byte) := []
  /-- Relay-stream bytes received and not yet a whole item (R36). -/
  rxb : List Byte := []
  /-- The item being received has lost bytes with a lost frame (R36, R39). -/
  rxBad : Bool := false
  /-- Whole relay items received and not yet handled, oldest first (R299). -/
  items : List (List Byte) := []
  /-- A frame has been committed since the link last came up (R34). -/
  heard : Bool := false
  /-- A frame has shown that the peer hears this lane (R40). -/
  heardMe : Bool := false
  /-- The receiver sees signal; false is loss of signal (R17). -/
  signal : Bool := false
  /-- A frame was committed in the present PWM period (R39). -/
  got : Bool := false
  /-- Consecutive lost frames (R39). -/
  lost : Nat := 0
  /-- Consecutive committed frames while the direction is down (R39). -/
  good : Nat := 0
  /-- Direction declared down (R39). -/
  down : Bool := false
  /-- Instant of that declaration (R46). -/
  downSince : Nat := 0
  /-- The peer's filtered ENA from its relay item (R262). -/
  ena : Bool := false
  /-- The peer's newest supply item (R374). -/
  supply : Option SupplyEntry := none
  /-- When that item arrived (R375). -/
  supplyAt : Nat := 0
  /-- The peer's newest report of its active and pending schedule ID and activation time (R295). -/
  sched : Option (Word × Word × Dword) := none
  /-- Deviation of the newest time item in ns, its integrated flag, its arrival (R321). -/
  time : Option (Int × Bool × Nat) := none
  /-- The receiver's Meridian at the end delimiter of the frame that brought it (R322). -/
  timeRx : Int := 0
  /-- Consecutive basic cycles with a skew beyond the limit (R323). -/
  skew : Nat := 0
  /-- The peer's newest boot report (R440). -/
  boot : Option BootReport := none
  /-- Command frames replaced by a newer one and not yet counted (R300). -/
  overIn : Nat := 0
  /-- Status item of the relayed peer waiting for this lane's window: epoch, freshness, payload, since when (R300). -/
  relayOut : Option (Half × Half × List Byte × Nat) := none
  /-- Status items overtaken by a newer one and not yet counted (R300). -/
  overOut : Nat := 0
  deriving DecidableEq, Repr

/-- What a leg owes and has been given, as it stood before the newest values were shaped (R145, R158). -/
structure LegAcct where
  /-- Residue of the edge shift (R145). -/
  residue : Int := 0
  /-- High time lost in a refresh (R115). -/
  lossSteps : Int := 0
  /-- Running remainder of overmodulation (R114). -/
  carry : Rat := 0
  /-- The period of overmodulation runs at 100 % (R114). -/
  full : Bool := false
  /-- A refresh pulse stands at the valley (R115). -/
  pulse : Bool := false
  /-- Not shifted in the next sampling half (R146). -/
  blocked : Bool := false
  /-- A refresh is due (R115). -/
  refresh : Bool := false
  /-- Consecutive periods a refresh was moved (R147). -/
  moved : Nat := 0
  deriving DecidableEq, Repr

/-- One phase leg. -/
structure LegSt where
  /-- Held high-impedance until an off-state test passes (R112). -/
  tripped : Bool := false
  /-- Plateau code, high side turn-on (R104). -/
  kHsOn : Byte := 0
  /-- Plateau code, high side turn-off (R104). -/
  kHsOff : Byte := 0
  /-- Plateau code, low side turn-on (R104). -/
  kLsOn : Byte := 0
  /-- Plateau code, low side turn-off (R104). -/
  kLsOff : Byte := 0
  /-- Consecutive gate-controlled edges at which each code stood saturated at 255 or at 0: code, at 255, edges (R107). -/
  satRuns : List (Nat × Bool × Nat) := []
  /-- Gate-servo saturation counter (R107). -/
  satCount : Half := 0
  /-- Bootstrap undervoltage signalled (R115). -/
  uv : Bool := false
  /-- PWM periods since it was first signalled (R116). -/
  uvPeriods : Nat := 0
  /-- A refresh is due in the next period (R115). -/
  refresh : Bool := false
  /-- Consecutive periods a refresh was moved (R147). -/
  moved : Nat := 0
  /-- High time lost in a refresh, owed to the following period (R115). -/
  lossSteps : Int := 0
  /-- Residue of the edge shift (R145). -/
  residue : Int := 0
  /-- Running remainder of overmodulation, in counter steps of high time (R114). -/
  carry : Rat := 0
  /-- The present period of overmodulation runs at 100 % (R114). -/
  full : Bool := false
  /-- A refresh pulse stands at the valley of the period being planned (R115). -/
  pulse : Bool := false
  /-- Duty in force (R157). -/
  duty : Rat := 0
  /-- Duty ready in the shadow register (R158). -/
  next : Rat := 0
  /-- Edge time in force in the half that counts down (R142). -/
  edge : Int := 0
  /-- Edge time in force in the half that counts up (R145). -/
  edgeUp : Int := 0
  /-- Edge time ready for the half that counts down (R142). -/
  nextEdge : Int := 0
  /-- Edge time ready for the half that counts up (R145). -/
  nextUp : Int := 0
  /-- Not shifted in the next sampling half (R146). -/
  blocked : Bool := false
  /-- What it owed before the values that are ready were shaped: taken back where they are discarded (R158). -/
  undo : LegAcct := {}
  /-- Leg temperature (R152). -/
  temp : Int := 400
  /-- Terminal half-period average, 20 mV (R152). -/
  term : BitVec 12 := 0
  deriving DecidableEq, Repr

/-- The rotor-angle observer of one set. -/
structure ObsSt where
  /-- Angle estimate, set offset added (R189, R190). -/
  theta : Half := 0
  /-- Electrical speed estimate (R189). -/
  omega : Int := 0
  /-- Region code (R191, R195). -/
  region : BitVec 2 := 3
  /-- Angle valid (R195). -/
  valid : Bool := false
  /-- Angle valid cleared until the next Run entry: not converged, polarity undecided, catch-spin failed (R208). -/
  latched : Bool := false
  /-- Angle valid cleared until the next Run entry or rejoin: injection response out of range (R208). -/
  injFault : Bool := false
  /-- Back-EMF flux condition holds (R208). -/
  psiBad : Bool := false
  /-- Self-suspect (R205). -/
  suspect : Bool := false
  /-- Consecutive periods within 4 degrees of the consensus while Rejoining (R69). -/
  near : Nat := 0
  /-- Consecutive injection cycles with the response out of range (R208). -/
  injRun : Nat := 0
  /-- Consecutive periods with the flux out of range (R208). -/
  psiRun : Nat := 0
  /-- Injection index (R193). -/
  j : Nat := 0
  /-- Demodulation accumulator (R194). -/
  acc : Rat := 0
  /-- Demodulated error, held between cycles (R194). -/
  eInj : Rat := 0
  /-- Angle latched for the frame of the present period (R190). -/
  pub : Half := 0
  /-- Speed latched for it (R190). -/
  pubOmega : Int := 0
  /-- Instant of the estimate (R190). -/
  at_ : Nat := 0
  /-- Integrated flux in the stationary frame (R192). -/
  flux : Rat × Rat := (0, 0)
  /-- Start at standstill: 0 tracking, 1 tracked, 2 polarity decided, 3 not to be decided (R197, R198). -/
  stage : BitVec 2 := 0
  /-- Magnitude of the corrected flux (R192, R208). -/
  mag : Rat := 0
  /-- Accumulator of the response along the d axis (R208). -/
  accD : Rat := 0
  /-- Repetitions of the comparison (R199). -/
  tries : Nat := 0
  /-- Flux of the newest catch-spin or floating observation (R377). -/
  psi : Option Nat := none
  /-- The last catch-spin found the set turning (R200). -/
  turning : Bool := false
  /-- The present start has ended catch-spin (R200). -/
  caught : Bool := false
  /-- Angle of the corrected flux vector, set offset added (R192, R200). -/
  phi : Half := 0
  /-- How far that angle has turned since the catch time began, in codes (R200). -/
  sweep : Int := 0
  /-- First update of the catch time (R200). -/
  sweepFrom : Option Nat := none
  /-- Pulses of the last polarity detection: d voltage applied in V and, where the current reached its level, the time taken in ns
  (R198). -/
  pulses : List (Rat × Option Nat) := []
  deriving DecidableEq, Repr

/-- The measured load quantities of one set (R362). -/
structure LoadRec where
  /-- Valid mask (R362). -/
  valid : BitVec 4 := 0
  /-- R_U, 0.1 mOhm (R362). -/
  ru : Half := 0
  /-- R_V (R362). -/
  rv : Half := 0
  /-- R_W (R362). -/
  rw : Half := 0
  /-- L_D, 0.1 uH (R362). -/
  ld : Half := 0
  /-- L_Q (R362). -/
  lq : Half := 0
  /-- PSI, 0.01 mWb (R362). -/
  psi : Half := 0
  /-- Lead length, 0.1 m (R362). -/
  lead : Half := 0
  deriving DecidableEq, Repr

/-- One set: its field engine, modulation, current chain and protection. -/
structure SetSt where
  /-- Leg U (R2). -/
  u : LegSt := {}
  /-- Leg V (R2). -/
  v : LegSt := {}
  /-- Leg W (R2). -/
  w : LegSt := {}
  /-- Its observer (R189). -/
  obs : ObsSt := {}
  /-- The legs switch (R179). -/
  switching : Bool := false
  /-- Set unusable until an off-state test passes (R112, R124). -/
  unusable : Bool := false
  /-- Dead time loaded at Run entry (R108, R109). -/
  dead : Nat := 16
  /-- Active short applied (R132). -/
  short : Bool := false
  /-- Its start (R132). -/
  shortAt : Nat := 0
  /-- Last completed period fed power into the DC link (R132, R156). -/
  flowIn : Bool := false
  /-- The period in progress does (R156). -/
  flowNow : Bool := false
  /-- Share in force (R169). -/
  share : Rat := 0
  /-- Availability published (R170). -/
  avail : Rat := 0
  /-- Ramp fraction of a rejoin (R70). -/
  ramp : Rat := 1
  /-- Last 16 offset samples, newest first (R138). -/
  offs : List Int := []
  /-- Periods since the last offset sample (R138). -/
  offTick : Nat := 0
  /-- Consecutive offset samples with the mean beyond 0.5 A (R151). -/
  offBad : Nat := 0
  /-- Consecutive periods with a predicted sample (R149). -/
  miss : Nat := 0
  /-- Consecutive periods without one (R149). -/
  clean : Nat := 0
  /-- Window-limited (R149). -/
  limited : Bool := false
  /-- Consecutive periods of kind 1 (R151). -/
  xc1 : Nat := 0
  /-- Consecutive periods of kind 2 (R151). -/
  xc2 : Nat := 0
  /-- Consecutive periods of kind 4 (R151). -/
  xc4 : Nat := 0
  /-- Deferred-offset counter (R138). -/
  cDefer : Half := 0
  /-- Blocked-shift counter (R146). -/
  cBlock : Half := 0
  /-- Predicted-sample counter (R148). -/
  cPred : Half := 0
  /-- Cross-check counter (R150). -/
  cCross : Half := 0
  /-- Late-update counter (R158). -/
  cLate : Half := 0
  /-- Current-clamp counter (R175). -/
  cClamp : Half := 0
  /-- Window-limited episodes (R149). -/
  cWin : Half := 0
  /-- Duty values ready and not yet in force (R158). -/
  pending : Bool := false
  /-- When they were ready (R158). -/
  ready : Nat := 0
  /-- A sample of the present period was predicted (R148). -/
  pred : Bool := false
  /-- A shunt current of the present period disagreed with its sense reading (R150). -/
  bad1 : Bool := false
  /-- The sense sum of the present period was outside the limit (R150). -/
  bad2 : Bool := false
  /-- A sample of the present period was saturated with its sense reading below 90 A (R151). -/
  bad4 : Bool := false
  /-- Phase of the newest sample that disagreed (R151). -/
  who1 : Phase := .u
  /-- Phase of the largest reading of the newest sense sum outside the limit (R151). -/
  who2 : Phase := .u
  /-- Phase of the newest saturated sample (R151). -/
  who4 : Phase := .u
  /-- Window V of the half in force is not openable (R147). -/
  shut : Bool := false
  /-- The same for the half that is ready (R147). -/
  nextShut : Bool := false
  /-- The sampling half of the values that are ready is blocked (R146). -/
  nextBlocked : Bool := false
  /-- All high sides on before the last peak, in counter steps (R138). -/
  lastUp : Int := 0
  /-- Last two inputs of the notch (R163). -/
  notchIn : List (Rat × Rat) := []
  /-- Last two outputs of the notch (R163). -/
  notchOut : List (Rat × Rat) := []
  /-- Phase current U (R140). -/
  iu : Rat := 0
  /-- Phase current V (R140). -/
  iv : Rat := 0
  /-- Phase current W (R140). -/
  iw : Rat := 0
  /-- Rotor-frame currents (R157). -/
  idq : Rat × Rat := (0, 0)
  /-- Voltage vector in force (R165). -/
  vdq : Rat × Rat := (0, 0)
  /-- Voltage vector of the values that are ready (R165). -/
  vNext : Rat × Rat := (0, 0)
  /-- Voltage vector in force before (R160). -/
  vPast : Rat × Rat := (0, 0)
  /-- When the one in force took effect (R158, R160). -/
  vAt : Nat := 0
  /-- D integrator (R161). -/
  intD : Rat := 0
  /-- Q integrator (R161). -/
  intQ : Rat := 0
  /-- D reference of field weakening (R178). -/
  idRef : Rat := 0
  /-- Peer sums of q and d references at the previous update; none before the first (R162). -/
  peers : Option (Rat × Rat) := none
  /-- A background test vector has failed (R68). -/
  vecBad : Bool := false
  /-- Measured load quantities (R362). -/
  load : LoadRec := {}
  /-- Last instant an induced line-to-line peak of 0.5 V or more was seen (R274). -/
  lastMove : Nat := 0
  deriving DecidableEq, Repr

/-- What one lane computes of one set for the shares (R169, R170, R172, R176, R177). -/
structure SetTerm where
  /-- Thermal integrator E_n (R176). -/
  heat : Rat := 0
  /-- Limit ramps to or stands at ILIM_CONT (R176). -/
  heatLow : Bool := false
  /-- Start of that ramp (R176). -/
  heatAt : Nat := 0
  /-- F_leg has reached 0 and not yet recovered (R177). -/
  legZero : Bool := false
  /-- The set's frames show a share of zero where this lane gave it one (R172). -/
  noShare : Bool := false
  /-- Share in force in this lane's computation (R169). -/
  share : Rat := 0
  deriving DecidableEq, Repr

/-- What one lane computes of the two sets of one lane. -/
structure LaneTerms where
  /-- Its S set (R169). -/
  s : SetTerm := {}
  /-- Its B set (R169). -/
  b : SetTerm := {}
  deriving DecidableEq, Repr

/-- One SENT port (R235). -/
structure SentSt where
  /-- Error bits: timing, CRC, range, status nibble, timeout (R215, R235). -/
  errs : BitVec 5 := 0
  /-- Last status nibble (R235). -/
  nibble : BitVec 4 := 0
  /-- Last data nibbles (R235). -/
  raw : Word := 0
  /-- Newest accepted value A (R216). -/
  value : Int := 0
  /-- A frame has been accepted since start-up (R218). -/
  accepted : Bool := false
  /-- The newest accepted frame passed check 5 (R217). -/
  okStatus : Bool := false
  /-- Its stamp (R216). -/
  stamp : Nat := 0
  /-- When SVCC_n rose (R218). -/
  started : Nat := 0
  /-- Instant of the newest accepted frame (R217). -/
  last : Nat := 0
  /-- Identity messages received since Boot or the last timeout (R382). -/
  idSeen : BitVec 4 := 0
  /-- Previous calibration pulse (R215). -/
  prevCal : Option Nat := none
  /-- Discarded-frame counter (R235). -/
  cDiscard : Half := 0
  /-- Timeout counter (R235). -/
  cTimeout : Half := 0
  /-- Accepted-frame counter (R235). -/
  cAccept : Half := 0
  /-- Serial-error counter (R219, R235). -/
  cSerial : Byte := 0
  /-- Measured tick (R235). -/
  tick : Half := 0
  /-- Newest message per ID, newest first (R219). -/
  serial : List (Byte × Half) := []
  /-- Bits 3 and 2 of the newest status nibbles, newest first (R219). -/
  bits : List (Bool × Bool) := []
  /-- Die identity differs from the stored one (R382). -/
  idWrong : Bool := false
  /-- Value set aside by the agreement checks (R91). -/
  aside : Bool := false
  /-- Setting it aside has been logged and the value has not been valid for an 8 kHz step since (R91). -/
  told : Bool := false
  deriving DecidableEq, Repr

/-- The quadrature port (R220 to R225, R235). -/
structure QuadSt where
  /-- Filtered QA (R220). -/
  a : Bool := false
  /-- Filtered QB (R220). -/
  b : Bool := false
  /-- Hardware counter (R223). -/
  raw : Word := 0
  /-- Extended count (R223). -/
  ext : Int := 0
  /-- Raw value at the last extension (R223). -/
  prev : Word := 0
  /-- Offset of the referenced position (R224). -/
  offset : Int := 0
  /-- Position-valid (R224). -/
  valid : Bool := false
  /-- Offset set (R235). -/
  refd : Bool := false
  /-- Over-rate (R222). -/
  overRate : Bool := false
  /-- Illegal-transition counter (R221). -/
  qerr : Half := 0
  /-- Instants of recent illegal transitions (R221). -/
  illegal : List Nat := []
  /-- Instants of recent edges (R222). -/
  edges : List Nat := []
  /-- Last illegal transition, over-rate or supply fault (R224). -/
  faultAt : Nat := 0
  /-- Value set aside by the agreement check (R225). -/
  aside : Bool := false
  /-- Setting it aside has been logged and the value has not been valid for an 8 kHz step since (R225). -/
  told : Bool := false
  deriving DecidableEq, Repr

/-- One switch input (R226 to R228, R235). -/
structure SwSt where
  /-- Sampled level (R226). -/
  level : Bool := false
  /-- Filtered state, true active (R226). -/
  state : Bool := false
  /-- CHATTER bit (R227). -/
  chatter : Bool := false
  /-- STUCK bit (R228). -/
  stuck : Bool := false
  /-- Instants at which the sampled level changed, newest first (R227, R235). -/
  changes : List Nat := []
  /-- When the filtered state became active (R228). -/
  since : Nat := 0
  deriving DecidableEq, Repr

/-- One position-compare slot (R230 to R235). -/
structure SlotSt where
  /-- 0 disarmed, 1 armed, 2 armed-behind, 3 fired, 4 suspended (R235). -/
  state : BitVec 3 := 0
  /-- Source SENTA instead of QUAD (R230). -/
  sentA : Bool := false
  /-- 0 rising, 1 falling, 2 either (R230). -/
  dir : BitVec 2 := 0
  /-- Value V (R230). -/
  value : Int := 0
  /-- Behind bit (R232). -/
  behind : Bool := false
  /-- Fire count (R231). -/
  fires : Byte := 0
  /-- Latched global time (R231). -/
  latchT : Dword := 0
  /-- Latched source value (R231). -/
  latchV : Dword := 0
  /-- Fired since the last status frame (R231). -/
  report : Bool := false
  /-- The direction of motion at arming was up (R232). -/
  up : Bool := false
  /-- Crossing of the armed value found in a sample or frame: its time and source value (R231). -/
  hit : Option (Dword × Int) := none
  deriving DecidableEq, Repr

/-- The kept value of one time source (R309). -/
structure SrcVal where
  /-- Deviation recorded on channel X in this basic cycle (R309). -/
  x : Option Int := none
  /-- Deviation recorded on channel Y in this basic cycle (R309). -/
  y : Option Int := none
  /-- The kept value (R309). -/
  kept : Option Int := none
  /-- Its age (R309). -/
  age : Nat := 0
  deriving DecidableEq, Repr

/-- One network channel (R314). -/
structure ChanSt where
  /-- 0 Off, 1 Listen, 2 Joining, 3 Integrated, 4 Passive (R314). -/
  state : BitVec 3 := 0
  /-- Reason of the last going Passive (R314). -/
  reason : BitVec 3 := 0
  /-- Consecutive agreeing basic cycles (R318). -/
  agree : Nat := 0
  /-- Since when the channel is not integrated (R83). -/
  away : Nat := 0
  /-- CHANNEL_LOST has been logged (R83). -/
  lostLog : Bool := false
  /-- When Joining began (R319). -/
  joinAt : Nat := 0
  /-- JOIN_TIMEOUT has been logged for this joining (R319). -/
  joinLate : Bool := false
  /-- Its CAPS frame was sent in the last arbitrating window (R296). -/
  capsSent : Bool := false
  /-- Newest frame sent on the channel: status, null or CAPS (R281 to R283, R286, R319). -/
  frame : Option HFrame := none
  /-- One CAPS frame follows in the next arbitrating window (R318). -/
  capsDue : Bool := false
  /-- Consecutive basic cycles with every deviation above 4 us (R312). -/
  big : Nat := 0
  /-- Basic-cycle length K of the Shutter (R315). -/
  kTicks : Nat := 0
  /-- The phase check passed throughout the present matrix cycle (R315). -/
  phaseOk : Bool := true
  /-- Sum of the basic-cycle lengths measured in the present matrix cycle (R315). -/
  kSum : Nat := 0
  /-- Their number (R315). -/
  kCount : Nat := 0
  /-- Transmit requests blocked in the present matrix cycle (R314). -/
  blocked : Nat := 0
  /-- FCS counter (R287). -/
  cFcs : Half := 0
  /-- Foreign-frame counter (R287). -/
  cForeign : Half := 0
  /-- Version counter (R287). -/
  cVersion : Half := 0
  /-- Length counter (R287). -/
  cLength : Half := 0
  /-- Position counter (R287). -/
  cPosition : Half := 0
  /-- Owner counter (R287). -/
  cOwner : Half := 0
  /-- Flags counter (R287). -/
  cFlags : Half := 0
  /-- Segment-crossed counter (R287). -/
  cCrossed : Half := 0
  /-- Reference-format counter (R308). -/
  cRefFmt : Half := 0
  /-- Acceptance counter (R316). -/
  cAccept : Half := 0
  /-- Blocked-transmit counter (R315). -/
  cBlocked : Half := 0
  /-- Arbitration-collision counter (R296). -/
  cArb : Half := 0
  /-- When each sender was last seen alive (R286). -/
  lastSeen : List (BitVec 5 × Nat) := []
  /-- Newest CAPS payload per node identity (R381). -/
  capsKept : List (BitVec 5 × List Byte) := []
  /-- Reflectometry pulses sent (R380). -/
  tdrPulses : Nat := 0
  deriving DecidableEq, Repr

/-- The freshness mark of one sender (R285). -/
structure FreshMark where
  /-- Sender ID (R285). -/
  sender : BitVec 5 := 0
  /-- Last accepted freshness (R285). -/
  mark : Half := 0
  /-- Basic cycle of the last older frame with no newer since (R285). -/
  older : Option Nat := none
  deriving DecidableEq, Repr

/-- The network side of one lane. -/
structure NetSt where
  /-- Channel X (R297). -/
  x : ChanSt := {}
  /-- Channel Y (R297). -/
  y : ChanSt := {}
  /-- Freshness marks (R285). -/
  marks : List FreshMark := []
  /-- Receive triple buffer: newest unread command frame (R23). -/
  rx : Option HFrame := none
  /-- That buffer has been read (R23). -/
  rxOld : Bool := false
  /-- Transmit triple buffer: the packets written since the previous window (R23). -/
  tx : Option (List (List Byte)) := none
  /-- Freshness counter of the status frames (R283). -/
  fresh : Half := 0
  /-- Payload of the newest status sent (R297, R343). -/
  sent : List Byte := []
  /-- Filtered SW2 as that status reports it; none while it is not valid (R229). -/
  sentSw2 : Option Bool := none
  /-- Compare slots that status reports as fired: slot, latched time and value (R231). -/
  sentFires : List (BitVec 2 × Dword × Dword) := []
  /-- The newest frame sent was a null frame (R286). -/
  sentNull : Bool := false
  /-- Reply queue, oldest first; the flag marks an OK reply (R338). -/
  replies : List (Bool × List Byte) := []
  /-- The lane is relayed (R300). -/
  relayed : Bool := false
  /-- Admitted since the last Boot (R318). -/
  admitted : Bool := false
  /-- Admission record: schedule ID, node identity, module tag (R320). -/
  adm : Option (Word × BitVec 5 × Byte) := some (0, 4, 1)
  /-- The second MRAM copy holds the active Almanac (R293). -/
  actSecond : Bool := false
  /-- Active Almanac body; empty stands for the factory Almanac (R290, R293). -/
  actAlm : List Byte := []
  /-- Pending Almanac body (R292, R293). -/
  pendAlm : Option (List Byte) := none
  /-- Meridian reading since which a switch can come: of the synchronisation and of the pending Almanac's arrival (R293). -/
  switchAfter : Int := -1
  /-- Package segments received from the Leader (R295). -/
  almXfer : List Byte := []
  /-- FCP and Hiolo versions per node identity; the flag marks those agreed by CAPS_EXCHANGE, the others follow a CAPS announcement (R341). -/
  versions : List (BitVec 5 × Bool × List Byte) := []
  /-- Matrix cycles since Boot (R389). -/
  mtrx : Nat := 0
  deriving DecidableEq, Repr

/-- The Meridian of one lane. -/
structure TimeSt where
  /-- Reading at `since` (R306). -/
  base : Int := 0
  /-- Instant of that reading (R306). -/
  since : Nat := 0
  /-- Rate correction r (R306, R310). -/
  rate : Rat := 0
  /-- Slew s of the offset correction (R306, R310). -/
  slew : Rat := 0
  /-- End of the slew (R310). -/
  slewEnd : Nat := 0
  /-- Time synchronised (R307). -/
  synced : Bool := false
  /-- Time taken from a peer (R322). -/
  fromPeer : Bool := false
  /-- The last offset correction used at least one source value (R307). -/
  used : Bool := false
  /-- Last offset correction (R310). -/
  lastC : Int := 0
  /-- Sum of the corrections of the matrix cycle (R310). -/
  sumC : Int := 0
  /-- Basic cycles without a source value (R310). -/
  noSource : Nat := 0
  /-- Matrix cycles with r at a limit (R310). -/
  atLimit : Nat := 0
  /-- The first used reference frame or peer item of this listening has set the time (R312). -/
  taken : Bool := false
  /-- Source 0 (R309). -/
  s0 : SrcVal := {}
  /-- Source 1 (R309). -/
  s1 : SrcVal := {}
  /-- Source 2 (R309). -/
  s2 : SrcVal := {}
  /-- Source 3 (R309). -/
  s3 : SrcVal := {}
  deriving DecidableEq, Repr

/-- The consensus of one axis as one lane forms it (R203). -/
structure ConSt where
  /-- Consensus angle (R203). -/
  theta : Half := 0
  /-- Consensus speed (R203). -/
  omega : Int := 0
  /-- Instant it refers to (R203). -/
  at_ : Nat := 0
  /-- Last instant with a valid estimate (R204). -/
  seen : Nat := 0
  /-- Valid estimates of the last period (R203). -/
  count : Nat := 0
  /-- Of each pair of lanes, consensus angle, speed and instant of the last period in which they agreed (R207). -/
  agreed : List ((Lane × Lane) × Half × Int × Nat) := []
  /-- Consecutive periods in which two estimates differed beyond the limit (R207). -/
  splitRun : Nat := 0
  /-- The lane found to be the outlier of two (R207). -/
  outlier : Option Lane := none
  /-- Consecutive periods in which Lane 1 deviated beyond the limit (R205). -/
  run1 : Nat := 0
  /-- Consecutive periods in which Lane 2 deviated beyond the limit (R205). -/
  run2 : Nat := 0
  /-- Consecutive periods in which Lane 3 deviated beyond the limit (R205). -/
  run3 : Nat := 0
  /-- Lanes whose deviation has counted, with deviation and consensus angle of that period (R205, R206). -/
  counted : List (Lane × Half × Half) := []
  deriving DecidableEq, Repr

/-- One segment of a trajectory (R240). -/
structure Seg where
  /-- Jerk (R240). -/
  jerk : Rat := 0
  /-- Duration (R240). -/
  dur : Rat := 0
  deriving DecidableEq, Repr

/-- The trajectory of one axis in one lane's profile engine (R240). -/
structure AxisProf where
  /-- Present setpoint (R240). -/
  pos : Rat := 0
  /-- Its rate (R240). -/
  rate : Rat := 0
  /-- Its acceleration (R240). -/
  accel : Rat := 0
  /-- Segments still to run (R240). -/
  segs : List Seg := []
  /-- Instant of the last evaluation (R243). -/
  stepAt : Nat := 0
  /-- Target of the move (R240). -/
  target : Rat := 0
  /-- Arrival instant of a timed move (R245). -/
  arrive : Option Nat := none
  /-- 0 position or force, 1 speed, 2 torque, 3 stop (R355). -/
  kind : BitVec 3 := 0
  /-- Commanded speed of speed mode (R355). -/
  speed : Rat := 0
  /-- Commanded torque of STEER_TORQUE (R355). -/
  torque : Int := 0
  /-- The move is a timed one that cannot arrive in time (R246). -/
  late : Bool := false
  deriving DecidableEq, Repr

/-- The profile engine of one lane with its outer loops. -/
structure ProfSt where
  /-- Steer trajectory (R240). -/
  steer : AxisProf := {}
  /-- Brake trajectory (R240). -/
  brake : AxisProf := {}
  /-- Brake setpoint mode: 0 force, 1 position, 2 released, 3 park (R37). -/
  bMode : BitVec 2 := 0
  /-- FCP sequence of the newest motion command applied (R37). -/
  lastSeq : Half := 0
  /-- Motion commands checked and held for the shadow: sequence, request, opcode (R43). -/
  held : List (Half × Req × Half) := []
  /-- 8 kHz step index (R37). -/
  step : Half := 0
  /-- Meridian reading at the start of the newest 8 kHz step (R243, R245). -/
  stepT : Option Nat := none
  /-- Steer outer-loop state (R240). -/
  intS : Int := 0
  /-- Brake outer-loop state (R240). -/
  intB : Int := 0
  /-- Own steer outer-loop output (R37). -/
  tS : Int := 0
  /-- Own brake outer-loop output (R37). -/
  tB : Int := 0
  /-- Newest steer reference received from the Leader, or sent as Leader (R38). -/
  useS : Int := 0
  /-- Newest brake reference received from the Leader, or sent as Leader (R38). -/
  useB : Int := 0
  /-- Last agreed steer reference (R60). -/
  okS : Int := 0
  /-- Last agreed brake reference (R60). -/
  okB : Int := 0
  /-- Step index last compared with the Leader's (R44). -/
  cmpStep : Option Half := none
  /-- Steer shadow deviation (R37). -/
  devS : Int := 0
  /-- Brake shadow deviation (R37). -/
  devB : Int := 0
  /-- Consecutive torque mismatches (R44). -/
  torqueRun : Nat := 0
  /-- Consecutive profile mismatches (R45). -/
  profRun : Nat := 0
  /-- Last re-seed (R45). -/
  reseedAt : Option Nat := none
  /-- Profile snapshot complete (R62). -/
  snapshot : Bool := true
  /-- Last profile shadow step matched (R391). -/
  matched : Bool := true
  /-- Last complete vector set passed (R391). -/
  vecOk : Bool := true
  /-- Steer axis regenerating (R171). -/
  regS : Bool := false
  /-- Brake axis regenerating (R171). -/
  regB : Bool := false
  deriving DecidableEq, Repr

/-- The state that a Leader has latched for a peer and announced in the relay stream (R45, R62, R69). -/
structure Snapshot where
  /-- Setpoints, profile state and outer-loop states (R69). -/
  prof : ProfSt := {}
  /-- Codes of the share weights (R69). -/
  weights : Int × Int × Int := (100, 100, 100)
  /-- QUAD offsets of the lanes (R69). -/
  offs : List (Lane × Int) := []
  /-- Referenced brake position where it is valid (R69). -/
  p : Option Int := none
  /-- Observer-integrated steer angle (R69, R91). -/
  angle : Option Rat := none
  deriving DecidableEq, Repr

/-- The Geyser of one lane. -/
structure Gey where
  /-- Firmware path asks for the switch (R128). -/
  fw : Bool := false
  /-- Hardware path asks for the switch (R128). -/
  hw : Bool := false
  /-- Hardware fault flag that the active short reads (R129). -/
  fault : Bool := false
  /-- Geyser marked unusable until a later test passes (R126, R129). -/
  bad : Bool := false
  /-- Temperature comparator blocks the switch (R131). -/
  hot : Bool := false
  /-- Geyser temperature (R152). -/
  temp : Int := 400
  /-- When the firmware path turned it on (R128). -/
  onAt : Nat := 0
  deriving DecidableEq, Repr

/-- The supply section of one lane. -/
structure SupplySt where
  /-- VSUP_n as last seen (R395). -/
  vsup : Nat := 48000
  /-- DC link as last seen (R404). -/
  link : Nat := 0
  /-- SVCC_n as last seen (R212). -/
  svcc : Nat := 0
  /-- VSUP_n in mV as AUX-B converted it (R152). -/
  auxSup : Nat := 0
  /-- DC link in mV as AUX-A converted it (R152). -/
  auxLink : Nat := 0
  /-- Sums of both over the present basic cycle, and how many conversions they hold (R374). -/
  sums : Nat × Nat × Nat := (0, 0, 0)
  /-- Their means over the last completed basic cycle (R374). -/
  means : Nat × Nat := (0, 0)
  /-- When a suspended lane left level 6 (R401). -/
  resumeAt : Nat := 0
  /-- SVCC_n switched on (R212). -/
  svccOn : Bool := false
  /-- Supply-fault bit of the five ports (R212). -/
  svccFault : Bool := false
  /-- Last retry at full current (R212). -/
  svccRetry : Nat := 0
  /-- Output folded back to 20 mA (R212). -/
  svccFold : Bool := false
  /-- Disconnect: 0 open, 1 precharge, 2 conducting forward, 3 blocking (R404). -/
  disc : BitVec 2 := 0
  /-- Open because of supply overvoltage (R406). -/
  ovOpen : Bool := false
  /-- Open because the Geyser switch does not block (R130). -/
  geyOpen : Bool := false
  /-- Open because of the DC link (R133). -/
  linkOpen : Bool := false
  /-- Start of the precharge attempt (R404). -/
  preAt : Nat := 0
  /-- Shedding level (R396). -/
  level : Byte := 0
  /-- Levels below whose falling threshold the effective supply lies, with the instants since when (R396). -/
  under : List (Nat × Nat) := []
  /-- Levels whose rising threshold it has reached, with the instants since when (R396). -/
  above : List (Nat × Nat) := []
  /-- Levels entered and not left (R396). -/
  levels : List Nat := []
  /-- 14 V self-quench armed (R400). -/
  armed : Bool := false
  /-- Sets may carry a share after a suspension (R401). -/
  resumed : Bool := true
  /-- Instants of the restarts (R402). -/
  restarts : List Nat := []
  /-- Active bleeder on (R405). -/
  bleeder : Bool := false
  deriving DecidableEq, Repr

/-- Reset, clocks and Boot of one lane. -/
structure ResetSt where
  /-- The lane is in reset (R413). -/
  inReset : Bool := true
  /-- Reset sources present (R413). -/
  causes : List Nat := [4]
  /-- Lowest cause since the last Boot, logged at the next (R413, R428). -/
  cause : Nat := 4
  /-- When the last condition cleared (R416). -/
  clearAt : Nat := 0
  /-- The lane drives RST_n low (R417). -/
  rstDriven : Bool := true
  /-- The handshake sample read high (R417). -/
  rstHigh : Bool := false
  /-- When the lane stopped driving RST_n (R417). -/
  extDone : Nat := 0
  /-- Domains qualified (R419). -/
  qual : List (Fin 13) := []
  /-- Domains failed or lost since the last Boot (R421). -/
  lostDom : List (Fin 13) := []
  /-- Always-on record (R420). -/
  aon : List (Fin 13) := []
  /-- Failed attempts of domains 1 to 3 since cause 1 or 3 (R420). -/
  fails : Nat := 0
  /-- The present attempt has failed and is counted (R420). -/
  tried : Bool := false
  /-- Last failed attempt (R420). -/
  retryAt : Nat := 0
  /-- When wake was signalled (R262). -/
  wakeAt : Option Nat := none
  /-- Last Boot step ended (R436). -/
  bootStep : Nat := 0
  /-- Step at which Boot failed (R438). -/
  bootFailed : Option Nat := none
  /-- It failed only for want of owner root keys (R438). -/
  wantsKeys : Bool := false
  /-- Watchdog forces the quench request bit (R413). -/
  dogForced : Bool := false
  /-- When it tripped (R413). -/
  dogAt : Nat := 0
  /-- Start of the last application cycle (R413). -/
  appAt : Nat := 0
  /-- Always-on copy of the pin-state word; none before the first copy or after an uncorrectable one (R424). -/
  pads : Option Half := some 0xC017
  /-- Basic cycle, a millisecond of the Meridian, in which the items of once a cycle were last queued (R321, R374, R440). -/
  reported : Option Int := none
  deriving DecidableEq, Repr

/-- The Enable line of one lane. -/
structure EnaSt where
  /-- ENA_n as last seen (R261). -/
  pin : Bool := false
  /-- Filtered state (R262). -/
  filt : Bool := false
  /-- Enable test state (R264). -/
  test : BitVec 2 := 0
  /-- ENA_TEST_TIMEOUT logged since the last Boot (R357). -/
  timeoutLogged : Bool := false
  /-- Permission withdrawn under R271 (R271). -/
  withdrawn : Bool := false
  /-- When the filtered state last became inactive (R271). -/
  lowAt : Nat := 0
  deriving DecidableEq, Repr

/-- A vote a lane casts on one peer. -/
structure VoteOut where
  /-- Reason, 0 for no vote (R46). -/
  reason : BitVec 4 := 0
  /-- When it was cast (R47). -/
  at_ : Nat := 0
  deriving DecidableEq, Repr

/-- A dispute the lane has opened as accuser. -/
structure DispSt where
  /-- Dispute identifier, 0 for none (R54). -/
  id : Byte := 0
  /-- Its declaration (R57). -/
  at_ : Nat := 0
  /-- DISPUTE_TIMEOUT logged (R57). -/
  timedOut : Bool := false
  /-- Verdict being carried out, 0 while none has been read (R55, R58). -/
  verdict : Byte := 0
  /-- Lanes that have carried out their part of it (R58). -/
  seen : List Lane := []
  deriving DecidableEq, Repr

/-- Votes and the Caldera of one lane. -/
structure VoteSt where
  /-- Vote on Lane 1 (R46). -/
  on1 : VoteOut := {}
  /-- Vote on Lane 2 (R46). -/
  on2 : VoteOut := {}
  /-- Vote on Lane 3 (R46). -/
  on3 : VoteOut := {}
  /-- The quench latch (R47). -/
  caldera : Bool := false
  /-- Quenched through the supply path only (R402). -/
  supplyOnly : Bool := false
  /-- Quench request bit (R53). -/
  request : Bool := false
  /-- Own open disputes, newest first (R54). -/
  disps : List DispSt := []
  /-- Dispute counter (R54). -/
  dispCtr : BitVec 4 := 0
  /-- An incoming vote line failed its test (R52). -/
  lineBad : Bool := false
  /-- A vote line is untested (R52). -/
  untested : Bool := true
  /-- False-vote counter (R55). -/
  falseVotes : Half := 0
  /-- Isolated by a vote (R48). -/
  byVote : Bool := false
  /-- A verdict lets the lane rejoin once no vote against it stands (R55). -/
  released : Bool := false
  /-- Isolated until Service or a power cycle (R55, R72). -/
  stay : Bool := false
  deriving DecidableEq, Repr

/-- Rejoining of one lane. -/
structure RejoinSt where
  /-- Step in progress, 0 when not Rejoining (R69). -/
  step : Nat := 0
  /-- Start of the step (R69). -/
  at_ : Nat := 0
  /-- Instants of the failures (R72). -/
  fails : List Nat := []
  /-- Failure after which the lane retries on its own (R72). -/
  retry : Option Nat := none
  /-- Records are being copied from the Leader (R69). -/
  copy : Bool := false
  /-- The sets start switching at the next PWM peak (R69, R179, R202). -/
  due : Bool := false
  /-- When the lane observed a condition of R59 for the Leader (R59, R66). -/
  lossSeen : Option Nat := none
  deriving DecidableEq, Repr

/-- One fault-log entry (R98). -/
structure LogEntry where
  /-- Time stamp (R98). -/
  time : Dword := 0
  /-- Recording lane (R98). -/
  lane : BitVec 4 := 0
  /-- Code; its high byte is the class (R98). -/
  code : Half := 0
  /-- Logged address (R98). -/
  addr : Word := 0
  /-- Leadership epoch held (R98). -/
  epoch : Half := 0
  /-- Module mode code (R98). -/
  mode : BitVec 3 := 0
  /-- Lane state code (R98). -/
  state : BitVec 3 := 0
  /-- Role code (R98). -/
  role : BitVec 2 := 0
  /-- Time not synchronised (R98). -/
  unsynced : Bool := false
  /-- Accompanies an FCP error reply (R98). -/
  isReply : Bool := false
  /-- FCP sequence (R98). -/
  seq : Half := 0
  /-- Occurrence count (R98). -/
  count : Half := 0
  /-- Context (R98). -/
  ctx : Dword := 0
  deriving DecidableEq, Repr

/-- The calibration and homing records of one lane (R69, R251, R254, R382). -/
structure CalRec where
  /-- E- (R251). -/
  endNeg : Option Int := none
  /-- E+ (R251). -/
  endPos : Option Int := none
  /-- P_k (R254). -/
  kiss : Option Int := none
  /-- Caliper stiffness (R254). -/
  stiff : Option Rat := none
  /-- Identities of the SENTA dies of the lanes (R382). -/
  idA : List (Lane × Dword) := []
  /-- Identities of the SENTB dies of the lanes (R382). -/
  idB : List (Lane × Dword) := []
  /-- QUAD offsets of the lanes (R224). -/
  offs : List (Lane × Int) := []
  deriving DecidableEq, Repr

/-- The parameter images of one lane. -/
structure ParamImg where
  /-- The signed base package as stored (R25, R437). -/
  pkg : List Byte := []
  /-- Signed base image ID (R359). -/
  base : Word := 0
  /-- Vehicle identity (R359). -/
  vehicle : Dword := 0
  /-- Issue number of the base image (R434). -/
  issue : Word := 0
  /-- Values of the base image that differ from the defaults (R437). -/
  baseVals : List (Half × Int) := []
  /-- Committed writes over the base image (R361). -/
  committed : List (Half × Int) := []
  /-- Working writes over the base image (R360). -/
  working : List (Half × Int) := []
  /-- Codes in force that differ from the defaults (R360). -/
  force : List (Half × Int) := []
  /-- The lane runs the defaults (R437). -/
  defaults : Bool := true
  /-- A commit is being written since (R361). -/
  commitAt : Option Nat := none
  deriving DecidableEq, Repr

/-- One key slot (R448). -/
structure KeySlot where
  /-- The slot holds a key (R448). -/
  filled : Bool := false
  /-- Level (R448). -/
  expert : Bool := false
  /-- Carriage mask (R448). -/
  mask : BitVec 2 := 0
  /-- Key K (R448). -/
  key : BitVec 128 := 0
  deriving DecidableEq, Repr

/-- A package transfer in segments (R366, R367). -/
structure Xfer where
  /-- Total length (R366). -/
  total : Nat := 0
  /-- Offset of the previous segment (R366). -/
  lastOff : Option Nat := none
  /-- Bytes received (R366). -/
  got : List Byte := []
  deriving DecidableEq, Repr

/-- Security, firmware banks and key store of one lane. -/
structure SecSt where
  /-- The lane's copy of the session table (R332). -/
  sessions : List SessionEntry := []
  /-- Key slots 0 to 7; empty list stands for eight empty slots (R448). -/
  slots : List KeySlot := []
  /-- Issue number of the key package (R434). -/
  keyIssue : Word := 0
  /-- Issue number of the enrolment package (R434). -/
  ownIssue : Word := 0
  /-- Issue number of the Almanac (R434). -/
  almIssue : Word := 0
  /-- Owner root slot 0 hash in OTP (R429). -/
  owner0 : Option (BitVec 256) := none
  /-- Owner root slot 1 hash in OTP (R429). -/
  owner1 : Option (BitVec 256) := none
  /-- Slot 0 retired (R429). -/
  retired : Bool := false
  /-- Key package as received (R450). -/
  keyPkg : List Byte := []
  /-- Owner enrolment package as received (R451). -/
  ownPkg : List Byte := []
  /-- Stored Ed25519 owner key of the newest slot (R451). -/
  ownEd : List Byte := []
  /-- Stored ML-DSA-65 owner key of the newest slot (R451). -/
  ownMl : List Byte := []
  /-- Anti-rollback values written (R430). -/
  rollback : List Byte := []
  /-- Package ID and security version of bank A (R439). -/
  bankA : Option (Word × Byte) := some (0, 0)
  /-- Package ID and security version of bank B (R439). -/
  bankB : Option (Word × Byte) := none
  /-- Active bank of the boot record, 1 A, 2 B (R439). -/
  active : BitVec 2 := 1
  /-- Trial bank (R439). -/
  trial : Option (BitVec 2) := none
  /-- Trial failed (R442). -/
  trialBad : Bool := false
  /-- Restart that began the trial (R442). -/
  trialAt : Nat := 0
  /-- Running bank (R440). -/
  running : BitVec 2 := 0
  /-- Security version waiting for the raise (R443). -/
  raiseDue : Option Byte := none
  /-- The other bank passed at the last Boot (R446). -/
  otherOk : Bool := false
  /-- The newest attestation report (R446). -/
  attest : List Byte := []
  /-- When its making began (R446). -/
  attestAt : Option Nat := none
  /-- The report is readable (R446). -/
  attestReady : Bool := false
  /-- The challenge that waits for its report (R446). -/
  attestReq : Option Req := none
  /-- No valid identity keys at the last Boot (R437). -/
  idBad : Bool := false
  /-- Piecewise snapshots: session, opcode, instant, record (R352). -/
  snaps : List (Half × Half × Nat × List Byte) := []
  /-- Segments of a firmware copy (R440). -/
  copy : List Byte := []
  /-- Open firmware transfer (R367). -/
  fw : Option Xfer := none
  /-- Its kind (R367). -/
  fwKind : BitVec 2 := 0
  /-- Its package ID (R367). -/
  fwId : Word := 0
  /-- The lane holds the transfer (R441). -/
  fwHave : Bool := false
  deriving DecidableEq, Repr

/-- Counters, map and lifetime of one lane. -/
structure CtrSt where
  /-- Persistent unusable-block map (R385). -/
  map : Dword := 0
  /-- Corrected errors, MRAM (R27). -/
  ecMram : Half := 0
  /-- Corrected errors, SRAM (R27). -/
  ecSram : Half := 0
  /-- Corrected errors, field-engine RAM (R27). -/
  ecFe : Half := 0
  /-- Corrected errors, OTP (R27). -/
  ecOtp : Half := 0
  /-- Corrected errors, internal bus (R27). -/
  ecBus : Half := 0
  /-- Corrected errors, cross-lane links (R27). -/
  ecLink : Half := 0
  /-- Overwritten commands (R23). -/
  overwritten : Half := 0
  /-- Stale epochs (R66). -/
  stale : Half := 0
  /-- Link errors from the lower-numbered peer (R29). -/
  linkLo : Half := 0
  /-- Link errors from the higher-numbered peer (R29). -/
  linkHi : Half := 0
  /-- Fault-log overwrites (R97). -/
  logOver : Half := 0
  /-- Profile re-seeds (R45). -/
  reseeds : Half := 0
  /-- Foreign packets (R328). -/
  foreign : Half := 0
  /-- Reply drops (R338). -/
  drops : Half := 0
  /-- Relay items dropped or replaced (R300). -/
  relayDrops : Nat := 0
  /-- Time in Run or Limp (R391). -/
  runNs : Nat := 0
  /-- Time in Boot, Ready, Run, Limp or Service (R391). -/
  onNs : Nat := 0
  /-- Thermal cycles (R393). -/
  cycles : Nat := 0
  /-- Accumulated switching energy (R393). -/
  energy : Rat := 0
  /-- Lifetime counters in MRAM (R393). -/
  savedLife : Nat × Nat × Nat × Nat := (0, 0, 0, 0)
  /-- Last write of them (R393). -/
  lifeAt : Nat := 0
  /-- Lo of the thermal-cycle counter (R393). -/
  tLo : Option Int := none
  /-- Hi of the thermal-cycle counter (R393). -/
  tHi : Option Int := none
  /-- Armed of the thermal-cycle counter (R393). -/
  tArmed : Bool := false
  /-- Carrier-unlock flag (R168). -/
  carrier : Bool := false
  /-- Carrier phase error (R168). -/
  carrierErr : Int := 0
  /-- Periods with an error above 50 ns (R168). -/
  carrierRun : Nat := 0
  /-- Adjustment of the next half-period (R168). -/
  halfAdj : Int := 0
  /-- Health record as last latched (R389). -/
  record : List Byte := []
  /-- Counter page of the last latch (R392). -/
  page : Nat := 0
  /-- Pieces still to publish (R389). -/
  pieces : List (List Byte) := []
  /-- AUX-A reference readings out of range in a row (R388). -/
  refRunA : Nat := 0
  /-- AUX-B reference readings out of range in a row (R388). -/
  refRunB : Nat := 0
  /-- Temperature channel due next (R153). -/
  rot : Nat := 0
  /-- Background vector due next (R68). -/
  vecIdx : Nat := 0
  deriving DecidableEq, Repr

/-- One lane. -/
structure LaneSt where
  /-- Lane state (R5). -/
  state : LaneState := .off
  /-- Role (R5). -/
  role : Role := .none
  /-- The lane that holds the Leader role in this lane's view (R38). -/
  leader : Option Lane := none
  /-- Leadership epoch held (R64). -/
  epoch : Half := 0
  /-- Leadership epoch stored in MRAM (R64). -/
  stored : Half := 0
  /-- Entry to Active (R265). -/
  activeAt : Nat := 0
  /-- Link from the lower-numbered peer (R33). -/
  lo : LinkIn := {}
  /-- Link from the higher-numbered peer (R33). -/
  hi : LinkIn := {}
  /-- S set (R2). -/
  s : SetSt := {}
  /-- B set (R2). -/
  b : SetSt := {}
  /-- Its terms for the sets of Lane 1 (R170). -/
  k1 : LaneTerms := {}
  /-- Its terms for the sets of Lane 2 (R170). -/
  k2 : LaneTerms := {}
  /-- Its terms for the sets of Lane 3 (R170). -/
  k3 : LaneTerms := {}
  /-- SENTA port (R214). -/
  sentA : SentSt := {}
  /-- SENTB port (R214). -/
  sentB : SentSt := {}
  /-- QUAD port (R220). -/
  quad : QuadSt := {}
  /-- SW1 input (R226). -/
  sw1 : SwSt := {}
  /-- SW2 input (R226). -/
  sw2 : SwSt := {}
  /-- Compare slot 0 (R230). -/
  c0 : SlotSt := {}
  /-- Compare slot 1 (R230). -/
  c1 : SlotSt := {}
  /-- Compare slot 2 (R230). -/
  c2 : SlotSt := {}
  /-- Compare slot 3 (R230). -/
  c3 : SlotSt := {}
  /-- Network (R279). -/
  net : NetSt := {}
  /-- Meridian (R306). -/
  time : TimeSt := {}
  /-- Profile engine and outer loops (R240). -/
  prof : ProfSt := {}
  /-- Geyser (R128). -/
  gey : Gey := {}
  /-- Supply section (R395). -/
  sup : SupplySt := {}
  /-- Reset, clocks and Boot (R413). -/
  rst : ResetSt := {}
  /-- Enable line (R261). -/
  ena : EnaSt := {}
  /-- Votes and Caldera (R46). -/
  vote : VoteSt := {}
  /-- Rejoining (R69). -/
  rejoin : RejoinSt := {}
  /-- Fault log, newest first (R97). -/
  log : List LogEntry := []
  /-- Ring position of the next entry (R97). -/
  logNext : Nat := 0
  /-- Calibration and homing records (R69). -/
  cal : CalRec := {}
  /-- Calibration stamp: vehicle identity and hash (R69). -/
  stamp : Option (Dword × BitVec 256) := none
  /-- The module treats the records as not matching (R73). -/
  stampBad : Bool := false
  /-- Parameter images (R358). -/
  par : ParamImg := {}
  /-- Security and firmware (R429). -/
  sec : SecSt := {}
  /-- Counters and health (R391). -/
  ctr : CtrSt := {}
  /-- Bytes of the lane address space that have no field of their own (R25). -/
  mem : List Host.Cell := []
  /-- Stored words with inverted bits: word address, the word as written, inverted data bits and check bits (R27). -/
  upsets : List (Nat × Dword × Dword × Byte) := []
  /-- Module serial of the OTP identity word (R429). -/
  serial : BitVec 48 := 0
  /-- Baseplate temperature as last converted (R152). -/
  base16 : Int := 400
  /-- Its baseplate reading is set aside (R96). -/
  tempAside : Bool := false
  /-- Common derating logged as started (R96). -/
  derated : Bool := false
  /-- Hold-only of R96 logged as started (R96). -/
  holdOnlyT : Bool := false
  /-- Requests kept while no lane holds the Leader role (R498). -/
  queue : List (Nat × Req × Half × Option (Byte × Word)) := []
  /-- Session, sequence and opcode of the image and session changes the Leader distributed last (R498). -/
  spread : List (Half × Half × Half) := []
  /-- Observer-integrated steer angle, referenced to the last end-stop learn (R91). -/
  obsAngle : Option Rat := none
  /-- Steer consensus as the lane forms it (R203). -/
  conS : ConSt := {}
  /-- Brake consensus as the lane forms it (R203). -/
  conB : ConSt := {}
  /-- Last steer consensus angle stored in MRAM (R197). -/
  keptS : Half := 0
  /-- Last brake consensus angle stored in MRAM (R197). -/
  keptB : Half := 0
  /-- Last PWM peak (R166). -/
  peakAt : Nat := 0
  /-- Snapshots latched for the peers (R62, R69). -/
  snaps : List (Lane × Snapshot) := []
  /-- Frame sequence of the next frame (R37). -/
  outSeq : Half := 0
  deriving DecidableEq, Repr

/-- Holding at standstill (R180, R181). -/
structure HoldSt where
  /-- Since when the steer conditions hold (R180). -/
  sSince : Option Nat := none
  /-- Steer hold in force (R180). -/
  sOn : Bool := false
  /-- Start of its ramp (R180). -/
  sAt : Nat := 0
  /-- Clamp the ramp ends at (R180). -/
  sClamp : Int := 0
  /-- Clamp the ramp starts from (R180). -/
  sFrom : Int := 0
  /-- Since when the brake conditions hold (R181). -/
  bSince : Option Nat := none
  /-- Brake hold in force (R181). -/
  bOn : Bool := false
  /-- Search settled (R181). -/
  bDone : Bool := false
  /-- I_e (R181). -/
  bStart : Int := 0
  /-- Clamp L (R181). -/
  bClamp : Int := 0
  /-- Start of the present dwell (R181). -/
  bAt : Nat := 0
  /-- Force setpoint at the start (R181). -/
  bTarget : Rat := 0
  /-- Force fell after the search: the hold restarts after HOLD.DELAY (R181). -/
  bAgain : Bool := false
  /-- Usable brake sets at the last step (R182). -/
  bSets : Nat := 0
  deriving DecidableEq, Repr

/-- Homing (R250 to R257). -/
structure HomSt where
  /-- Steer named (R250). -/
  axS : Bool := false
  /-- Brake named (R250). -/
  axB : Bool := false
  /-- Steer state (R368). -/
  steer : BitVec 3 := 0
  /-- Brake state (R368). -/
  brake : BitVec 3 := 0
  /-- Last abort reason (R368). -/
  reason : Byte := 0
  /-- Fallback bit (R252). -/
  fallback : Bool := false
  /-- HOMING_START (R256). -/
  at_ : Nat := 0
  /-- Started in Ready: sets return to high-impedance at the end (R250). -/
  inReady : Bool := false
  /-- Position held at the start (R251). -/
  startPos : Int := 0
  /-- Force held at the start (R254). -/
  startForce : Int := 0
  /-- The caliper was released at the start (R254). -/
  released : Bool := false
  /-- E- of the run (R251). -/
  eNeg : Int := 0
  /-- E+ of the run (R251). -/
  ePos : Int := 0
  /-- Kiss point of the run (R254). -/
  pk : Int := 0
  /-- Stiffness point of the run (R254). -/
  ps : Int := 0
  /-- Travel reference of the state (R253, R254). -/
  from_ : Int := 0
  /-- Since when T stands at the push clamp at low speed (R252). -/
  pushSince : Option Nat := none
  /-- The opposite indication was active at the start of the seek (R253). -/
  wasOn : Bool := false
  /-- An axis of the run was aborted by command (R257). -/
  spoiled : Bool := false
  /-- An abort in Ready: the sets float once the stop has ended (R249, R250). -/
  ending : Bool := false
  /-- Records, QUAD offset, position-valid and referenced bit of each lane from before step B4 (R254, R256). -/
  kept : List (Lane × CalRec × Int × Bool × Bool) := []
  deriving DecidableEq, Repr

/-- Measurements and BIST of the module (R376 to R387). -/
structure MeasSt where
  /-- A load measurement runs (R376). -/
  loadOn : Bool := false
  /-- Its lane (R376). -/
  loadLane : Lane := .l1
  /-- S set named (R376). -/
  loadS : Bool := false
  /-- B set named (R376). -/
  loadB : Bool := false
  /-- Quantities requested (R376). -/
  loadQ : BitVec 4 := 0
  /-- A cable measurement runs (R380). -/
  cableOn : Bool := false
  /-- Its lane (R380). -/
  cableLane : Lane := .l1
  /-- Its channel (R380). -/
  cableChan : Chan := .x
  /-- Results: state, finding, distance (R362). -/
  cableRes : List (Lane × Chan × Byte × Byte × Half) := []
  /-- A BIST run is in progress (R387). -/
  testOn : Bool := false
  /-- Lanes still to test (R387). -/
  testLanes : List Lane := []
  /-- Requested mask (R363). -/
  testMask : Half := 0
  /-- Results: state, tested, failed (R363). -/
  testRes : List (Lane × Byte × Half × Half) := []
  deriving DecidableEq, Repr

/-- The host port (R344, R466). -/
structure HostSt where
  /-- Partial packet (R344). -/
  part : List Byte := []
  /-- Next segment index, 0 when none is open (R344). -/
  index : Nat := 0
  /-- Last segment (R344). -/
  partAt : Nat := 0
  /-- A reply has not yet been sent (R344). -/
  busy : Bool := false
  /-- The newest reply (R344). -/
  reply : Option (List Byte) := none
  /-- Segmentation counter (R344). -/
  cSeg : Half := 0
  /-- Bus-off (R466). -/
  busOff : Bool := false
  /-- Transmit error counter of ISO 11898-1 (R466). -/
  txErr : Nat := 0
  /-- The transmitter holds a dominant level (R466). -/
  dominant : Bool := false
  /-- Bridge clock failed (R420). -/
  silent : Bool := false
  deriving DecidableEq, Repr

/-- One twin link. -/
structure TwinLinkSt where
  /-- Words of the newest checked frame (R75). -/
  last : List Dword := []
  /-- Step index of the newest frame used (R74). -/
  stepIdx : Option Half := none
  /-- Consecutive steps without a checked frame (R78). -/
  lost : Nat := 0
  /-- Link declared down (R78). -/
  down : Bool := false
  /-- The newest frame sent (R75). -/
  tx : List Dword := []
  deriving DecidableEq, Repr

/-- The twin (R74 to R79). -/
structure TwinSt where
  /-- Link TWIN1, served by Lane 1 (R74). -/
  k1 : TwinLinkSt := {}
  /-- Link TWIN2, served by Lane 2 (R74). -/
  k2 : TwinLinkSt := {}
  /-- Twin formed (R79). -/
  formed : Bool := false
  /-- The twin has formed before (R78). -/
  ever : Bool := false
  /-- This module holds the twin Leader (R76). -/
  lead : Bool := false
  /-- Twin epoch (R37, R76). -/
  epoch : Half := 0
  /-- TWIN_LOST (R78). -/
  lost : Bool := false
  /-- Share ramp after re-forming (R79). -/
  rampAt : Option Nat := none
  /-- Share of the actuator's steer torque this module drives (R77). -/
  splitS : Rat := 1
  /-- Share of the actuator's brake torque this module drives (R77). -/
  splitB : Rat := 1
  /-- Steer torque reference of the newest TW3 used (R75). -/
  refS : Int := 0
  /-- Brake torque reference of the newest TW3 used (R75). -/
  refB : Int := 0
  /-- Step indices of the 16 newest frames used on either link, newest first (R74). -/
  used : List Half := []
  /-- Words of the newest frame used (R75). -/
  partner : List Dword := []
  deriving DecidableEq, Repr

/-- What the module holds as a whole. -/
structure ModSt where
  /-- Module mode (R5). -/
  mode : Mode := .dormant
  /-- Pending target mode (R276). -/
  pend : Mode := .dormant
  /-- Vehicle-stop request (R92, R95). -/
  stopReq : Bool := false
  /-- CMD_STALE (R95). -/
  stale : Bool := false
  /-- Loss-of-command behaviour in force (R95). -/
  loc : Bool := false
  /-- Its start (R95). -/
  locAt : Nat := 0
  /-- Application cycles without a fresh command (R95). -/
  missed : Nat := 0
  /-- Last fresh command (R95). -/
  freshAt : Nat := 0
  /-- Safe stop in force (R271). -/
  stopOn : Bool := false
  /-- Safe stop ended, axes holding (R276). -/
  stopDone : Bool := false
  /-- The stop continues as variant 1 (R273). -/
  stopAs1 : Bool := false
  /-- End of the stop (R272). -/
  stopAt : Nat := 0
  /-- A stop runs (R249). -/
  stopping : Bool := false
  /-- Since when both axes are below the speed band (R272). -/
  slowSince : Option Nat := none
  /-- Late arrival (R246). -/
  late : Bool := false
  /-- A lane lost (R276). -/
  lostLane : Bool := false
  /-- Energising step: 0 none, 1 diagnostics, 2 catch-spin, 3 switching, 4 acquisition, 5 lifted (R179). -/
  runEntry : BitVec 3 := 0
  /-- Lanes whose off-state slot has run in this energising (R122). -/
  diag : List Lane := []
  /-- Axes in angle acquisition, T clamped to zero (R197). -/
  acq : List Axis := []
  /-- Start of the acquisition (R197). -/
  acqAt : Nat := 0
  /-- Axes whose tracking phase has ended (R197). -/
  acqEnd : List Axis := []
  /-- Axes whose polarity comparison has ended (R199). -/
  polDone : List Axis := []
  /-- Start of the present energising step (R179). -/
  stepAt : Nat := 0
  /-- Steer consensus lost (R204). -/
  noConS : Bool := false
  /-- Brake consensus lost (R204). -/
  noConB : Bool := false
  /-- Loss of the Leader not yet answered by a handover (R498). -/
  lossAt : Nat := 0
  /-- Roles held when the third lane became absent: the Leader (R45, R90). -/
  prevLead : Option Lane := none
  /-- Roles held when the third lane became absent: the Deputy (R45, R90). -/
  prevDep : Option Lane := none
  /-- Former Deputy of step 2 of R45 and its instant (R45). -/
  exDep : Option (Lane × Nat) := none
  /-- First wake edge (R267). -/
  wake0 : Option Nat := none
  /-- Boot held (R268). -/
  held : Bool := false
  /-- Since when every filtered ENA is inactive (R267). -/
  sleepAt : Option Nat := none
  /-- MODE_REQUEST Dormant answered; lanes prepare to sleep (R267). -/
  dormReq : Bool := false
  /-- The Leader's frame with that reply has left (R267). -/
  dormSent : Bool := false
  /-- The Service session (R275). -/
  svcSess : Half := 0
  /-- Last accepted command in Service (R275). -/
  svcAt : Nat := 0
  /-- Time in Run or Limp since confirmation (R443). -/
  runNs : Nat := 0
  /-- QUENCH requests not yet answered, oldest first: target, instant, request (R58). -/
  quenchOf : List (Lane × Nat × Req) := []
  /-- Session number last assigned (R448). -/
  lastNum : Half := 0
  /-- Module hold-only (R399). -/
  holdOnly : Bool := false
  /-- Verification: 0 none, 1 running, 2 passed, 3 failed (R367). -/
  fwState : BitVec 2 := 0
  /-- Status and logged address of a failed verification (R367). -/
  fwErr : Byte × Word := (0, 0)
  /-- Open SCHEDULE_LOAD transfer (R366). -/
  almX : Option Xfer := none
  /-- Open KEY_PROVISION transfer (R366). -/
  keyX : Option Xfer := none
  /-- PROFILE_LIMITS of steer position, 0 keeps the parameter (R241). -/
  lim0 : Nat × Nat × Nat := (0, 0, 0)
  /-- PROFILE_LIMITS of brake force (R241). -/
  lim1 : Nat × Nat × Nat := (0, 0, 0)
  /-- PROFILE_LIMITS of brake position (R241). -/
  lim2 : Nat × Nat × Nat := (0, 0, 0)
  /-- Logged address of the last LIMP_ENTRY (R92). -/
  limpCause : Word := 0
  /-- Which resources of R92 counted when last judged in Run: lanes, S sets, B sets, SENTA and SENTB, each by lane (R92). -/
  resOk : List Bool := []
  /-- PARAM_COMMIT not yet answered (R361). -/
  commitDue : Option Req := none
  /-- FW_ACTIVATE answered; the lanes restart once its reply has left (R441). -/
  fwReq : Bool := false
  deriving DecidableEq, Repr

/-- The module. -/
structure State where
  /-- The commands that are waiting, first in, first out (the model's own field). -/
  pending : List Instr := []
  /-- The instant of the newest event (the model's own clock of events). -/
  now : Nat := 0
  /-- Counter of the free values drawn (the model's own field). -/
  free : Nat := 0
  /-- Lane 1 (R2). -/
  l1 : LaneSt := {}
  /-- Lane 2, shipped with the admission record of its node identity (R2). -/
  l2 : LaneSt := { net := { adm := some (0, 5, 1) } }
  /-- Lane 3, shipped with the admission record of its node identity (R2). -/
  l3 : LaneSt := { net := { adm := some (0, 6, 1) } }
  /-- Module mode and module-level state (R267). -/
  m : ModSt := {}
  /-- Holding (R180). -/
  hold : HoldSt := {}
  /-- Homing (R250). -/
  hom : HomSt := {}
  /-- Measurements and BIST (R376). -/
  meas : MeasSt := {}
  /-- Host port (R344). -/
  host : HostSt := {}
  /-- Twin (R74). -/
  twin : TwinSt := {}
  deriving DecidableEq, Repr

/-- The module right after reset: Dormant, every lane held in reset by cause 4 until its ENA_n wakes it (R413, R267),
no command waiting. Values the manual does not give stand in the assumption log. -/
def State.reset : State := {}

end Sys2Proof.Machine
end

