-- ==== Sys2Proof/Machine/Params.lean ====
section
/-! DEFINITION. The parameters of the manual: one row per key with class, range, default, step and the event at which a
written value takes effect (R11, R358, R360), and how a lane reads the value in force. -/

namespace Sys2Proof.Machine

/-- The "Takes effect" column of the parameter tables (R360). -/
inductive Takes where
  | atOnce | runEntry | readyEntry | boot | dispute | rejoining | limpEntry | twinForming | holdStart | homing
  | sessionOpen | serviceEntry | fwActivate
  deriving DecidableEq, Repr

/-- One parameter: key, class E, range and default as value codes (R358), the allowed codes where the range is a list,
the step a code counts, and when a written value takes effect. -/
structure ParamRow where
  key    : Half
  expert : Bool
  lo     : Int
  hi     : Int
  only   : List Int
  dflt   : Int
  step   : Rat
  takes  : Takes
  deriving DecidableEq, Repr

/-- 0x1010 PWM.FREQ (R184). -/
abbrev Key.pwmFreq : Half := 0x1010
/-- 0x1011 PWM.UPDATE (R184). -/
abbrev Key.pwmUpdate : Half := 0x1011
/-- 0x1020 ENA.STOP_MODE (R278). -/
abbrev Key.enaStopMode : Half := 0x1020
/-- 0x1021 ENA.SLEEP_DELAY (R278). -/
abbrev Key.enaSleepDelay : Half := 0x1021
/-- 0x1022 ENA.TEST_TIMEOUT (R278). -/
abbrev Key.enaTestTimeout : Half := 0x1022
/-- 0x1023 MODE.SERVICE_TIMEOUT (R278). -/
abbrev Key.modeServiceTimeout : Half := 0x1023
/-- 0x1024 ENA.DISAGREE_TIME (R278). -/
abbrev Key.enaDisagreeTime : Half := 0x1024
/-- 0x1030 FCP.SESSION_IDLE (R347). -/
abbrev Key.fcpSessionIdle : Half := 0x1030
/-- 0x1031 FCP.EXPERT_IDLE (R347). -/
abbrev Key.fcpExpertIdle : Half := 0x1031
/-- 0x1032 HOST.ARB_RATE (R347). -/
abbrev Key.hostArbRate : Half := 0x1032
/-- 0x1033 HOST.DATA_RATE (R347). -/
abbrev Key.hostDataRate : Half := 0x1033
/-- 0x2001 STEER.POLE_PAIRS (R185). -/
abbrev Key.steerPolePairs : Half := 0x2001
/-- 0x2002 STEER.RATED_SPEED (R185). -/
abbrev Key.steerRatedSpeed : Half := 0x2002
/-- 0x2003 STEER.R_PHASE (R185). -/
abbrev Key.steerRPhase : Half := 0x2003
/-- 0x2004 STEER.L_D (R185). -/
abbrev Key.steerLD : Half := 0x2004
/-- 0x2005 STEER.L_Q (R185). -/
abbrev Key.steerLQ : Half := 0x2005
/-- 0x2006 STEER.PSI (R185). -/
abbrev Key.steerPsi : Half := 0x2006
/-- 0x2007 STEER.M_SET (R185). -/
abbrev Key.steerMSet : Half := 0x2007
/-- 0x2010 STEER.ILIM_PEAK (R185). -/
abbrev Key.steerIlimPeak : Half := 0x2010
/-- 0x2011 STEER.ILIM_CONT (R185). -/
abbrev Key.steerIlimCont : Half := 0x2011
/-- 0x2012 STEER.PEAK_TIME (R185). -/
abbrev Key.steerPeakTime : Half := 0x2012
/-- 0x2013 STEER.ID_MAX (R185). -/
abbrev Key.steerIdMax : Half := 0x2013
/-- 0x2014 STEER.TLEG_DERATE (R185). -/
abbrev Key.steerTlegDerate : Half := 0x2014
/-- 0x2021 STEER.OFFSET_1 (R19). -/
abbrev Key.steerOffset1 : Half := 0x2021
/-- 0x2022 STEER.OFFSET_2 (R19). -/
abbrev Key.steerOffset2 : Half := 0x2022
/-- 0x2023 STEER.OFFSET_3 (R19). -/
abbrev Key.steerOffset3 : Half := 0x2023
/-- 0x2030 STEER.CUR_BW (R185). -/
abbrev Key.steerCurBw : Half := 0x2030
/-- 0x2031 STEER.MOD_LIMIT (R185). -/
abbrev Key.steerModLimit : Half := 0x2031
/-- 0x2032 STEER.WINDOW_MOD_LIMIT (R185). -/
abbrev Key.steerWindowModLimit : Half := 0x2032
/-- 0x2033 STEER.FW_BW (R185). -/
abbrev Key.steerFwBw : Half := 0x2033
/-- 0x2034 STEER.DTC_BAND (R185). -/
abbrev Key.steerDtcBand : Half := 0x2034
/-- 0x2035 STEER.REVERSE_SPEED (R185). -/
abbrev Key.steerReverseSpeed : Half := 0x2035
/-- 0x2040 OBS.CONSENSUS_LIMIT (R210). -/
abbrev Key.obsConsensusLimit : Half := 0x2040
/-- 0x2041 OBS.CONSENSUS_PERIODS (R210). -/
abbrev Key.obsConsensusPeriods : Half := 0x2041
/-- 0x2042 OBS.EMF_SPEED (R210). -/
abbrev Key.obsEmfSpeed : Half := 0x2042
/-- 0x2043 OBS.BLEND_WIDTH (R210). -/
abbrev Key.obsBlendWidth : Half := 0x2043
/-- 0x2044 OBS.INJ_FREQ (R210). -/
abbrev Key.obsInjFreq : Half := 0x2044
/-- 0x2045 OBS.INJ_AMP_S (R210). -/
abbrev Key.obsInjAmpS : Half := 0x2045
/-- 0x2046 OBS.INJ_AMP_B (R210). -/
abbrev Key.obsInjAmpB : Half := 0x2046
/-- 0x2047 OBS.PLL_BW (R210). -/
abbrev Key.obsPllBw : Half := 0x2047
/-- 0x2048 OBS.CATCH_TIME (R210). -/
abbrev Key.obsCatchTime : Half := 0x2048
/-- 0x2049 OBS.POL_PULSE (R210). -/
abbrev Key.obsPolPulse : Half := 0x2049
/-- 0x204A OBS.POL_MARGIN (R210). -/
abbrev Key.obsPolMargin : Half := 0x204A
/-- 0x204B OBS.ACQ_TIME (R210). -/
abbrev Key.obsAcqTime : Half := 0x204B
/-- 0x204C OBS.HOLDOVER (R210). -/
abbrev Key.obsHoldover : Half := 0x204C
/-- 0x3001 BRAKE.POLE_PAIRS (R186). -/
abbrev Key.brakePolePairs : Half := 0x3001
/-- 0x3002 BRAKE.RATED_SPEED (R186). -/
abbrev Key.brakeRatedSpeed : Half := 0x3002
/-- 0x3003 BRAKE.R_PHASE (R186). -/
abbrev Key.brakeRPhase : Half := 0x3003
/-- 0x3004 BRAKE.L_D (R186). -/
abbrev Key.brakeLD : Half := 0x3004
/-- 0x3005 BRAKE.L_Q (R186). -/
abbrev Key.brakeLQ : Half := 0x3005
/-- 0x3006 BRAKE.PSI (R186). -/
abbrev Key.brakePsi : Half := 0x3006
/-- 0x3007 BRAKE.M_SET (R186). -/
abbrev Key.brakeMSet : Half := 0x3007
/-- 0x3010 BRAKE.ILIM_PEAK (R186). -/
abbrev Key.brakeIlimPeak : Half := 0x3010
/-- 0x3011 BRAKE.ILIM_CONT (R186). -/
abbrev Key.brakeIlimCont : Half := 0x3011
/-- 0x3012 BRAKE.PEAK_TIME (R186). -/
abbrev Key.brakePeakTime : Half := 0x3012
/-- 0x3013 BRAKE.ID_MAX (R186). -/
abbrev Key.brakeIdMax : Half := 0x3013
/-- 0x3014 BRAKE.TLEG_DERATE (R186). -/
abbrev Key.brakeTlegDerate : Half := 0x3014
/-- 0x3021 BRAKE.OFFSET_1 (R19). -/
abbrev Key.brakeOffset1 : Half := 0x3021
/-- 0x3022 BRAKE.OFFSET_2 (R19). -/
abbrev Key.brakeOffset2 : Half := 0x3022
/-- 0x3023 BRAKE.OFFSET_3 (R19). -/
abbrev Key.brakeOffset3 : Half := 0x3023
/-- 0x3030 BRAKE.CUR_BW (R186). -/
abbrev Key.brakeCurBw : Half := 0x3030
/-- 0x3031 BRAKE.MOD_LIMIT (R186). -/
abbrev Key.brakeModLimit : Half := 0x3031
/-- 0x3032 BRAKE.WINDOW_MOD_LIMIT (R186). -/
abbrev Key.brakeWindowModLimit : Half := 0x3032
/-- 0x3033 BRAKE.FW_BW (R186). -/
abbrev Key.brakeFwBw : Half := 0x3033
/-- 0x3034 BRAKE.DTC_BAND (R186). -/
abbrev Key.brakeDtcBand : Half := 0x3034
/-- 0x3035 BRAKE.REVERSE_SPEED (R186). -/
abbrev Key.brakeReverseSpeed : Half := 0x3035
/-- 0x4001 PROF.S_VMAX (R259). -/
abbrev Key.profSVmax : Half := 0x4001
/-- 0x4002 PROF.S_AMAX (R259). -/
abbrev Key.profSAmax : Half := 0x4002
/-- 0x4003 PROF.S_JMAX (R259). -/
abbrev Key.profSJmax : Half := 0x4003
/-- 0x4004 PROF.S_STOP_AMAX (R259). -/
abbrev Key.profSStopAmax : Half := 0x4004
/-- 0x4008 PROF.B_VMAX (R259). -/
abbrev Key.profBVmax : Half := 0x4008
/-- 0x4009 PROF.B_AMAX (R259). -/
abbrev Key.profBAmax : Half := 0x4009
/-- 0x400A PROF.B_JMAX (R259). -/
abbrev Key.profBJmax : Half := 0x400A
/-- 0x400B PROF.B_PVMAX (R259). -/
abbrev Key.profBPvmax : Half := 0x400B
/-- 0x400C PROF.B_PAMAX (R259). -/
abbrev Key.profBPamax : Half := 0x400C
/-- 0x4010 PROF.MAX_HORIZON (R259). -/
abbrev Key.profMaxHorizon : Half := 0x4010
/-- 0x4030 HOLD.DELAY (R187). -/
abbrev Key.holdDelay : Half := 0x4030
/-- 0x4031 HOLD.FRACTION (R187). -/
abbrev Key.holdFraction : Half := 0x4031
/-- 0x4032 HOLD.SPEED_BAND (R187). -/
abbrev Key.holdSpeedBand : Half := 0x4032
/-- 0x4033 HOLD.STEER_BAND (R187). -/
abbrev Key.holdSteerBand : Half := 0x4033
/-- 0x4034 HOLD.B_STEP (R187). -/
abbrev Key.holdBStep : Half := 0x4034
/-- 0x4035 HOLD.B_DWELL (R187). -/
abbrev Key.holdBDwell : Half := 0x4035
/-- 0x4036 HOLD.B_TOL (R187). -/
abbrev Key.holdBTol : Half := 0x4036
/-- 0x4037 HOLD.B_FLOOR (R187). -/
abbrev Key.holdBFloor : Half := 0x4037
/-- 0x4040 HOME.S_SPEED (R259). -/
abbrev Key.homeSSpeed : Half := 0x4040
/-- 0x4041 HOME.S_PUSH (R259). -/
abbrev Key.homeSPush : Half := 0x4041
/-- 0x4042 HOME.S_RISE_TIME (R259). -/
abbrev Key.homeSRiseTime : Half := 0x4042
/-- 0x4043 HOME.S_MIN_TRAVEL (R259). -/
abbrev Key.homeSMinTravel : Half := 0x4043
/-- 0x4044 HOME.S_SWITCH_CLEAR (R259). -/
abbrev Key.homeSSwitchClear : Half := 0x4044
/-- 0x4045 HOME.TIMEOUT (R259). -/
abbrev Key.homeTimeout : Half := 0x4045
/-- 0x4048 HOME.B_SPEED (R259). -/
abbrev Key.homeBSpeed : Half := 0x4048
/-- 0x4049 HOME.B_RETRACT (R259). -/
abbrev Key.homeBRetract : Half := 0x4049
/-- 0x404A HOME.B_KISS_FORCE (R259). -/
abbrev Key.homeBKissForce : Half := 0x404A
/-- 0x404B HOME.B_STIFF_FORCE (R259). -/
abbrev Key.homeBStiffForce : Half := 0x404B
/-- 0x404C HOME.B_AIRGAP (R259). -/
abbrev Key.homeBAirgap : Half := 0x404C
/-- 0x404D HOME.B_MAX_TRAVEL (R259). -/
abbrev Key.homeBMaxTravel : Half := 0x404D
/-- 0x404E HOME.B_PUSH (R259). -/
abbrev Key.homeBPush : Half := 0x404E
/-- 0x5001 NET.ETHERTYPE (R303). -/
abbrev Key.netEthertype : Half := 0x5001
/-- 0x5002 NET.CHANNELS (R303). -/
abbrev Key.netChannels : Half := 0x5002
/-- 0x5010 NET.NODE_ID_1 (R303). -/
abbrev Key.netNodeId1 : Half := 0x5010
/-- 0x5011 NET.NODE_ID_2 (R303). -/
abbrev Key.netNodeId2 : Half := 0x5011
/-- 0x5012 NET.NODE_ID_3 (R303). -/
abbrev Key.netNodeId3 : Half := 0x5012
/-- 0x5013 NET.MODULE_TAG (R303). -/
abbrev Key.netModuleTag : Half := 0x5013
/-- 0x5014 NET.RELAY_HOLD (R303). -/
abbrev Key.netRelayHold : Half := 0x5014
/-- 0x5020 NET.RX_DELAY (R325). -/
abbrev Key.netRxDelay : Half := 0x5020
/-- 0x5021 NET.ACCEPT_HALF (R325). -/
abbrev Key.netAcceptHalf : Half := 0x5021
/-- 0x5022 NET.MAX_CORRECTION (R325). -/
abbrev Key.netMaxCorrection : Half := 0x5022
/-- 0x5023 NET.RATE_LIMIT (R325). -/
abbrev Key.netRateLimit : Half := 0x5023
/-- 0x5024 NET.SYNC_AGE (R325). -/
abbrev Key.netSyncAge : Half := 0x5024
/-- 0x5025 NET.SYNC_HOLDOVER (R325). -/
abbrev Key.netSyncHoldover : Half := 0x5025
/-- 0x5026 NET.FAST_LISTEN (R325). -/
abbrev Key.netFastListen : Half := 0x5026
/-- 0x5027 NET.JOIN_TIMEOUT (R325). -/
abbrev Key.netJoinTimeout : Half := 0x5027
/-- 0x5028 NET.PEER_SKEW (R325). -/
abbrev Key.netPeerSkew : Half := 0x5028
/-- 0x5029 NET.JOIN_ACK (R325). -/
abbrev Key.netJoinAck : Half := 0x5029
/-- 0x6001 SENT.LO_A (R237). -/
abbrev Key.sentLoA : Half := 0x6001
/-- 0x6002 SENT.HI_A (R237). -/
abbrev Key.sentHiA : Half := 0x6002
/-- 0x6003 SENT.LO_B (R237). -/
abbrev Key.sentLoB : Half := 0x6003
/-- 0x6004 SENT.HI_B (R237). -/
abbrev Key.sentHiB : Half := 0x6004
/-- 0x6005 SENT.STATUS_MASK_A (R237). -/
abbrev Key.sentStatusMaskA : Half := 0x6005
/-- 0x6006 SENT.STATUS_MASK_B (R237). -/
abbrev Key.sentStatusMaskB : Half := 0x6006
/-- 0x6007 SENT.STARTUP (R237). -/
abbrev Key.sentStartup : Half := 0x6007
/-- 0x6010 SENT.TIMEOUT_A (R237). -/
abbrev Key.sentTimeoutA : Half := 0x6010
/-- 0x6011 SENT.TIMEOUT_B (R237). -/
abbrev Key.sentTimeoutB : Half := 0x6011
/-- 0x6012 SENT.TICK_A (R237). -/
abbrev Key.sentTickA : Half := 0x6012
/-- 0x6013 SENT.TICK_B (R237). -/
abbrev Key.sentTickB : Half := 0x6013
/-- 0x6014 SENT.NIBBLES_A (R237). -/
abbrev Key.sentNibblesA : Half := 0x6014
/-- 0x6015 SENT.NIBBLES_B (R237). -/
abbrev Key.sentNibblesB : Half := 0x6015
/-- 0x6016 SENT.BITS_A (R237). -/
abbrev Key.sentBitsA : Half := 0x6016
/-- 0x6017 SENT.BITS_B (R237). -/
abbrev Key.sentBitsB : Half := 0x6017
/-- 0x6018 SENT.CRC_A (R237). -/
abbrev Key.sentCrcA : Half := 0x6018
/-- 0x6019 SENT.CRC_B (R237). -/
abbrev Key.sentCrcB : Half := 0x6019
/-- 0x601A SENT.PAUSE_A (R237). -/
abbrev Key.sentPauseA : Half := 0x601A
/-- 0x601B SENT.PAUSE_B (R237). -/
abbrev Key.sentPauseB : Half := 0x601B
/-- 0x601C SENT.FRAME_TICKS_A (R237). -/
abbrev Key.sentFrameTicksA : Half := 0x601C
/-- 0x601D SENT.FRAME_TICKS_B (R237). -/
abbrev Key.sentFrameTicksB : Half := 0x601D
/-- 0x601E SENT.SERIAL_A (R237). -/
abbrev Key.sentSerialA : Half := 0x601E
/-- 0x601F SENT.SERIAL_B (R237). -/
abbrev Key.sentSerialB : Half := 0x601F
/-- 0x6020 QUAD.FILTER_N (R238). -/
abbrev Key.quadFilterN : Half := 0x6020
/-- 0x6021 QUAD.ILLEGAL_LIMIT (R238). -/
abbrev Key.quadIllegalLimit : Half := 0x6021
/-- 0x6022 QUAD.ILLEGAL_WINDOW (R238). -/
abbrev Key.quadIllegalWindow : Half := 0x6022
/-- 0x6023 QUAD.DIRECTION (R238). -/
abbrev Key.quadDirection : Half := 0x6023
/-- 0x6024 QUAD.RECOVER (R238). -/
abbrev Key.quadRecover : Half := 0x6024
/-- 0x6025 QUAD.AGREE (R238). -/
abbrev Key.quadAgree : Half := 0x6025
/-- 0x6030 SW1.FITTED (R238). -/
abbrev Key.sw1Fitted : Half := 0x6030
/-- 0x6031 SW1.POLARITY (R238). -/
abbrev Key.sw1Polarity : Half := 0x6031
/-- 0x6032 SW1.FILTER (R238). -/
abbrev Key.sw1Filter : Half := 0x6032
/-- 0x6033 SW1.STUCK_TIME (R238). -/
abbrev Key.sw1StuckTime : Half := 0x6033
/-- 0x6034 SW2.FITTED (R238). -/
abbrev Key.sw2Fitted : Half := 0x6034
/-- 0x6035 SW2.POLARITY (R238). -/
abbrev Key.sw2Polarity : Half := 0x6035
/-- 0x6036 SW2.FILTER (R238). -/
abbrev Key.sw2Filter : Half := 0x6036
/-- 0x6037 SW2.STUCK_TIME (R238). -/
abbrev Key.sw2StuckTime : Half := 0x6037
/-- 0x603C SW.CHATTER_K (R238). -/
abbrev Key.swChatterK : Half := 0x603C
/-- 0x603D SW.CHATTER_W (R238). -/
abbrev Key.swChatterW : Half := 0x603D
/-- 0x603E SW.END_BAND (R238). -/
abbrev Key.swEndBand : Half := 0x603E
/-- 0x6050 CS.WINDOW (R154). -/
abbrev Key.csWindow : Half := 0x6050
/-- 0x6051 CS.SETTLE (R154). -/
abbrev Key.csSettle : Half := 0x6051
/-- 0x6052 CS.XCHECK_PCT (R154). -/
abbrev Key.csXcheckPct : Half := 0x6052
/-- 0x6053 CS.XCHECK_FLOOR (R154). -/
abbrev Key.csXcheckFloor : Half := 0x6053
/-- 0x6054 CS.XCHECK_PERIODS (R154). -/
abbrev Key.csXcheckPeriods : Half := 0x6054
/-- 0x6055 CS.MISS_LIMIT (R154). -/
abbrev Key.csMissLimit : Half := 0x6055
/-- 0x7010 GATE.DEADTIME_S (R135). -/
abbrev Key.gateDeadtimeS : Half := 0x7010
/-- 0x7011 GATE.DEADTIME_B (R135). -/
abbrev Key.gateDeadtimeB : Half := 0x7011
/-- 0x7020 GATE.SLEW_TARGET (R135). -/
abbrev Key.gateSlewTarget : Half := 0x7020
/-- 0x7021 GATE.PRECHARGE_I (R135). -/
abbrev Key.gatePrechargeI : Half := 0x7021
/-- 0x7022 GATE.SERVO_STEP (R135). -/
abbrev Key.gateServoStep : Half := 0x7022
/-- 0x7023 GATE.OVERMOD (R135). -/
abbrev Key.gateOvermod : Half := 0x7023
/-- 0x7030 LEG.DIDT_LIMIT (R135). -/
abbrev Key.legDidtLimit : Half := 0x7030
/-- 0x7031 LEG.DIDT_EDGE (R135). -/
abbrev Key.legDidtEdge : Half := 0x7031
/-- 0x7040 SET.OC_S (R135). -/
abbrev Key.setOcS : Half := 0x7040
/-- 0x7041 SET.OC_B (R135). -/
abbrev Key.setOcB : Half := 0x7041
/-- 0x7060 GEYSER.R_NOMINAL (R135). -/
abbrev Key.geyserRNominal : Half := 0x7060
/-- 0x8010 SHADOW.TORQUE_LIMIT (R80). -/
abbrev Key.shadowTorqueLimit : Half := 0x8010
/-- 0x8011 SHADOW.STEPS (R80). -/
abbrev Key.shadowSteps : Half := 0x8011
/-- 0x8012 SHADOW.SETPOINT_LIMIT (R80). -/
abbrev Key.shadowSetpointLimit : Half := 0x8012
/-- 0x8020 SHARE.WEIGHT_1 (R187). -/
abbrev Key.shareWeight1 : Half := 0x8020
/-- 0x8021 SHARE.WEIGHT_2 (R187). -/
abbrev Key.shareWeight2 : Half := 0x8021
/-- 0x8022 SHARE.WEIGHT_3 (R187). -/
abbrev Key.shareWeight3 : Half := 0x8022
/-- 0x8030 LEAD.PREFERENCE (R80). -/
abbrev Key.leadPreference : Half := 0x8030
/-- 0x8040 LOC.BRAKE_FORCE (R100). -/
abbrev Key.locBrakeForce : Half := 0x8040
/-- 0x8041 LOC.HOLD_CYCLES (R100). -/
abbrev Key.locHoldCycles : Half := 0x8041
/-- 0x8042 LOC.TIMEOUT (R100). -/
abbrev Key.locTimeout : Half := 0x8042
/-- 0x8043 LOC.STEER_ANGLE (R100). -/
abbrev Key.locSteerAngle : Half := 0x8043
/-- 0x8044 LOC.STEER_RATE (R100). -/
abbrev Key.locSteerRate : Half := 0x8044
/-- 0x8045 LOC.BRAKE_RAMP (R100). -/
abbrev Key.locBrakeRamp : Half := 0x8045
/-- 0x8050 LINK.LOSS_PERIODS (R80). -/
abbrev Key.linkLossPeriods : Half := 0x8050
/-- 0x8051 LINK.SILENCE_VOTE (R80). -/
abbrev Key.linkSilenceVote : Half := 0x8051
/-- 0x8052 VOTE.CONFIRM (R80). -/
abbrev Key.voteConfirm : Half := 0x8052
/-- 0x8053 ARB.TIMEOUT (R80). -/
abbrev Key.arbTimeout : Half := 0x8053
/-- 0x8054 REJOIN.RAMP (R80). -/
abbrev Key.rejoinRamp : Half := 0x8054
/-- 0x8055 REJOIN.CONVERGE_TIMEOUT (R80). -/
abbrev Key.rejoinConvergeTimeout : Half := 0x8055
/-- 0x8056 REJOIN.MAX_ATTEMPTS (R80). -/
abbrev Key.rejoinMaxAttempts : Half := 0x8056
/-- 0x8060 TWIN.POSITION (R80). -/
abbrev Key.twinPosition : Half := 0x8060
/-- 0x8061 TWIN.SHARE (R80). -/
abbrev Key.twinShare : Half := 0x8061
/-- 0x8062 TWIN.LOSS_STEPS (R80). -/
abbrev Key.twinLossSteps : Half := 0x8062
/-- 0x8070 LIMP.STEER_RATE (R100). -/
abbrev Key.limpSteerRate : Half := 0x8070
/-- 0x8071 SENSOR.AGREE_A (R100). -/
abbrev Key.sensorAgreeA : Half := 0x8071
/-- 0x8072 SENSOR.AGREE_B (R100). -/
abbrev Key.sensorAgreeB : Half := 0x8072
/-- 0x8073 LOG.COALESCE (R100). -/
abbrev Key.logCoalesce : Half := 0x8073
/-- 0x9010 SEC.OPEN_PROOF (R453). -/
abbrev Key.secOpenProof : Half := 0x9010
/-- 0x9011 SEC.MAC_FAIL_LIMIT (R453). -/
abbrev Key.secMacFailLimit : Half := 0x9011
/-- 0x9020 FW.RAISE_DELAY (R453). -/
abbrev Key.fwRaiseDelay : Half := 0x9020
/-- 0xA010 SHED.PROFILE (R412). -/
abbrev Key.shedProfile : Half := 0xA010
/-- 0xA011 SHED.QUALIFY (R412). -/
abbrev Key.shedQualify : Half := 0xA011
/-- 0xA012 SHED.RECOVER (R412). -/
abbrev Key.shedRecover : Half := 0xA012
/-- 0xA020 SUPPLY.RESTART_DELAY (R412). -/
abbrev Key.supplyRestartDelay : Half := 0xA020
/-- 0xA021 SUPPLY.RESTART_MAX (R412). -/
abbrev Key.supplyRestartMax : Half := 0xA021

/-- Rows of the 0x1000 block (R373). -/
def paramRows1 : List ParamRow := [
  ⟨0x1010, true, 20, 200, [], 100, 1, .boot⟩,
  ⟨0x1011, true, 0, 1, [], 0, 1, .boot⟩,
  ⟨0x1020, true, 0, 2, [], 0, 1, .runEntry⟩,
  ⟨0x1021, false, 1, 600, [], 5, 1, .atOnce⟩,
  ⟨0x1022, false, 1, 600, [], 100, 1/10, .boot⟩,
  ⟨0x1023, false, 1, 120, [], 30, 1, .serviceEntry⟩,
  ⟨0x1024, true, 1, 100, [], 10, 1, .runEntry⟩,
  ⟨0x1030, false, 1, 3600, [], 600, 1, .sessionOpen⟩,
  ⟨0x1031, true, 10, 3600, [], 300, 1, .sessionOpen⟩,
  ⟨0x1032, false, 125, 1000, [125, 250, 500, 1000], 500, 1, .boot⟩,
  ⟨0x1033, false, 1, 5, [1, 2, 4, 5], 2, 1, .boot⟩]

/-- Rows of the 0x2000 block (R373). -/
def paramRows2 : List ParamRow := [
  ⟨0x2001, true, 1, 16, [], 4, 1, .runEntry⟩,
  ⟨0x2002, true, 50, 2000, [], 400, 1, .runEntry⟩,
  ⟨0x2003, true, 5, 500, [], 40, 1, .runEntry⟩,
  ⟨0x2004, true, 5, 2000, [], 60, 1, .runEntry⟩,
  ⟨0x2005, true, 5, 2000, [], 80, 1, .runEntry⟩,
  ⟨0x2006, true, 1, 100, [], 12, 1, .runEntry⟩,
  ⟨0x2007, true, 0, 60, [], 30, 1, .runEntry⟩,
  ⟨0x2010, false, 10, 60, [], 60, 1, .runEntry⟩,
  ⟨0x2011, false, 5, 35, [], 35, 1, .runEntry⟩,
  ⟨0x2012, true, 1, 20, [], 20, 1/10, .runEntry⟩,
  ⟨0x2013, true, 0, 60, [], 40, 1, .runEntry⟩,
  ⟨0x2014, true, 110, 140, [], 130, 1, .runEntry⟩,
  ⟨0x2021, true, 0, 40, [0, 20, 40], 0, 1, .boot⟩,
  ⟨0x2022, true, 0, 40, [0, 20, 40], 20, 1, .boot⟩,
  ⟨0x2023, true, 0, 40, [0, 20, 40], 40, 1, .boot⟩,
  ⟨0x2030, true, 200, 8000, [], 2500, 1, .runEntry⟩,
  ⟨0x2031, true, 80, 100, [], 96, 1, .runEntry⟩,
  ⟨0x2032, true, 70, 100, [], 90, 1, .runEntry⟩,
  ⟨0x2033, true, 10, 500, [], 100, 1, .runEntry⟩,
  ⟨0x2034, true, 1, 50, [], 5, 1/10, .runEntry⟩,
  ⟨0x2035, false, 1, 20, [], 5, 1, .atOnce⟩,
  ⟨0x2040, true, 2, 30, [], 8, 1, .runEntry⟩,
  ⟨0x2041, true, 2, 8, [], 3, 1, .runEntry⟩,
  ⟨0x2042, true, 2, 20, [], 6, 1/2, .runEntry⟩]

/-- Rows of the 0x2000 block (R373). -/
def paramRows3 : List ParamRow := [
  ⟨0x2043, true, 1, 10, [], 2, 1/2, .runEntry⟩,
  ⟨0x2044, true, 1000, 10000, [], 5000, 1, .runEntry⟩,
  ⟨0x2045, true, 1, 16, [], 4, 1/2, .runEntry⟩,
  ⟨0x2046, true, 1, 16, [], 4, 1/2, .runEntry⟩,
  ⟨0x2047, true, 20, 1000, [], 200, 1, .runEntry⟩,
  ⟨0x2048, true, 2, 20, [], 2, 1, .runEntry⟩,
  ⟨0x2049, true, 10, 80, [], 40, 1, .runEntry⟩,
  ⟨0x204A, true, 1, 20, [], 3, 1, .runEntry⟩,
  ⟨0x204B, true, 2, 20, [], 5, 1, .runEntry⟩,
  ⟨0x204C, true, 1, 20, [], 5, 1, .runEntry⟩]

/-- Rows of the 0x3000 block (R373). -/
def paramRows4 : List ParamRow := [
  ⟨0x3001, true, 1, 16, [], 5, 1, .runEntry⟩,
  ⟨0x3002, true, 50, 2000, [], 600, 1, .runEntry⟩,
  ⟨0x3003, true, 5, 500, [], 80, 1, .runEntry⟩,
  ⟨0x3004, true, 5, 2000, [], 40, 1, .runEntry⟩,
  ⟨0x3005, true, 5, 2000, [], 50, 1, .runEntry⟩,
  ⟨0x3006, true, 1, 100, [], 6, 1, .runEntry⟩,
  ⟨0x3007, true, 0, 60, [], 30, 1, .runEntry⟩,
  ⟨0x3010, false, 5, 45, [], 45, 1, .runEntry⟩,
  ⟨0x3011, false, 2, 12, [], 12, 1, .runEntry⟩,
  ⟨0x3012, true, 1, 20, [], 20, 1/10, .runEntry⟩,
  ⟨0x3013, true, 0, 60, [], 30, 1, .runEntry⟩,
  ⟨0x3014, true, 110, 140, [], 130, 1, .runEntry⟩,
  ⟨0x3021, true, 0, 40, [0, 20, 40], 0, 1, .boot⟩,
  ⟨0x3022, true, 0, 40, [0, 20, 40], 20, 1, .boot⟩,
  ⟨0x3023, true, 0, 40, [0, 20, 40], 40, 1, .boot⟩,
  ⟨0x3030, true, 200, 8000, [], 2500, 1, .runEntry⟩,
  ⟨0x3031, true, 80, 100, [], 96, 1, .runEntry⟩,
  ⟨0x3032, true, 70, 100, [], 90, 1, .runEntry⟩,
  ⟨0x3033, true, 10, 500, [], 100, 1, .runEntry⟩,
  ⟨0x3034, true, 1, 50, [], 5, 1/10, .runEntry⟩,
  ⟨0x3035, false, 1, 20, [], 5, 1, .atOnce⟩]

/-- Rows of the 0x4000 block (R373). -/
def paramRows5 : List ParamRow := [
  ⟨0x4001, false, 1, 400, [], 100, 1, .readyEntry⟩,
  ⟨0x4002, false, 10, 5000, [], 1000, 1, .readyEntry⟩,
  ⟨0x4003, true, 100, 200000, [], 20000, 1, .readyEntry⟩,
  ⟨0x4004, true, 10, 10000, [], 2000, 1, .readyEntry⟩,
  ⟨0x4008, false, 10, 2000, [], 500, 1, .readyEntry⟩,
  ⟨0x4009, false, 100, 50000, [], 10000, 1, .readyEntry⟩,
  ⟨0x400A, true, 1000, 2000000, [], 500000, 1, .readyEntry⟩,
  ⟨0x400B, false, 1000, 5000000, [], 400000, 1, .readyEntry⟩,
  ⟨0x400C, true, 10000, 100000000, [], 4000000, 1, .readyEntry⟩,
  ⟨0x4010, false, 1, 600, [], 100, 1/10, .atOnce⟩,
  ⟨0x4030, false, 1, 300, [], 20, 1/10, .holdStart⟩,
  ⟨0x4031, false, 10, 100, [], 40, 1, .holdStart⟩,
  ⟨0x4032, true, 1, 30, [], 5, 1/10, .holdStart⟩,
  ⟨0x4033, true, 1, 20, [], 2, 1/10, .holdStart⟩,
  ⟨0x4034, true, 1, 20, [], 5, 1, .holdStart⟩,
  ⟨0x4035, true, 10, 500, [], 50, 1, .holdStart⟩,
  ⟨0x4036, false, 1, 20, [], 4, 1/2, .holdStart⟩,
  ⟨0x4037, true, 0, 50, [], 10, 1, .holdStart⟩,
  ⟨0x4040, false, 1, 20, [], 5, 1, .homing⟩,
  ⟨0x4041, true, 10, 60, [], 30, 1, .homing⟩,
  ⟨0x4042, true, 5, 200, [], 20, 1, .homing⟩,
  ⟨0x4043, true, 10, 100, [], 60, 1, .homing⟩,
  ⟨0x4044, true, 1, 20, [], 5, 1, .homing⟩,
  ⟨0x4045, false, 5, 120, [], 30, 1, .homing⟩]

/-- Rows of the 0x4000 block (R373). -/
def paramRows6 : List ParamRow := [
  ⟨0x4048, false, 1000, 200000, [], 20000, 1, .homing⟩,
  ⟨0x4049, true, 500, 100000, [], 5000, 1, .homing⟩,
  ⟨0x404A, true, 2, 50, [], 10, 1/10, .homing⟩,
  ⟨0x404B, true, 5, 50, [], 20, 1, .homing⟩,
  ⟨0x404C, false, 100, 20000, [], 2000, 1, .homing⟩,
  ⟨0x404D, true, 1000, 1000000, [], 100000, 1, .homing⟩,
  ⟨0x404E, true, 10, 80, [], 30, 1, .homing⟩]

/-- Rows of the 0x5000 block (R373). -/
def paramRows7 : List ParamRow := [
  ⟨0x5001, true, 1536, 65535, [], 34997, 1, .boot⟩,
  ⟨0x5002, false, 1, 3, [], 3, 1, .boot⟩,
  ⟨0x5010, true, 0, 31, [], 4, 1, .boot⟩,
  ⟨0x5011, true, 0, 31, [], 5, 1, .boot⟩,
  ⟨0x5012, true, 0, 31, [], 6, 1, .boot⟩,
  ⟨0x5013, true, 1, 254, [], 1, 1, .boot⟩,
  ⟨0x5014, true, 1, 32, [], 8, 1, .atOnce⟩,
  ⟨0x5020, true, 0, 40, [], 10, 1/20, .boot⟩,
  ⟨0x5021, true, 10, 40, [], 20, 1/10, .boot⟩,
  ⟨0x5022, true, 5, 30, [], 15, 1/10, .boot⟩,
  ⟨0x5023, true, 50, 500, [], 200, 1, .boot⟩,
  ⟨0x5024, true, 1, 16, [], 8, 1, .boot⟩,
  ⟨0x5025, true, 8, 256, [], 32, 1, .boot⟩,
  ⟨0x5026, true, 4, 32, [], 8, 1, .boot⟩,
  ⟨0x5027, false, 1, 60, [], 5, 1, .atOnce⟩,
  ⟨0x5028, true, 20, 80, [], 30, 1/10, .boot⟩,
  ⟨0x5029, true, 0, 1, [], 1, 1, .boot⟩]

/-- Rows of the 0x6000 block (R373). -/
def paramRows8 : List ParamRow := [
  ⟨0x6001, true, 0, 4294967294, [], 1, 1, .runEntry⟩,
  ⟨0x6002, true, 1, 4294967295, [], 4088, 1, .runEntry⟩,
  ⟨0x6003, true, 0, 4294967294, [], 1, 1, .runEntry⟩,
  ⟨0x6004, true, 1, 4294967295, [], 4088, 1, .runEntry⟩,
  ⟨0x6005, false, 0, 15, [], 1, 1, .boot⟩,
  ⟨0x6006, false, 0, 15, [], 1, 1, .boot⟩,
  ⟨0x6007, false, 5, 200, [], 20, 1, .boot⟩,
  ⟨0x6010, false, 2, 10, [], 3, 1, .runEntry⟩,
  ⟨0x6011, false, 2, 10, [], 3, 1, .runEntry⟩,
  ⟨0x6012, false, 6, 24, [], 6, 1/2, .boot⟩,
  ⟨0x6013, false, 6, 24, [], 6, 1/2, .boot⟩,
  ⟨0x6014, false, 1, 8, [], 6, 1, .boot⟩,
  ⟨0x6015, false, 1, 8, [], 6, 1, .boot⟩,
  ⟨0x6016, false, 1, 8, [], 3, 4, .boot⟩,
  ⟨0x6017, false, 1, 8, [], 3, 4, .boot⟩,
  ⟨0x6018, false, 0, 1, [], 1, 1, .boot⟩,
  ⟨0x6019, false, 0, 1, [], 1, 1, .boot⟩,
  ⟨0x601A, false, 0, 2, [], 2, 1, .boot⟩,
  ⟨0x601B, false, 0, 2, [], 2, 1, .boot⟩,
  ⟨0x601C, false, 110, 1100, [], 300, 1, .boot⟩,
  ⟨0x601D, false, 110, 1100, [], 300, 1, .boot⟩,
  ⟨0x601E, false, 0, 2, [], 2, 1, .boot⟩,
  ⟨0x601F, false, 0, 2, [], 2, 1, .boot⟩,
  ⟨0x6020, true, 2, 255, [], 8, 1, .runEntry⟩]

/-- Rows of the 0x6000 block (R373). -/
def paramRows9 : List ParamRow := [
  ⟨0x6021, true, 1, 16, [], 4, 1, .runEntry⟩,
  ⟨0x6022, true, 1, 100, [], 10, 1/10, .runEntry⟩,
  ⟨0x6023, false, 0, 1, [], 0, 1, .boot⟩,
  ⟨0x6024, true, 10, 1000, [], 100, 1, .atOnce⟩,
  ⟨0x6025, true, 1, 10000, [], 64, 1, .runEntry⟩,
  ⟨0x6030, false, 0, 1, [], 0, 1, .boot⟩,
  ⟨0x6031, false, 0, 1, [], 0, 1, .boot⟩,
  ⟨0x6032, false, 1, 500, [], 20, 1/10, .atOnce⟩,
  ⟨0x6033, false, 0, 6000, [], 0, 1/10, .atOnce⟩,
  ⟨0x6034, false, 0, 1, [], 0, 1, .boot⟩,
  ⟨0x6035, false, 0, 1, [], 0, 1, .boot⟩,
  ⟨0x6036, false, 1, 500, [], 100, 1/10, .atOnce⟩,
  ⟨0x6037, false, 0, 6000, [], 0, 1/10, .atOnce⟩,
  ⟨0x603C, true, 2, 64, [], 8, 1, .atOnce⟩,
  ⟨0x603D, true, 10, 1000, [], 100, 1, .atOnce⟩,
  ⟨0x603E, true, 1, 20, [], 4, 1/2, .atOnce⟩,
  ⟨0x6050, true, 16, 80, [], 24, 25/2, .runEntry⟩,
  ⟨0x6051, true, 4, 64, [], 16, 25/2, .runEntry⟩,
  ⟨0x6052, true, 5, 50, [], 15, 1, .runEntry⟩,
  ⟨0x6053, true, 1, 20, [], 4, 1/2, .runEntry⟩,
  ⟨0x6054, true, 2, 64, [], 4, 1, .runEntry⟩,
  ⟨0x6055, true, 2, 64, [], 8, 1, .runEntry⟩]

/-- Rows of the 0x7000 block (R373). -/
def paramRows10 : List ParamRow := [
  ⟨0x7010, true, 8, 64, [], 16, 5/4, .runEntry⟩,
  ⟨0x7011, true, 8, 64, [], 16, 5/4, .runEntry⟩,
  ⟨0x7020, true, 8, 40, [], 16, 1/4, .runEntry⟩,
  ⟨0x7021, true, 2, 8, [], 8, 1/4, .runEntry⟩,
  ⟨0x7022, true, 1, 25, [], 12, 1, .runEntry⟩,
  ⟨0x7023, true, 0, 1, [], 0, 1, .runEntry⟩,
  ⟨0x7030, true, 4, 32, [], 8, 1/4, .runEntry⟩,
  ⟨0x7031, true, 4, 40, [], 20, 1, .runEntry⟩,
  ⟨0x7040, true, 20, 100, [], 80, 1, .runEntry⟩,
  ⟨0x7041, true, 20, 100, [], 60, 1, .runEntry⟩,
  ⟨0x7060, false, 20, 200, [], 30, 1/10, .runEntry⟩]

/-- Rows of the 0x8000 block (R373). -/
def paramRows11 : List ParamRow := [
  ⟨0x8010, true, 1, 25, [], 5, 1, .runEntry⟩,
  ⟨0x8011, true, 2, 16, [], 4, 1, .runEntry⟩,
  ⟨0x8012, true, 1, 50, [], 5, 1/10, .runEntry⟩,
  ⟨0x8020, true, 50, 200, [], 100, 1, .runEntry⟩,
  ⟨0x8021, true, 50, 200, [], 100, 1, .runEntry⟩,
  ⟨0x8022, true, 50, 200, [], 100, 1, .runEntry⟩,
  ⟨0x8030, true, 0, 5, [], 0, 1, .boot⟩,
  ⟨0x8040, false, 0, 100, [], 30, 1, .runEntry⟩,
  ⟨0x8041, true, 2, 10, [], 3, 1, .runEntry⟩,
  ⟨0x8042, true, 10, 200, [], 40, 1, .runEntry⟩,
  ⟨0x8043, false, (-100), 100, [], 0, 1, .runEntry⟩,
  ⟨0x8044, false, 0, 20, [], 2, 1, .runEntry⟩,
  ⟨0x8045, true, 20, 200, [], 200, 1, .runEntry⟩,
  ⟨0x8050, true, 2, 8, [], 3, 1, .boot⟩,
  ⟨0x8051, true, 4, 64, [], 8, 1, .boot⟩,
  ⟨0x8052, true, 1, 8, [], 2, 1, .boot⟩,
  ⟨0x8053, false, 5, 100, [], 20, 1, .dispute⟩,
  ⟨0x8054, false, 10, 500, [], 50, 1, .rejoining⟩,
  ⟨0x8055, true, 10, 500, [], 50, 1, .rejoining⟩,
  ⟨0x8056, true, 1, 10, [], 3, 1, .boot⟩,
  ⟨0x8060, true, 0, 2, [], 0, 1, .boot⟩,
  ⟨0x8061, true, 20, 80, [], 50, 1, .twinForming⟩,
  ⟨0x8062, true, 2, 8, [], 3, 1, .boot⟩,
  ⟨0x8070, true, 10, 100, [], 50, 1, .limpEntry⟩]

/-- Rows of the 0x8000 block (R373). -/
def paramRows12 : List ParamRow := [
  ⟨0x8071, true, 1, 50, [], 10, 1/10, .runEntry⟩,
  ⟨0x8072, true, 5, 100, [], 30, 1/10, .runEntry⟩,
  ⟨0x8073, true, 0, 10000, [], 1000, 1, .atOnce⟩]

/-- Rows of the 0x9000 block (R373). -/
def paramRows13 : List ParamRow := [
  ⟨0x9010, true, 1, 100, [], 10, 1/10, .atOnce⟩,
  ⟨0x9011, true, 1, 64, [], 8, 1, .atOnce⟩,
  ⟨0x9020, true, 0, 1000, [], 10, 1, .fwActivate⟩]

/-- Rows of the 0xA000 block (R373). -/
def paramRows14 : List ParamRow := [
  ⟨0xA010, true, 0, 2, [], 0, 1, .boot⟩,
  ⟨0xA011, true, 1, 100, [], 10, 1/10, .boot⟩,
  ⟨0xA012, true, 1, 1000, [], 10, 1, .boot⟩,
  ⟨0xA020, false, 10, 5000, [], 100, 1, .atOnce⟩,
  ⟨0xA021, true, 0, 10, [], 3, 1, .atOnce⟩]

/-- Every parameter of the manual (R373). -/
def paramRows : List ParamRow :=
  paramRows1 ++ paramRows2 ++ paramRows3 ++ paramRows4 ++ paramRows5 ++ paramRows6 ++ paramRows7 ++ paramRows8 ++ paramRows9 ++ paramRows10 ++ paramRows11 ++ paramRows12 ++ paramRows13 ++ paramRows14

/-- The row of a key; none for a key outside every defined parameter (R373). -/
def paramRow (k : Half) : Option ParamRow := paramRows.find? (fun r => r.key = k)

/-- The default code of a key; 0 where the manual defines no such key. -/
def paramDefault (k : Half) : Int := ((paramRow k).map (·.dflt)).getD 0

/-- A valid value code of the parameter (R358). -/
def ParamRow.valid (r : ParamRow) (c : Int) : Bool :=
  if r.only.isEmpty then decide (r.lo ≤ c) && decide (c ≤ r.hi) else r.only.contains c

/-- The first value a list of writes gives a key. -/
def writeOf (w : List (Half × Int)) (k : Half) : Option Int := (w.find? (fun p => p.1 = k)).map (·.2)

/-- A list of writes with one more, an earlier write of the key removed. -/
def putWrite (w : List (Half × Int)) (k : Half) (c : Int) : List (Half × Int) :=
  (k, c) :: w.filter (fun p => p.1 ≠ k)

/-- The committed code of a key: committed write, base image, default (R359, R361, R437). -/
def ParamImg.committedCode (p : ParamImg) (k : Half) : Int :=
  ((writeOf p.committed k).orElse (fun _ => writeOf p.baseVals k)).getD (paramDefault k)

/-- The working code of a key (R360). -/
def ParamImg.workingCode (p : ParamImg) (k : Half) : Int :=
  ((writeOf p.working k).orElse (fun _ => writeOf p.baseVals k)).getD (paramDefault k)

/-- The code of a key in force (R360). -/
def ParamImg.code (p : ParamImg) (k : Half) : Int := (writeOf p.force k).getD (paramDefault k)

/-- When a key takes effect; a key the manual does not define counts as "At once". -/
def takesOf (k : Half) : Takes := ((paramRow k).map (·.takes)).getD .atOnce

/-- The keys of one "Takes effect" event take their working codes (R360). -/
def ParamImg.takeEffect (p : ParamImg) (e : Takes) : ParamImg :=
  { p with force := (p.working ++ p.baseVals).filter (fun x => takesOf x.1 = e) ++
                    p.force.filter (fun x => takesOf x.1 ≠ e) }

/-- Boot reloads the working image from the committed image and every key from it (R360); a lane that runs the defaults
has neither writes nor base values (R437). -/
def ParamImg.atBoot (p : ParamImg) : ParamImg :=
  if p.defaults then { p with working := [], committed := [], baseVals := [], force := [], commitAt := none }
  else { p with working := p.committed, force := p.committed ++ p.baseVals, commitAt := none }

/-- The keys any of the two images writes. -/
def ParamImg.touched (p : ParamImg) : List Half := ((p.working ++ p.committed).map (·.1)).eraseDups

/-- The working image differs from the committed one (R359). -/
def ParamImg.differs (p : ParamImg) : Bool := p.touched.any (fun k => p.workingCode k ≠ p.committedCode k)

/-- Keys that committed writes changed since the base image was loaded (R359). -/
def ParamImg.changed (p : ParamImg) : Nat :=
  (((p.committed.map (·.1)).eraseDups).filter
    (fun k => p.committedCode k ≠ (writeOf p.baseVals k).getD (paramDefault k))).length

/-- The code in force of a key in a lane. -/
def LaneSt.code (l : LaneSt) (k : Half) : Int := l.par.code k

/-- The code in force as a natural number; every range but that of LOC.STEER_ANGLE starts at 0 or above. -/
def LaneSt.codeN (l : LaneSt) (k : Half) : Nat := (l.par.code k).toNat

/-- The value in force of a key: code times step (R358). -/
def LaneSt.val (l : LaneSt) (k : Half) : Rat := (l.par.code k : Rat) * ((paramRow k).map (·.step)).getD 1

/-- The value of a code of a key under an image's working codes, for the commit rules (R361). -/
def ParamImg.workingVal (p : ParamImg) (k : Half) : Rat :=
  (p.workingCode k : Rat) * ((paramRow k).map (·.step)).getD 1

end Sys2Proof.Machine
end

