-- ==== Sys2Proof/Machine/Ops.lean ====
section
/-! DEFINITION. The named operations over the state: numbers and bytes, lanes, sets, legs and links, time, the fault log,
what a lane sees of its peers, roles, votes, the Caldera and the module mode. Every meaning is written over these. -/

namespace Sys2Proof

/-- Lane number (R2). -/
def Lane.num : Lane → Nat
  | .l1 => 1
  | .l2 => 2
  | .l3 => 3

/-- All lanes in number order. -/
def allLanes : List Lane := [.l1, .l2, .l3]

/-- The lower-numbered peer of a lane. -/
def Lane.lower : Lane → Lane
  | .l1 => .l2
  | .l2 => .l1
  | .l3 => .l1

/-- The higher-numbered peer of a lane. -/
def Lane.upper : Lane → Lane
  | .l1 => .l3
  | .l2 => .l3
  | .l3 => .l2

/-- The lane that is neither of two different lanes. -/
def Lane.third (a b : Lane) : Lane := if a.lower = b then a.upper else a.lower

/-- The lane a number names. -/
def Lane.ofNat? : Nat → Option Lane
  | 1 => some .l1
  | 2 => some .l2
  | 3 => some .l3
  | _ => none

/-- Axis number: 0 steer, 1 brake (R3). -/
def Axis.num : Axis → Nat
  | .s => 0
  | .b => 1

/-- Phase number (R3). -/
def Phase.num : Phase → Nat
  | .u => 0
  | .v => 1
  | .w => 2

/-- Lane code 0x1F, 0x2F or 0x3F (R3). -/
def Lane.code (n : Lane) : Byte := BitVec.ofNat 8 (n.num * 16 + 15)

/-- The lane a lane code names (R3). -/
def Lane.ofCode? (c : Byte) : Option Lane :=
  if c = 0x1F then some .l1 else if c = 0x2F then some .l2 else if c = 0x3F then some .l3 else none

/-- The other channel. -/
def Chan.other : Chan → Chan
  | .x => .y
  | .y => .x

/-- Channel number: 0 X, 1 Y. -/
def Chan.num : Chan → Nat
  | .x => 0
  | .y => 1

/-- The axis a SENT port senses: SENTA steer, SENTB brake (R37). -/
def SentPort.axis : SentPort → Axis
  | .a => .s
  | .b => .b

/-- Port number within a lane. -/
def SentPort.num : SentPort → Nat
  | .a => 0
  | .b => 1

/-- Port number within a lane. -/
def SwPort.num : SwPort → Nat
  | .sw1 => 3
  | .sw2 => 4

/-- Mode code. -/
def Mode.code : Mode → Nat
  | .dormant => 0
  | .boot => 1
  | .ready => 2
  | .run => 3
  | .limp => 4
  | .service => 5

/-- Role code. -/
def Role.code : Role → Nat
  | .none => 0
  | .leader => 1
  | .deputy => 2
  | .member => 3

/-- Lane-state code. -/
def LaneState.code : LaneState → Nat
  | .off => 0
  | .starting => 1
  | .active => 2
  | .rejoining => 3
  | .isolated => 4
  | .quenched => 5

/-- The lane state of a code; the reserved codes 6 and 7 are never emitted and read as Off. -/
def LaneState.ofCode (c : Nat) : LaneState :=
  match c with
  | 1 => .starting
  | 2 => .active
  | 3 => .rejoining
  | 4 => .isolated
  | 5 => .quenched
  | _ => .off

/-- The role of a code. -/
def Role.ofCode (c : Nat) : Role :=
  match c with
  | 1 => .leader
  | 2 => .deputy
  | 3 => .member
  | _ => .none

/-- The map bit of a set. -/
def Axis.mapBit : Axis → Nat
  | .s => 0
  | .b => 1

/-- The modes in which lanes vote (R46). -/
def Mode.votes : Mode → Bool
  | .ready | .run | .limp | .service => true
  | _ => false

end Sys2Proof

namespace Sys2Proof.Machine

/-! ### Numbers and bytes -/

/-- round(x) of R495: to the nearest integer, halves away from zero. -/
def roundAway (x : Rat) : Int := if x < 0 then -((1 / 2 - x).floor) else (x + 1 / 2).floor

/-- x kept within lo to hi. -/
def clampI (lo hi x : Int) : Int := max lo (min hi x)

/-- x kept within lo to hi. -/
def clampQ (lo hi x : Rat) : Rat := max lo (min hi x)

/-- |x|. -/
def absQ (x : Rat) : Rat := if x < 0 then -x else x

/-- The integer square root of a number below 4^k. -/
def isqrt : Nat → Nat → Nat
  | 0, _ => 0
  | k + 1, n =>
    let r := 2 * isqrt k (n / 4)
    if (r + 1) * (r + 1) ≤ n then r + 1 else r

/-- The square root of a rational, rounded down to a relative error below 2^-19. -/
def sqrtDown (x : Rat) : Rat :=
  if x ≤ 0 then 0
  else
    let n := x.num.toNat * x.den * 2 ^ 40
    (isqrt (n.log2 / 2 + 1) n : Rat) / ((x.den * 2 ^ 20 : Nat) : Rat)

/-- A counter that saturates at its maximum (R30). -/
def satInc {w : Nat} (c : BitVec w) : BitVec w := if c = BitVec.allOnes w then c else c + 1

/-- n bytes of x, most significant first (R9). -/
def beBytes (n x : Nat) : List Byte := (List.range n).map (fun i => BitVec.ofNat 8 (x >>> (8 * (n - 1 - i))))

/-- The number bytes spell, most significant first (R9). -/
def beNat (b : List Byte) : Nat := b.foldl (fun a x => a * 256 + x.toNat) 0

/-- The n-byte unsigned field at an offset (R351). -/
def rd (b : List Byte) (off n : Nat) : Nat := beNat ((b.drop off).take n)

/-- The n-byte two's complement field at an offset (R351). -/
def rdI (b : List Byte) (off n : Nat) : Int := (BitVec.ofNat (8 * n) (rd b off n)).toInt

/-- n bytes of a signed number (R351). -/
def beInt (n : Nat) (x : Int) : List Byte := beBytes n (BitVec.ofInt (8 * n) x).toNat

/-- Serial-number arithmetic over 16 bits: a is newer than b (R23, R65, R334). -/
def newer (a b : Half) : Bool := a != b && decide ((a - b).toNat < 0x8000)

/-- The epoch after e: 0 is never an epoch (R64). -/
def nextEpoch (e : Half) : Half := if e = 0xFFFF then 1 else e + 1

/-- Milliseconds in ns. -/
abbrev ms (n : Nat) : Nat := n * 1000000

/-- Microseconds in ns. -/
abbrev us (n : Nat) : Nat := n * 1000

/-! ### Lanes, sets, legs, links -/

/-- Lane code as a logged address (R4). -/
def laneAddr (n : Lane) : Word := BitVec.ofNat 32 (n.num * 16 + 15)

/-- Set code as a logged address: phase 3 names the whole set (R3, R4). -/
def setAddr (n : Lane) (x : Axis) : Word := BitVec.ofNat 32 (n.num * 16 + x.num * 4 + 3)

/-- Leg code as a logged address (R3, R4). -/
def legAddr (n : Lane) (x : Axis) (p : Phase) : Word := BitVec.ofNat 32 (n.num * 16 + x.num * 4 + p.num)

/-- Geyser code as a logged address (R3, R4). -/
def geyserAddr (n : Lane) : Word := BitVec.ofNat 32 (n.num * 16 + 12)

/-- Sensor port code 0x100 + lane * 0x10 + port: 0 SENTA, 1 SENTB, 2 QUAD, 3 SW1, 4 SW2. -/
def portAddr (n : Lane) (port : Nat) : Word := BitVec.ofNat 32 (0x100 + n.num * 16 + port)

/-- A byte is a valid leg code: lane 1 to 3, set 0, 1 or 3, and with set 3 phase 0 or 3 (R3, R4). -/
def validLegCode (c : Byte) : Bool :=
  let lane := c.toNat / 16
  let set := c.toNat / 4 % 4
  let ph := c.toNat % 4
  decide (1 ≤ lane) && decide (lane ≤ 3) && set != 2 && (set != 3 || ph == 0 || ph == 3)

/-- Directed-link identity (R33). -/
def linkId (src dst : Lane) : Nat :=
  match src, dst with
  | .l1, .l2 => 1
  | .l2, .l1 => 2
  | .l2, .l3 => 3
  | .l3, .l2 => 4
  | .l3, .l1 => 5
  | .l1, .l3 => 6
  | _, _ => 0

/-- A lane of the module. -/
def State.lane (s : State) : Lane → LaneSt
  | .l1 => s.l1
  | .l2 => s.l2
  | .l3 => s.l3

/-- The state with one lane changed by f. -/
def State.onLane (s : State) (n : Lane) (f : LaneSt → LaneSt) : State :=
  match n with
  | .l1 => { s with l1 := f s.l1 }
  | .l2 => { s with l2 := f s.l2 }
  | .l3 => { s with l3 := f s.l3 }

/-- The state with every lane changed by f. -/
def State.onLanes (s : State) (f : Lane → LaneSt → LaneSt) : State :=
  { s with l1 := f .l1 s.l1, l2 := f .l2 s.l2, l3 := f .l3 s.l3 }

/-- A step applied to each lane in number order. -/
def State.forLanes (s : State) (f : State → Lane → State) : State := allLanes.foldl f s

/-- A set of a lane. -/
def LaneSt.set (l : LaneSt) : Axis → SetSt
  | .s => l.s
  | .b => l.b

/-- A lane with one set changed. -/
def LaneSt.onSet (l : LaneSt) (x : Axis) (f : SetSt → SetSt) : LaneSt :=
  match x with
  | .s => { l with s := f l.s }
  | .b => { l with b := f l.b }

/-- The state with one set changed. -/
def State.onSet (s : State) (n : Lane) (x : Axis) (f : SetSt → SetSt) : State := s.onLane n (·.onSet x f)

/-- A leg of a set. -/
def SetSt.leg (c : SetSt) : Phase → LegSt
  | .u => c.u
  | .v => c.v
  | .w => c.w

/-- A set with one leg changed. -/
def SetSt.onLeg (c : SetSt) (p : Phase) (f : LegSt → LegSt) : SetSt :=
  match p with
  | .u => { c with u := f c.u }
  | .v => { c with v := f c.v }
  | .w => { c with w := f c.w }

/-- A set with every leg changed. -/
def SetSt.onLegs (c : SetSt) (f : LegSt → LegSt) : SetSt := { c with u := f c.u, v := f c.v, w := f c.w }

/-- The incoming link of a lane from a peer. -/
def LaneSt.link (l : LaneSt) (self peer : Lane) : LinkIn := if peer = self.lower then l.lo else l.hi

/-- A lane with its incoming link from a peer changed. -/
def LaneSt.onLink (l : LaneSt) (self peer : Lane) (f : LinkIn → LinkIn) : LaneSt :=
  if peer = self.lower then { l with lo := f l.lo } else { l with hi := f l.hi }

/-- The incoming link of lane `dst` from lane `src`. -/
def State.link (s : State) (src dst : Lane) : LinkIn := (s.lane dst).link dst src

/-- The state with the link from `src` to `dst` changed. -/
def State.onLink (s : State) (src dst : Lane) (f : LinkIn → LinkIn) : State := s.onLane dst (·.onLink dst src f)

/-- A lane's terms for the sets of lane m. -/
def LaneSt.terms (l : LaneSt) : Lane → LaneTerms
  | .l1 => l.k1
  | .l2 => l.k2
  | .l3 => l.k3

/-- A lane's terms for one set. -/
def LaneSt.term (l : LaneSt) (m : Lane) : Axis → SetTerm
  | .s => (l.terms m).s
  | .b => (l.terms m).b

/-- The terms of one lane's sets with those of one set changed. -/
def LaneTerms.onTerm (k : LaneTerms) (x : Axis) (f : SetTerm → SetTerm) : LaneTerms :=
  match x with
  | .s => { k with s := f k.s }
  | .b => { k with b := f k.b }

/-- A lane with its terms for one set changed. -/
def LaneSt.onTerm (l : LaneSt) (m : Lane) (x : Axis) (f : SetTerm → SetTerm) : LaneSt :=
  match m with
  | .l1 => { l with k1 := l.k1.onTerm x f }
  | .l2 => { l with k2 := l.k2.onTerm x f }
  | .l3 => { l with k3 := l.k3.onTerm x f }

/-- The state with one term of lane n changed. -/
def State.onTerm (s : State) (n m : Lane) (x : Axis) (f : SetTerm → SetTerm) : State := s.onLane n (·.onTerm m x f)

/-- A channel of a lane's network side. -/
def NetSt.chan (x : NetSt) : Chan → ChanSt
  | .x => x.x
  | .y => x.y

/-- The network side with one channel changed. -/
def NetSt.onChan (x : NetSt) (c : Chan) (f : ChanSt → ChanSt) : NetSt :=
  match c with
  | .x => { x with x := f x.x }
  | .y => { x with y := f x.y }

/-- The state with the network side of a lane changed. -/
def State.onNet (s : State) (n : Lane) (f : NetSt → NetSt) : State := s.onLane n (fun l => { l with net := f l.net })

/-- The state with one channel of a lane changed. -/
def State.onChan (s : State) (n : Lane) (c : Chan) (f : ChanSt → ChanSt) : State := s.onNet n (·.onChan c f)

/-- The state with the supply section of a lane changed. -/
def State.onSup (s : State) (n : Lane) (f : SupplySt → SupplySt) : State := s.onLane n (fun l => { l with sup := f l.sup })

/-- The state with the counters of a lane changed. -/
def State.onCtr (s : State) (n : Lane) (f : CtrSt → CtrSt) : State := s.onLane n (fun l => { l with ctr := f l.ctr })

/-- The state with the profile engine of a lane changed. -/
def State.onProf (s : State) (n : Lane) (f : ProfSt → ProfSt) : State := s.onLane n (fun l => { l with prof := f l.prof })

/-- The state with the votes of a lane changed. -/
def State.onVote (s : State) (n : Lane) (f : VoteSt → VoteSt) : State := s.onLane n (fun l => { l with vote := f l.vote })

/-- The state with the security section of a lane changed. -/
def State.onSec (s : State) (n : Lane) (f : SecSt → SecSt) : State := s.onLane n (fun l => { l with sec := f l.sec })

/-- The state with the reset section of a lane changed. -/
def State.onRst (s : State) (n : Lane) (f : ResetSt → ResetSt) : State := s.onLane n (fun l => { l with rst := f l.rst })

/-- The state with the module-level part changed. -/
def State.onM (s : State) (f : ModSt → ModSt) : State := { s with m := f s.m }

/-- A SENT port of a lane. -/
def LaneSt.sent (l : LaneSt) : SentPort → SentSt
  | .a => l.sentA
  | .b => l.sentB

/-- A lane with one SENT port changed. -/
def LaneSt.onSent (l : LaneSt) (p : SentPort) (f : SentSt → SentSt) : LaneSt :=
  match p with
  | .a => { l with sentA := f l.sentA }
  | .b => { l with sentB := f l.sentB }

/-- A switch input of a lane. -/
def LaneSt.sw (l : LaneSt) : SwPort → SwSt
  | .sw1 => l.sw1
  | .sw2 => l.sw2

/-- A lane with one switch input changed. -/
def LaneSt.onSw (l : LaneSt) (p : SwPort) (f : SwSt → SwSt) : LaneSt :=
  match p with
  | .sw1 => { l with sw1 := f l.sw1 }
  | .sw2 => { l with sw2 := f l.sw2 }

/-- A compare slot of a lane. -/
def LaneSt.slot (l : LaneSt) (k : BitVec 2) : SlotSt :=
  if k = 0 then l.c0 else if k = 1 then l.c1 else if k = 2 then l.c2 else l.c3

/-- A lane with one compare slot changed. -/
def LaneSt.onSlot (l : LaneSt) (k : BitVec 2) (f : SlotSt → SlotSt) : LaneSt :=
  if k = 0 then { l with c0 := f l.c0 } else if k = 1 then { l with c1 := f l.c1 }
  else if k = 2 then { l with c2 := f l.c2 } else { l with c3 := f l.c3 }

/-- The consensus of one axis as a lane forms it. -/
def LaneSt.con (l : LaneSt) : Axis → ConSt
  | .s => l.conS
  | .b => l.conB

/-- A lane with the consensus of one axis changed. -/
def LaneSt.onCon (l : LaneSt) (x : Axis) (f : ConSt → ConSt) : LaneSt :=
  match x with
  | .s => { l with conS := f l.conS }
  | .b => { l with conB := f l.conB }

/-- The consensus electrical speed of an axis as lane n forms it, in 0.1 Hz (R203). -/
def State.omega (s : State) (n : Lane) (x : Axis) : Int := ((s.lane n).con x).omega

/-- An axis has lost its consensus (R204). -/
def ModSt.noCon (m : ModSt) : Axis → Bool
  | .s => m.noConS
  | .b => m.noConB

/-- The trajectory of one axis. -/
def ProfSt.axis (p : ProfSt) : Axis → AxisProf
  | .s => p.steer
  | .b => p.brake

/-- The profile engine with one axis changed. -/
def ProfSt.onAxis (p : ProfSt) (x : Axis) (f : AxisProf → AxisProf) : ProfSt :=
  match x with
  | .s => { p with steer := f p.steer }
  | .b => { p with brake := f p.brake }

/-! ### Codes of R5 -/

/-! ### Time -/

/-- The event's instant becomes the present. -/
def State.at_ (s : State) (t : Nat) : State := { s with now := max s.now t }

/-- The Meridian reading of a lane at an instant: elapsed time scaled by 1 + r, plus the slew while it lasts (R306). -/
def TimeSt.reading (x : TimeSt) (t : Nat) : Int :=
  x.base + (((t - x.since : Nat) : Rat) * (1 + x.rate) +
    ((min t x.slewEnd - x.since : Nat) : Rat) * x.slew).floor

/-- The Meridian of a lane at the present instant. -/
def State.meridian (s : State) (n : Lane) : Int := (s.lane n).time.reading s.now

/-- A global time stamp as stored in 64 bits (R98). -/
def State.stamp (s : State) (n : Lane) : Dword := BitVec.ofInt 64 (s.meridian n)

/-! ### The fault log -/

/-- A logged event before it is written: code, logged address, context, and for an error reply its sequence. -/
structure LogEv where
  code    : Half
  addr    : Word
  ctx     : Dword := 0
  isReply : Bool := false
  seq     : Half := 0
  deriving DecidableEq, Repr

/-- The entry a lane writes for an event (R98). -/
def LaneSt.entryOf (l : LaneSt) (n : Lane) (mode : Mode) (now : Nat) (e : LogEv) : LogEntry :=
  { time := BitVec.ofInt 64 (l.time.reading now), lane := BitVec.ofNat 4 n.num, code := e.code, addr := e.addr,
    epoch := l.epoch, mode := BitVec.ofNat 3 mode.code, state := BitVec.ofNat 3 l.state.code,
    role := BitVec.ofNat 2 l.role.code, unsynced := !l.time.synced, isReply := e.isReply, seq := e.seq, count := 1,
    ctx := e.ctx }

/-- The event falls into the window of the newest entry (R97): same code and address, at most LOG.COALESCE after it;
never for CMD_REJECTED, and never with LOG.COALESCE at 0. -/
def LaneSt.coalesces (l : LaneSt) (now : Nat) (e : LogEv) : Bool :=
  match l.log with
  | [] => false
  | x :: _ => e.code != 0x0101 && x.code == e.code && x.addr == e.addr && l.codeN Key.logCoalesce != 0 &&
      decide (l.time.reading now - x.time.toInt ≤ (ms (l.codeN Key.logCoalesce) : Int))

/-- The log entries of the ring (R97). -/
def logSize : Nat := 4096

/-- A lane writes an event to its fault log (R97): a coalesced event counts in the newest entry; a full ring loses its
oldest entry, which counts as an overwrite. -/
def LaneSt.write (l : LaneSt) (n : Lane) (mode : Mode) (now : Nat) (e : LogEv) : LaneSt :=
  if l.coalesces now e then
    { l with log := match l.log with
        | [] => []
        | x :: r => { x with count := satInc x.count } :: r }
  else if l.log.length < logSize then
    { l with log := l.entryOf n mode now e :: l.log, logNext := (l.logNext + 1) % logSize }
  else
    { l with log := l.entryOf n mode now e :: l.log.take (logSize - 1), logNext := (l.logNext + 1) % logSize,
             ctr := { l.ctr with logOver := satInc l.ctr.logOver } }

/-- Lane n logs an event at the present instant. -/
def State.log (s : State) (n : Lane) (code : Half) (addr : Word) (ctx : Dword := 0) : State :=
  s.onLane n (fun l => l.write n s.m.mode s.now { code := code, addr := addr, ctx := ctx })

/-! ### What a lane sees of its peers -/

/-- Bits hi down to lo of a word. -/
def fld (w : Dword) (lo len : Nat) : Nat := (w.toNat >>> lo) % 2 ^ len

/-- The lane state reported in H of the newest committed frame, Off without signal, Starting before a first frame
(R17, R37). -/
def LinkIn.state (k : LinkIn) : LaneState :=
  if !k.signal then .off else if !k.heard then .starting else LaneState.ofCode (fld k.view.h 53 3)

/-- The role reported in H. -/
def LinkIn.role (k : LinkIn) : Role :=
  if !k.signal || !k.heard then .none else Role.ofCode (fld k.view.h 56 2)

/-- The epoch reported in H. -/
def LinkIn.epoch (k : LinkIn) : Half := BitVec.ofNat 16 (fld k.view.h 32 16)

/-- The lane behind this link is absent: loss of signal, or committed frames that report Off (R17). -/
def LinkIn.absent (k : LinkIn) : Bool := !k.signal || (k.heard && k.state == .off)

/-- The receiver hears the link: signal and not declared down (R39). -/
def LinkIn.hears (k : LinkIn) : Bool := k.signal && k.heard && !k.down

/-- The receiver uses the words S1 to T of the link: it hears it, and the sender does not report Off (R17, R39). -/
def LinkIn.speaks (k : LinkIn) : Bool := k.hears && !k.absent

/-- The sender's frame shows that it hears the receiving lane, S6 [31]. -/
def LinkIn.hearsMe (k : LinkIn) : Bool := fld k.view.s6 31 1 == 1

/-- The sender's frame shows that it hears the third lane, S6 [30]. -/
def LinkIn.hearsThird (k : LinkIn) : Bool := fld k.view.s6 30 1 == 1

/-- The state of lane m as lane n sees it: its own state; the newest frame; or, with the direction from m down, the
third lane's forwarded state in S7 (R40). -/
def State.sees (s : State) (n m : Lane) : LaneState :=
  if n = m then (s.lane n).state
  else if (s.link m n).signal && (s.link m n).down && (s.link (Lane.third n m) n).speaks then
    LaneState.ofCode (fld (s.link (Lane.third n m) n).view.s7 28 3)
  else (s.link m n).state

/-- The role of lane m as lane n sees it. -/
def State.seesRole (s : State) (n m : Lane) : Role := if n = m then (s.lane n).role else (s.link m n).role

/-- Lane m is absent for lane n under R17. -/
def State.absentFor (s : State) (n m : Lane) : Bool := n != m && (s.link m n).absent

/-- The lanes that are Active as lane n sees them. -/
def State.activeFor (s : State) (n : Lane) : List Lane := allLanes.filter (fun m => s.sees n m == .active)

/-- The lanes that are Active. -/
def State.actives (s : State) : List Lane := allLanes.filter (fun n => (s.lane n).state == .active)

/-- An Active lane is at level 1 or deeper: service functions stop (R398). -/
def State.serviceStopped (s : State) : Bool := s.actives.any (fun m => (s.lane m).sup.level != 0)

/-- The number of Active peers of a lane. -/
def State.activePeers (s : State) (n : Lane) : Nat := (s.actives.filter (· != n)).length

/-- The lane that holds the Leader role (R41); of two that hold it after a disputed claim (R66), the one with the newer
epoch. -/
def State.leader (s : State) : Option Lane :=
  allLanes.find? (fun n => (s.lane n).role == .leader &&
    allLanes.all (fun m => !((s.lane m).role == .leader && newer (s.lane m).epoch (s.lane n).epoch)))

/-- The order of lanes of LEAD.PREFERENCE (R41). -/
def prefOrder (c : Int) : List Lane :=
  match c with
  | 1 => [.l1, .l3, .l2]
  | 2 => [.l2, .l1, .l3]
  | 3 => [.l2, .l3, .l1]
  | 4 => [.l3, .l1, .l2]
  | 5 => [.l3, .l2, .l1]
  | _ => [.l1, .l2, .l3]

/-- The preference order of a lane's parameters. -/
def State.order (s : State) (n : Lane) : List Lane := prefOrder ((s.lane n).code Key.leadPreference)

/-- The lane that writes what the Leader writes: the Leader, or while there is none the Active lane earliest in
LEAD.PREFERENCE, or Lane 1 (R498; DEDUCED). -/
def State.scribe (s : State) : Lane :=
  match s.leader with
  | some n => n
  | none => ((s.order .l1).find? (fun n => (s.lane n).state == .active)).getD .l1

/-- The Leader logs an event (R97, R498). -/
def State.logLeader (s : State) (code : Half) (addr : Word) (ctx : Dword := 0) : State := s.log s.scribe code addr ctx

/-- The Leader and the lane concerned log a module-level event (R97). -/
def State.logModule (s : State) (n : Lane) (code : Half) (addr : Word) (ctx : Dword := 0) : State :=
  if n = s.scribe then s.log n code addr ctx else (s.log s.scribe code addr ctx).log n code addr ctx

/-! ### Sets, map bits -/

/-- A bit of the persistent unusable-block map (R385). -/
def LaneSt.mapBit (l : LaneSt) (k : Nat) : Bool := l.ctr.map.getLsbD k

/-- The map with a bit set. -/
def setMapBit (m : Dword) (k : Nat) : Dword := m ||| (1#64 <<< k)

/-- The map with a bit cleared. -/
def clearMapBit (m : Dword) (k : Nat) : Dword := m &&& ~~~(1#64 <<< k)

/-- A lane marks a block unusable in its persistent map (R385). -/
def State.markBit (s : State) (n : Lane) (k : Nat) : State := s.onCtr n (fun c => { c with map := setMapBit c.map k })

/-- The set is marked unusable: until an off-state test, or in the persistent map by its own bit or that of its auxiliary
converter (R81, R86, R386). -/
def LaneSt.setBad (l : LaneSt) (x : Axis) : Bool := (l.set x).unusable || l.mapBit x.mapBit || l.mapBit (8 + x.mapBit)

/-- The lane's Geyser is unusable: marked so, or blocked by its temperature comparator (R87, R126, R129, R131). -/
def LaneSt.geyserBad (l : LaneSt) : Bool := l.gey.bad || l.gey.hot || l.mapBit 2

/-- A set's legs go high-impedance: it stops switching and carries no share (R112). -/
def SetSt.floatLegs (c : SetSt) : SetSt := { c with switching := false, share := 0, short := false, pending := false, flowIn := false, flowNow := false }

/-- Both sets of a lane go high-impedance. -/
def LaneSt.floatLegs (l : LaneSt) : LaneSt := { l with s := l.s.floatLegs, b := l.b.floatLegs }

/-- A lane is permitted to drive: Enable test PASSED, filtered ENA active, permission not withdrawn (R266, R271). -/
def LaneSt.permitted (l : LaneSt) : Bool := l.ena.test == 2 && l.ena.filt && !l.ena.withdrawn

/-! ### Votes -/

/-- The vote a lane holds on a peer. -/
def VoteSt.on (v : VoteSt) : Lane → VoteOut
  | .l1 => v.on1
  | .l2 => v.on2
  | .l3 => v.on3

/-- The votes with the one on a peer changed. -/
def VoteSt.setOn (v : VoteSt) (n : Lane) (o : VoteOut) : VoteSt :=
  match n with
  | .l1 => { v with on1 := o }
  | .l2 => { v with on2 := o }
  | .l3 => { v with on3 := o }

/-- Lane v asserts its vote line to lane n: the voter is Active, or is the Isolated target that ARBITRATE instructed,
and holds a vote (R16, R46). -/
def State.voteLine (s : State) (v n : Lane) : Bool :=
  v != n && ((s.lane v).vote.on n).reason != 0 && s.m.mode.votes && !(s.lane v).rst.inReset &&
  ((s.lane v).state == .active || ((s.lane v).state == .isolated && ((s.lane v).vote.on n).reason == 7))

/-- The vote counts: asserted for 0.5 us (R47). -/
def State.voteCounts (s : State) (v n : Lane) : Bool :=
  s.voteLine v n && decide (((s.lane v).vote.on n).at_ + 500 ≤ s.now)

/-- The voters whose votes against a lane count. -/
def State.counting (s : State) (n : Lane) : List Lane := allLanes.filter (fun v => s.voteCounts v n)

/-- The voters that hold a vote against a lane. -/
def State.voters (s : State) (n : Lane) : List Lane := allLanes.filter (fun v => s.voteLine v n)

/-- Lane v casts its vote against lane n with a reason; an Active lane in the modes of R46, against a lane that is not
absent, and a vote once cast keeps its reason (R46, R496). -/
def State.cast (s : State) (v n : Lane) (reason : BitVec 4) : State :=
  if v ≠ n ∧ (s.lane v).state = .active ∧ s.m.mode.votes = true ∧ s.absentFor v n = false ∧ ((s.lane v).vote.on n).reason = 0 then
    s.onVote v (·.setOn n { reason := reason, at_ := s.now })
  else s

/-- The Isolated target of a dispute casts its vote under verdict ACCUSER_FAULTY (R46, R55). -/
def State.castIsolated (s : State) (v n : Lane) : State :=
  if v ≠ n ∧ s.m.mode.votes = true ∧ ((s.lane v).vote.on n).reason = 0 then
    s.onVote v (·.setOn n { reason := 7, at_ := s.now })
  else s

/-- Lane v withdraws its vote against lane n (R496). -/
def State.withdraw (s : State) (v n : Lane) : State := s.onVote v (·.setOn n {})

/-- The dispute a lane has opened over a target. -/
def VoteSt.disputes (v : VoteSt) (n : Lane) : Bool := v.disps.any (fun d => (d.id.toNat / 16) % 4 == n.num)

/-- The accuser of an open dispute identifier (R54). -/
def State.accuser (s : State) (id : Byte) : Option Lane :=
  allLanes.find? (fun n => (s.lane n).vote.disps.any (·.id == id))

/-- The target of a dispute identifier (R54). -/
def disputeTarget (id : Byte) : Option Lane := Lane.ofNat? (id.toNat / 16 % 4)

/-- The disputes of an accuser without those over a lane. -/
def VoteSt.closeOver (v : VoteSt) (n : Lane) : VoteSt :=
  { v with disps := v.disps.filter (fun d => (d.id.toNat / 16) % 4 != n.num) }

/-- Every dispute over a lane closes (R54, R496). -/
def State.closeDisputes (s : State) (n : Lane) : State :=
  s.onLanes (fun _ l => { l with vote := l.vote.closeOver n })

/-- A lane becomes absent for a peer (R17): the peer withdraws its vote against it and any dispute over it closes (R496). -/
def State.withdrawFor (s : State) (v n : Lane) : State := (s.withdraw v n).onVote v (·.closeOver n)

/-! ### Roles and lane states -/

/-- A lane's role changes, with the Leader in its view; the lane logs ROLE_CHANGE (R83). -/
def State.setRole (s : State) (n : Lane) (r : Role) (leader : Option Lane) : State :=
  let old := (s.lane n).role
  let s := s.onLane n (fun l => { l with role := r, leader := leader })
  if old = r then s
  else s.log n 0x0B01 ((leader.map laneAddr).getD 0)
    (BitVec.ofNat 64 (old.code * 2 ^ 56 + r.code * 2 ^ 48))

/-- Every compare slot of a lane is disarmed; the fire records stay (R234). -/
def LaneSt.disarm (l : LaneSt) : LaneSt :=
  { l with c0 := { l.c0 with state := 0 }, c1 := { l.c1 with state := 0 }, c2 := { l.c2 with state := 0 },
           c3 := { l.c3 with state := 0 } }

/-- Every set of the module goes high-impedance, and an energising sequence ends. -/
def State.floatAll (s : State) : State :=
  let s := (s.onLanes (fun _ l => l.floatLegs)).onM (fun m => { m with runEntry := 0, acq := [], diag := [] })
  { s with hom := { s.hom with ending := false } }

/-- The load measurement names a set. -/
def MeasSt.names (m : MeasSt) (n : Lane) (x : Axis) : Bool :=
  m.loadOn && m.loadLane == n && (match x with | .s => m.loadS | .b => m.loadB)

/-- A measured set is abandoned (R379): its remaining quantities are logged; with no set left the run ends and every set
goes high-impedance. DESIGN CHOICE: the lane whose set it is writes the entry; the manual names no writer. -/
def State.abortMeasure (s : State) (n : Lane) (x : Axis) : State :=
  if s.meas.names n x then
    let rest := s.meas.loadQ &&& ~~~((s.lane n).set x).load.valid
    let s := s.log n 0x0B14 (setAddr n x) (BitVec.ofNat 64 (rest.toNat * 2 ^ 56))
    let s := { s with meas := { s.meas with loadS := s.meas.loadS && x != Axis.s, loadB := s.meas.loadB && x != Axis.b } }
    if s.meas.loadS || s.meas.loadB then s
    else State.floatAll { s with meas := { s.meas with loadOn := false } }
  else s

/-- The load measurement ends as a whole (R379). -/
def State.endLoad (s : State) : State := (s.abortMeasure s.meas.loadLane .s).abortMeasure s.meas.loadLane .b

/-- A lane leaves Active for another state: role None, its votes fall, its reply queue is lost, its legs float, its
compare slots are disarmed, a rejoin ends, a measurement of its sets is abandoned (R5, R234, R338, R379, R496). -/
def State.leaveActive (s : State) (n : Lane) (st : LaneState) : State :=
  let was := (s.lane n).role
  let s := (s.abortMeasure n .s).abortMeasure n .b
  let s := s.setRole n .none (if (s.lane n).leader = some n then none else (s.lane n).leader)
  let s := s.onLane n (fun l => { l.floatLegs.disarm with
    state := st
    net := { l.net with replies := [] }
    vote := { l.vote with on1 := {}, on2 := {}, on3 := {} }
    rejoin := { l.rejoin with step := 0, copy := false, due := false } })
  s.onM (fun m => { m with lostLane := true, lossAt := if was = .leader then s.now else m.lossAt })

/-- A lane enters Isolated with a log code (R40, R48, R90). -/
def State.isolate (s : State) (n : Lane) (code : Half) : State :=
  (s.leaveActive n .isolated).log n code (laneAddr n)

/-- The context of CALDERA_SET (R47): the reasons of the counting votes of the lower- and the higher-numbered peer as
last received in their S4, and the set path. -/
def State.calderaCtx (s : State) (n : Lane) (path : Nat) : Dword :=
  let r := fun p => if s.voteCounts p n then fld (s.link p n).view.s4 48 4 else 0
  BitVec.ofNat 64 (r n.lower * 2 ^ 60 + r n.upper * 2 ^ 56 + path * 2 ^ 52)

/-- A lane's Caldera sets: the gate supplies go, the lane is Quenched and logs CALDERA_SET; a dispute over it closes
(R47, R49, R54). Set path 1 is the two votes, 2 the self-quench input. -/
def State.setCaldera (s : State) (n : Lane) (path : Nat) : State :=
  let ctx := s.calderaCtx n path
  let s := (s.leaveActive n .quenched).onVote n (fun v => { v with caldera := true, supplyOnly := false, request := false })
  (s.log n 0x0803 (laneAddr n) ctx).closeDisputes n

/-- A lane's quenching fault (R53, R82): it sets its quench request bit and each Active peer that hears it votes against
it with reason 5; with fewer than two Active peers it sets its own Caldera. -/
def State.quenchRequest (s : State) (n : Lane) : State :=
  if s.activePeers n < 2 then s.setCaldera n 2
  else
    let s := s.onVote n (fun v => { v with request := true })
    allLanes.foldl (fun s v => if v ≠ n && (s.link n v).hears then s.cast v n 5 else s) s

/-- A lane is eligible for Leader and Deputy (R41): Active, profile engine and both link ends not marked unusable, no
incoming vote line failed. -/
def State.eligible (s : State) (n : Lane) : Bool :=
  (s.lane n).state == .active && !(s.lane n).mapBit 3 && !(s.lane n).mapBit 4 && !(s.lane n).mapBit 5 &&
  !(s.lane n).vote.lineBad

/-- A lane takes a new epoch; it is stored in MRAM within 10 ms (R64). -/
def State.adopt (s : State) (n : Lane) (e : Half) : State :=
  s.onLane n (fun l => { l with epoch := e, stored := e })

/-! ### The module mode -/

/-- The module changes mode and the Leader logs MODE_CHANGE with the old mode (R267, R277); with no lane Active nobody
logs it. -/
def State.setMode (s : State) (md : Mode) : State :=
  let old := s.m.mode
  let s := s.onM (fun m => { m with mode := md, pend := md })
  if old = md ∨ s.actives.isEmpty = true then s
  else s.logLeader 0x0B0C (BitVec.ofNat 32 md.code) (BitVec.ofNat 64 (old.code * 2 ^ 56))

/-- Keys of one "Takes effect" event come into force in every Active and Rejoining lane (R360). -/
def State.takeEffect (s : State) (e : Takes) : State :=
  s.onLanes (fun _ l => if l.state = .active ∨ l.state = .rejoining then { l with par := l.par.takeEffect e } else l)

/-- Keys of one "Takes effect" event come into force in one lane. -/
def State.takeEffectIn (s : State) (n : Lane) (e : Takes) : State :=
  s.onLane n (fun l => { l with par := l.par.takeEffect e })

/-- The vehicle-stop request is asserted; the Leader logs VEHICLE_STOP_REQ when it rises (R83, R92). -/
def State.requestStop (s : State) : State :=
  if s.m.stopReq then s else (s.onM (fun m => { m with stopReq := true })).logLeader 0x0903 0

/-- The effective supply of a lane in mV (R395): VSUP_n, or the DC link where it feeds the lane through a disconnect that is
open by overvoltage; with the disconnect closed the lower of the two stands for both. -/
def SupplySt.eff (u : SupplySt) : Nat :=
  if u.ovOpen || u.linkOpen || u.geyOpen then u.link else if u.disc.toNat = 2 ∨ u.disc.toNat = 3 then min u.vsup u.link else u.vsup

/-- FLT_n is driven low (R93): always-on logic has power (R413); in reset by the fuse-map field of the pad (R424); else unless
the lane is Active, the module is in Ready, Run or Service, and the loss-of-command behaviour is not in force. -/
def State.fltLow (s : State) (n : Lane) : Bool :=
  let l := s.lane n
  decide (4000 ≤ l.sup.eff) &&
  (if l.rst.inReset then (match l.rst.pads with
     | some w => w.extractLsb' 0 2 == 3
     | none => false)
   else !(l.state == .active && (s.m.mode == .ready || s.m.mode == .run || s.m.mode == .service) && !s.m.loc))

/-- The command has its effect: a next state. -/
def done (s : State) : Host.Outcome State Fault Refusal := .next s

end Sys2Proof.Machine
end

