-- ==== Sys2Proof/Machine/Resources.lean ====
section
/-! DEFINITION. Resources and authority: which sets and sensor values count, temperatures, availabilities, shares and
limits, the conditions of Limp and of the safe stop (Behaviour After Faults; Field Control and Torque Sharing). -/

namespace Sys2Proof.Machine

/-! ### What counts -/

/-- The hottest phase-leg temperature of a lane, in whole degrees (R37 S6, R170). -/
def LaneSt.hottest (l : LaneSt) : Int :=
  let q := fun (c : SetSt) => max c.u.temp (max c.v.temp c.w.temp)
  roundAway ((max (q l.s) (q l.b) : Rat) / 16)

/-- The byte of a temperature in S6: the value is the byte minus 64 (R37). -/
def tempByte (t : Int) : Nat := (clampI 0 255 (t + 64)).toNat

/-- Lane m's unusable bit of a set as lane n sees it: its own mark, or S6 [27:26] of m's frame (R37, R86). -/
def State.seesBad (s : State) (n m : Lane) (x : Axis) : Bool :=
  if n = m then (s.lane n).setBad x else fld (s.link m n).view.s6 (27 - x.num) 1 == 1

/-- S6 of lane m as lane n uses it for the shares: of m's newest frame, for itself of its own newest frame sent (R170). -/
def State.pubS6 (s : State) (n m : Lane) : Dword := if n = m then (s.lane n).lo.out.s6 else (s.link m n).view.s6

/-- Lane m's Geyser is unusable as published in S6 [25] (R37, R87, R170). -/
def State.seesGeyserBad (s : State) (n m : Lane) : Bool := fld (s.pubS6 n m) 25 1 == 1

/-- Lane m's shedding level as lane n sees it: S6 [15:8] (R37, R396). -/
def State.seesLevel (s : State) (n m : Lane) : Nat :=
  if n = m then (s.lane n).sup.level.toNat else fld (s.link m n).view.s6 8 8

/-- Lane m's shedding level as published (R170, R396). -/
def State.pubLevel (s : State) (n m : Lane) : Nat := fld (s.pubS6 n m) 8 8

/-- Lane m's hottest leg as published (R170). -/
def State.pubHot (s : State) (n m : Lane) : Int := (fld (s.pubS6 n m) 40 8 : Int) - 64

/-- Lane m's filtered ENA as lane n sees it: its own, or the newest relay item; inactive for an absent lane (R262). -/
def State.seesEna (s : State) (n m : Lane) : Bool :=
  if n = m then (s.lane n).ena.filt else (s.link m n).ena && !(s.link m n).absent

/-- Lane m is permitted to drive as lane n sees it (R266). -/
def State.seesPermitted (s : State) (n m : Lane) : Bool :=
  (s.lane m).ena.test == 2 && s.seesEna n m && !(s.lane m).ena.withdrawn

/-- Lane m's permission as it bears on torque (R266, R271): in Run and Limp a lone or completed withdrawal takes the torque
only when the lane's permission is withdrawn or the stop ends, so an inactive line alone does not. -/
def State.drives (s : State) (n m : Lane) : Bool :=
  match s.m.mode with
  | .run | .limp => (s.lane m).ena.test == 2 && !(s.lane m).ena.withdrawn
  | _ => s.seesPermitted n m

/-- The frame lane n takes S1, S2 and T from: its Leader's, or with that direction down the third lane's, and only under its
own epoch (R38, R40). -/
def State.leaderLink (s : State) (n : Lane) : Option LinkIn :=
  match (s.lane n).leader with
  | none => none
  | some k =>
    if k = n then none
    else
      let d := s.link k n
      let f := s.link (k.third n) n
      if d.speaks && d.role == .leader && d.epoch == (s.lane n).epoch then some d
      else if d.signal && d.down && f.speaks && f.epoch == (s.lane n).epoch then some f
      else none

/-- Lane n has a counting vote against lane m and sees the third lane's vote against it (R173). -/
def State.votedOut (s : State) (n m : Lane) : Bool :=
  n != m && s.voteCounts n m && (s.link (n.third m) n).speaks && fld (s.link (n.third m) n).view.s4 44 4 != 0

/-- The set of lane m on axis x is usable as lane n sees it (R86, R266, R401): lane Active and not voted out, set not marked
unusable, lane permitted, lane not suspended, axis with a consensus (R204). -/
def State.usable (s : State) (n m : Lane) (x : Axis) : Bool :=
  s.sees n m == .active && !s.votedOut n m && !s.seesBad n m x && s.drives n m && s.seesLevel n m != 6 &&
  !s.m.noCon x

/-- The number of usable sets of an axis as lane n sees them (R86). -/
def State.usableCount (s : State) (n : Lane) (x : Axis) : Nat := (allLanes.filter (fun m => s.usable n m x)).length

/-- Some Active lane is permitted (R266). -/
def State.somePermitted (s : State) (n : Lane) : Bool :=
  allLanes.any (fun m => s.sees n m == .active && s.seesPermitted n m)

/-- A SENT port's value is valid: no error of check 5 in the newest accepted frame, no timeout, no supply fault, not set
aside, its port not marked unusable (R91, R217, R386). -/
def LaneSt.sentValid (l : LaneSt) (p : SentPort) : Bool :=
  let x := l.sent p
  x.accepted && x.okStatus && !x.errs.getLsbD 0 && !l.sup.svccFault && !x.aside && !x.idWrong &&
  !l.mapBit (10 + p.num)

/-- The SENT values of an axis that count: of Active lanes (R85, R91). -/
def State.sentCount (s : State) (n : Lane) (p : SentPort) : Nat :=
  (allLanes.filter (fun m => s.sees n m == .active && (s.lane m).sentValid p)).length

/-! ### Limp -/

/-- The conditions of R92 as lane n sees them: Active lanes, S sets, B sets, SENTA, SENTB, Leader not eligible. -/
def State.limpConds (s : State) (n : Lane) : List Bool :=
  [decide ((s.activeFor n).length < 2), decide (s.usableCount n .s < 2), decide (s.usableCount n .b < 2),
   decide (s.sentCount n .a < 2), decide (s.sentCount n .b < 2),
   match s.leader with
   | some k => !s.eligible k
   | none => false]

/-- Some condition of R92 holds. -/
def State.limpDue (s : State) (n : Lane) : Bool := (s.limpConds n).any id

/-- Which resources of R92 count as lane n sees them: lanes, S sets, B sets, SENTA and SENTB, each by lane. -/
def State.resources (s : State) (n : Lane) : List Bool :=
  allLanes.map (fun m => s.sees n m == .active) ++ allLanes.map (fun m => s.usable n m .s) ++
  allLanes.map (fun m => s.usable n m .b) ++ allLanes.map (fun m => s.sees n m == .active && (s.lane m).sentValid .a) ++
  allLanes.map (fun m => s.sees n m == .active && (s.lane m).sentValid .b)

/-- The lane and the logged address of one of them: a lane, set or port code. -/
def resourceAddr (kind : Nat) (m : Lane) : Lane × Word :=
  (m, if kind = 0 then laneAddr m else if kind = 1 then setAddr m .s else if kind = 2 then setAddr m .b
      else portAddr m (kind - 3))

/-- The lane concerned and the logged address of the first condition of R92 that holds: the lowest-numbered lane of those whose
resource of that kind has just failed; with none just failed, of those whose resource does not count. -/
def State.limpCause (s : State) (n : Lane) : Lane × Word :=
  let c := s.limpConds n
  match (List.range 5).find? (fun k => c.getD k false) with
  | some k =>
    let now := fun (m : Lane) => (s.resources n).getD (3 * k + m.num - 1) false
    let fell := fun (m : Lane) => s.m.resOk.getD (3 * k + m.num - 1) false && !now m
    resourceAddr k (((allLanes.find? fell).or (allLanes.find? (fun m => !now m))).getD .l1)
  | none => resourceAddr 0 (s.leader.getD .l1)

/-- Limp is entered: the mode changes, the Leader and the lane concerned log LIMP_ENTRY with the resource, the
vehicle-stop request rises, and the keys of Limp entry take effect; a pending Ready transition goes on (R92, R97, R273). -/
def State.enterLimp (s : State) (n : Lane) : State :=
  let c := s.limpCause n
  let keep := s.m.mode == .run && s.m.pend == .ready
  let s := (s.setMode .limp).logModule c.1 0x0902 c.2
  (s.onM (fun m => { m with limpCause := c.2, pend := if keep then .ready else m.pend })).requestStop.takeEffect .limpEntry

/-- Run is entered; the resources that count are kept (R92, R267). -/
def State.enterRun (s : State) : State :=
  let s := s.setMode .run
  s.onM (fun m => { m with resOk := s.resources s.scribe })

/-- From Run, Limp is entered when a condition of R92 holds for the Leader (R92, R267); while none holds the resources that count
are kept, so that the one that fails can be named. -/
def State.checkLimp (s : State) : State :=
  if s.m.mode ≠ .run then s
  else if s.limpDue s.scribe = true then s.enterLimp s.scribe
  else s.onM (fun m => { m with resOk := s.resources s.scribe })

/-! ### Temperatures (R96) -/

/-- The baseplate reading of lane m as published in S6 [39:32], for lane n: of every lane whose frames it uses, and its own as it
has published it; before its first frame, as it will (R17, R96, R170). -/
def State.plateOf (s : State) (n m : Lane) : Option Rat :=
  if n = m ∧ (s.lane n).lo.out.h = 0 then some (roundAway (((s.lane n).base16 : Rat) / 16) : Rat)
  else if n = m ∨ (s.link m n).speaks = true then some ((fld (s.pubS6 n m) 32 8 : Int) - 64 : Rat)
  else none

/-- Every baseplate reading lane n receives, those set aside included (R96). -/
def State.allPlates (s : State) (n : Lane) : List Rat := allLanes.filterMap (s.plateOf n)

/-- The median of three values. -/
def median3 (a b c : Rat) : Rat := max (min a b) (min (max a b) c)

/-- The readings the module forms its temperature from: with three, one more than 10 K from their median is set aside (R96). -/
def State.plateReadings (s : State) (n : Lane) : List Rat :=
  match s.allPlates n with
  | [a, b, c] => [a, b, c].filter (fun r => absQ (r - median3 a b c) ≤ 10)
  | rs => rs

/-- The baseplate temperature of the module (R96): the median of three readings; the mean of two within 10 K, else the
higher; one reading alone. DESIGN CHOICE: 25 C with none, which no lane meets, since it always has its own. -/
def baseTempOf (rs : List Rat) : Rat :=
  match rs with
  | [a, b, c] => median3 a b c
  | [a, b] => if absQ (a - b) ≤ 10 then (a + b) / 2 else max a b
  | [a] => a
  | _ => 25

/-- The temperature of R96 as lane n forms it; of three readings with one set aside, the mean of the two that remain. -/
def State.baseTemp (s : State) (n : Lane) : Rat :=
  match s.allPlates n, s.plateReadings n with
  | [_, _, _], [a, b] => (a + b) / 2
  | _, rs => baseTempOf rs

/-- The grade's maximum baseplate temperature (R1). -/
def gradeMax : Rat := if Config.gradeA1 then 125 else 105

/-- Common derating factor f_com (R96): 1 to 0.6 over the last 10 K, 0.6 for 5 K more, then 0.3. -/
def fComOf (gmax t : Rat) : Rat :=
  if t ≤ gmax - 10 then 1 else if t ≤ gmax then 1 - (t - (gmax - 10)) / 10 * (2 / 5)
  else if t ≤ gmax + 5 then 3 / 5 else 3 / 10

/-! ### Availability and shares -/

/-- ILIM_PEAK, ILIM_CONT in A and PEAK_TIME in s of an axis (R185, R186). -/
def LaneSt.iPeak (l : LaneSt) (x : Axis) : Rat := l.val (match x with | .s => Key.steerIlimPeak | .b => Key.brakeIlimPeak)
/-- ILIM_CONT of an axis in A. -/
def LaneSt.iCont (l : LaneSt) (x : Axis) : Rat := l.val (match x with | .s => Key.steerIlimCont | .b => Key.brakeIlimCont)
/-- PEAK_TIME of an axis in s. -/
def LaneSt.peakTime (l : LaneSt) (x : Axis) : Rat := l.val (match x with | .s => Key.steerPeakTime | .b => Key.brakePeakTime)
/-- Rated electrical speed of an axis in units of 0.1 Hz (R37). -/
def LaneSt.rated (l : LaneSt) (x : Axis) : Rat :=
  10 * l.val (match x with | .s => Key.steerRatedSpeed | .b => Key.brakeRatedSpeed)

/-- The axis peak reference in mA: three times ILIM_PEAK (R44). -/
def LaneSt.axisPeak (l : LaneSt) (x : Axis) : Rat := 3000 * l.iPeak x

/-- The thermal budget E_max (R176). -/
def LaneSt.eMax (l : LaneSt) (x : Axis) : Rat :=
  (l.iPeak x * l.iPeak x - l.iCont x * l.iCont x) * l.peakTime x

/-- The set's I2t limit in A: ILIM_PEAK, or ramping over 100 ms to or from ILIM_CONT (R176). -/
def LaneSt.i2tLimit (l : LaneSt) (c : SetTerm) (x : Axis) (now : Nat) : Rat :=
  let k : Rat := min 1 (((now - c.heatAt : Nat) : Rat) / 100000000)
  if c.heatLow then l.iPeak x - (l.iPeak x - l.iCont x) * k
  else if c.heatAt = 0 then l.iPeak x
  else l.iCont x + (l.iPeak x - l.iCont x) * k

/-- f_shed of a shedding level (R170, R396). -/
def fShed (level : Nat) : Rat :=
  if level ≤ 2 then 1 else if level = 3 then 3 / 5 else if level = 4 then 3 / 10 else 0

/-- f_leg from the hottest leg and T_d: linear from 1 at T_d to 0 at 150 C; a set that has reached 0 stays at 0 until its
latch clears (R177). -/
def fLeg (latched : Bool) (td t : Rat) : Rat :=
  if latched then 0 else if t ≤ td then 1 else if t < 150 then (150 - t) / (150 - td) else 0

/-- TLEG_DERATE of an axis in C. -/
def LaneSt.tDerate (l : LaneSt) (x : Axis) : Rat :=
  l.val (match x with | .s => Key.steerTlegDerate | .b => Key.brakeTlegDerate)

/-- The axis regenerates in lane n's profile engine (R171). -/
def ProfSt.reg (p : ProfSt) : Axis → Bool
  | .s => p.regS
  | .b => p.regB

/-- The motoring availability a_n of the set of lane m on axis x, as lane n computes it (R170). -/
def State.motoring (s : State) (n m : Lane) (x : Axis) : Rat :=
  let l := s.lane n
  let c := l.term m x
  fShed (s.pubLevel n m) *
  fLeg c.legZero (l.tDerate x) (s.pubHot n m) *
  fComOf gradeMax (s.baseTemp n) *
  (l.i2tLimit c x s.now / l.iPeak x)

/-- Lane n knows that the set of lane m takes no share although its terms would give it one: its own set under active short or
not yet switching again after a suspension; a peer's set whose frame shows a share of zero (R132, R172, R401). -/
def State.noShare (s : State) (n m : Lane) (x : Axis) : Bool :=
  if n = m then ((s.lane n).set x).short || !(s.lane n).sup.resumed else ((s.lane n).term m x).noShare

/-- The availability of the set of lane m on axis x for lane n: zero while the axis regenerates for a set whose Geyser is
unusable, under active short and after a suspension (R170, R171, R401). -/
def State.availability (s : State) (n m : Lane) (x : Axis) : Rat :=
  if s.noShare n m x = true ∨ ((s.lane n).prof.reg x = true ∧ s.seesGeyserBad n m = true) then 0
  else s.motoring n m x

/-- SHARE.WEIGHT of lane m in lane n's parameters (R169). -/
def LaneSt.weight (l : LaneSt) : Lane → Rat
  | .l1 => l.val Key.shareWeight1
  | .l2 => l.val Key.shareWeight2
  | .l3 => l.val Key.shareWeight3

/-- The lane's set enters the share sums: usable, or ramping in step 5 of a rejoin (R70, R169). -/
def State.carries (s : State) (n m : Lane) (x : Axis) : Bool :=
  s.usable n m x ||
  (s.sees n m == .rejoining && (s.lane m).rejoin.step == 5 && !s.seesBad n m x && s.drives n m)

/-- The term r * w * a of the set of lane m (R70, R169). -/
def State.term (s : State) (n m : Lane) (x : Axis) : Rat :=
  if s.carries n m x then
    (if (s.lane m).rejoin.step = 5 then ((s.lane m).set x).ramp else 1) * (s.lane n).weight m * s.availability n m x
  else 0

/-- The share of the set of lane m on axis x, as lane n computes it (R169). -/
def State.shareOf (s : State) (n m : Lane) (x : Axis) : Rat :=
  let sum := (allLanes.map (fun k => s.term n k x)).sum
  if sum = 0 then 0 else s.term n m x / sum

/-- The share in 1/65,536, rounded down, 1.0 as 0xFFFF (R37, R169). -/
def shareCode (q : Rat) : Nat := min 0xFFFF (q * 65536).floor.toNat

/-- T_max of an axis in mA as lane n computes it (R174): ILIM_PEAK * sum of terms / the largest weight, over the sets with
a non-zero share. -/
def State.tMax (s : State) (n : Lane) (x : Axis) : Int :=
  let ks := allLanes.filter (fun k => s.shareOf n k x != 0)
  let w := (ks.map (fun k => (s.lane n).weight k)).foldl max 0
  if w = 0 then 0 else (1000 * (s.lane n).iPeak x * ((ks.map (fun k => s.term n k x)).sum) / w).floor

/-- Lane n's terms for the sets of lane m with the shares it computes now. -/
def State.newTerms (s : State) (n m : Lane) (k : LaneTerms) : LaneTerms :=
  { s := { k.s with share := s.shareOf n m .s }, b := { k.b with share := s.shareOf n m .b } }

/-- Lane n re-forms the shares of every set from what it sees (R169, R172). -/
def State.reform (s : State) (n : Lane) : State :=
  s.onLane n (fun l => { l with
    s := { l.s with share := s.shareOf n n .s, avail := s.availability n n .s }
    b := { l.b with share := s.shareOf n n .b, avail := s.availability n n .b }
    k1 := s.newTerms n .l1 l.k1, k2 := s.newTerms n .l2 l.k2, k3 := s.newTerms n .l3 l.k3 })

/-- Every lane that carries torque re-forms its shares (R172). -/
def State.reformAll (s : State) : State := s.forLanes (fun s n => if (s.lane n).state == .active then s.reform n else s)

/-- A lane's usable sets have changed: its shares re-form, and the measurement of a set that is no longer usable is abandoned
(R172, R379). -/
def State.lostSet (s : State) (n : Lane) : State :=
  let bad := fun (s : State) (x : Axis) => (s.lane n).state != .active || (s.lane n).setBad x
  let s := s.reform n
  let s := if bad s .s then s.abortMeasure n .s else s
  if bad s .b then s.abortMeasure n .b else s

/-- A lane takes a set out of torque: legs high-impedance, set marked unusable until an off-state test, share zero, and
the lane's shares re-form (R81, R112, R172, R173). -/
def State.dropSet (s : State) (n : Lane) (x : Axis) : State :=
  (s.onSet n x (fun c => { c.floatLegs with unusable := true })).lostSet n

/-! ### The Enable counts -/

/-- p of R271 as lane n counts it: Active lanes whose Enable test has PASSED. -/
def State.passedLanes (s : State) (n : Lane) : List Lane :=
  allLanes.filter (fun m => s.sees n m == .active && (s.lane m).ena.test == 2)

/-- q of R271: those of the counted lanes whose filtered ENA is inactive. -/
def State.inactiveLanes (s : State) (n : Lane) : List Lane := (s.passedLanes n).filter (fun m => !s.seesEna n m)

/-- The condition of a safe stop (R271): q is at least 2, or q = p with p at least 1. -/
def State.stopDue (s : State) (n : Lane) : Bool :=
  decide (2 ≤ (s.inactiveLanes n).length) ||
  (decide (1 ≤ (s.passedLanes n).length) && (s.inactiveLanes n).length == (s.passedLanes n).length)

/-! ### Supply -/

/-- The lanes that keep the module from hold-only: Active, some set usable, level 3 or better (R399). -/
def State.fullLanes (s : State) (n : Lane) : List Lane :=
  allLanes.filter (fun m => s.sees n m == .active && (s.usable n m .s || s.usable n m .b) && decide (s.seesLevel n m ≤ 3))

/-- The module is hold-only as the Leader sees it (R399): an Active lane at level 4 or deeper and none with a usable set
at level 3 or better while some set is usable, or the temperature of R96. -/
def State.holdOnlyDue (s : State) (n : Lane) : Bool :=
  decide (gradeMax + 5 < s.baseTemp n) ||
  (allLanes.any (fun m => s.sees n m == .active && decide (4 ≤ s.seesLevel n m)) &&
   allLanes.any (fun m => s.sees n m == .active && ((s.lane m).setBad .s == false || (s.lane m).setBad .b == false) &&
     s.seesPermitted n m) &&
   (s.fullLanes n).isEmpty)

end Sys2Proof.Machine
end

