-- ==== Sys2Proof/Machine/Flags.lean ====
section
/-! DEFINITION. The words and records the module reports: mode status word, cross-lane frame words, fault-log entries,
port records, health record and counter pages, field by field from the manual's layouts. -/

namespace Sys2Proof.Machine

/-- Fields from the most significant on, each a value and its width, as one number; a value is cut to its width. -/
def pack (fs : List (Nat × Nat)) : Nat := fs.foldl (fun a f => a * 2 ^ f.2 + f.1 % 2 ^ f.2) 0

/-- A flag as a bit. -/
def bit (b : Bool) : Nat := if b then 1 else 0

/-- A signed value cut to a field of w bits in two's complement. -/
def sgn (w : Nat) (x : Int) : Nat := (BitVec.ofInt w x).toNat

/-- A rounded value kept within the signed range of w bits. -/
def sat (w : Nat) (x : Rat) : Nat :=
  sgn w (clampI (-(2 ^ (w - 1) : Int)) ((2 ^ (w - 1) : Int) - 1) (roundAway x))

/-! ### The mode status word (R276) -/

/-- The 64-bit mode status word, formed by the lane that speaks for the module. -/
def State.modeWord (s : State) : Dword :=
  let n := s.scribe
  let c := s.limpConds n
  let lim := fun k => bit (s.m.mode == .limp && c.getD k false)
  BitVec.ofNat 64 (pack [
    (s.m.mode.code, 3), (s.m.pend.code, 3),
    ((s.sees n .l1).code, 3), ((s.sees n .l2).code, 3), ((s.sees n .l3).code, 3),
    ((s.seesRole n .l1).code, 2), ((s.seesRole n .l2).code, 2), ((s.seesRole n .l3).code, 2),
    (bit (s.seesEna n .l1), 1), (bit (s.seesEna n .l2), 1), (bit (s.seesEna n .l3), 1),
    (s.l1.ena.test.toNat, 2), (s.l2.ena.test.toNat, 2), (s.l3.ena.test.toNat, 2),
    (bit s.m.stopReq, 1), (bit s.m.stale, 1), (bit s.m.stopOn, 1), (bit s.m.stopDone, 1), (bit s.m.late, 1),
    (bit (s.lane n).stampBad, 1), (bit (s.hom.axS || s.hom.axB), 1), (bit s.m.lostLane, 1), (bit s.twin.lost, 1),
    (bit s.m.loc, 1), (lim 0, 1), (lim 1, 1), (lim 2, 1), (lim 3, 1), (lim 4, 1), (lim 5, 1), (0, 2),
    ((s.lane n).epoch.toNat, 16)])

/-! ### PWM period (R166) and relay words (R35) -/

/-- The half-period N in counter steps of 1.25 ns for a PWM frequency in kHz (R166). -/
def halfSteps (khz : Nat) : Nat := (roundAway (400000 / (khz : Rat))).toNat

/-- The half-period of a lane's sets. -/
def LaneSt.halfSteps (l : LaneSt) : Nat := Machine.halfSteps (l.codeN Key.pwmFreq)

/-- The PWM period in ns: 2 * N * 1.25 (R166). -/
def LaneSt.periodNs (l : LaneSt) : Rat := (l.halfSteps : Rat) * 5 / 2

/-- The relay word count of a frame (R35). -/
def LaneSt.relayWords (l : LaneSt) : Nat := min 48 ((l.periodNs - 4320) / 360).floor.toNat

/-! ### The cross-lane frame (R37) -/

/-- The identifier a lane publishes in S6 and in its health record: of its own dispute, or of a dispute over it (R54). -/
def State.openDispute (s : State) (n : Lane) : Byte :=
  match (s.lane n).vote.disps with
  | d :: _ => d.id
  | [] => (((allLanes.map (fun m => (s.lane m).vote.disps)).flatten.find? (fun d => (d.id.toNat / 16) % 4 == n.num)).map (·.id)).getD 0

/-- S1 and S2 of a lane's own profile engine: the setpoints it uses (R37, R38). -/
def ProfSt.s1 (p : ProfSt) : Nat :=
  pack [(sat 32 p.steer.pos, 32), (sat 16 (p.steer.rate / 8000 / 256), 16), (p.step.toNat, 16)]
/-- S2 of a lane's own profile engine. -/
def ProfSt.s2 (p : ProfSt) : Nat :=
  pack [(sat 32 p.brake.pos, 32), (p.bMode.toNat, 2), (0, 14), (p.lastSeq.toNat, 16)]
/-- T of a lane: its own outer-loop outputs. -/
def ProfSt.tWord (p : ProfSt) : Nat := pack [(sgn 32 p.tS, 32), (sgn 32 p.tB, 32)]

/-- The sender fills S1, S2 and T with the Leader's values for a receiver that no longer hears the Leader (R40). -/
def State.forwards (s : State) (n dst : Lane) : Bool :=
  match (s.lane n).leader with
  | some k => k != n && k != dst && !(s.link dst n).hearsThird && (s.link k n).speaks
  | none => false

/-- Some leg of a set is held high-impedance (R112). -/
def SetSt.tripped (c : SetSt) : Bool := c.u.tripped || c.v.tripped || c.w.tripped

/-- Angle valid as a set publishes it (R195, R208): the observer has converged, nothing keeps the bit cleared, no leg is held
high-impedance and no active short is applied. -/
def SetSt.angleOk (c : SetSt) : Bool := c.obs.valid && !c.obs.latched && !c.obs.injFault && !c.obs.psiBad && !c.tripped && !c.short

/-- The observers' word S3 (R37, R190). -/
def LaneSt.s3 (l : LaneSt) : Nat :=
  pack [(l.s.obs.pub.toNat, 16), (l.b.obs.pub.toNat, 16), (sgn 16 l.s.obs.pubOmega, 16), (sgn 16 l.b.obs.pubOmega, 16)]

/-- The frame lane n sends to lane dst, word by word (R37). -/
def State.frameTo (s : State) (n dst : Lane) : XView :=
  let l := s.lane n
  let third := n.third dst
  let k := s.link third n
  let fw := s.forwards n dst
  let v := s.link third n
  { h := BitVec.ofNat 64 (pack [(1, 4), (n.num, 2), (l.role.code, 2), (l.state.code, 3), (s.m.mode.code, 3), (0, 2),
      (l.epoch.toNat, 16), (l.relayWords, 6), (0, 10), (l.outSeq.toNat, 16)])
    s1 := if fw then v.view.s1 else BitVec.ofNat 64 l.prof.s1
    s2 := if fw then v.view.s2 else BitVec.ofNat 64 l.prof.s2
    s3 := BitVec.ofNat 64 l.s3
    s4 := BitVec.ofNat 64 (pack [(bit l.s.angleOk, 1), (bit l.b.angleOk, 1), (l.s.obs.region.toNat, 2),
      (l.b.obs.region.toNat, 2), (bit l.s.obs.suspect, 1), (bit l.b.obs.suspect, 1),
      (bit (l.vote.request || l.rst.dogForced), 1), (0, 3),
      ((l.vote.on dst).reason.toNat, 4), ((l.vote.on third).reason.toNat, 4), (min 63 l.prof.torqueRun, 6), (0, 38)])
    s5 := BitVec.ofNat 64 (pack [(shareCode l.s.share, 16), (shareCode l.b.share, 16), (sat 16 l.prof.devS, 16),
      (sat 16 l.prof.devB, 16)])
    s6 := BitVec.ofNat 64 (pack [(min 255 (l.sup.auxSup / 250), 8), (min 255 (l.sup.auxLink / 250), 8),
      (tempByte l.hottest, 8), (tempByte (roundAway ((l.base16 : Rat) / 16)), 8),
      (bit (s.link dst n).hears, 1), (bit k.hears, 1), (bit (l.net.x.state == 3), 1), (bit (l.net.y.state == 3), 1),
      (bit (l.setBad .s), 1), (bit (l.setBad .b), 1), (bit l.geyserBad, 1), (bit (l.mapBit 3), 1),
      ((s.openDispute n).toNat, 8), (l.sup.level.toNat, 8), (0, 8)])
    s7 := BitVec.ofNat 64 (pack [(fld k.view.s3 48 16, 16), (fld k.view.s3 32 16, 16),
      (bit (k.speaks && fld k.view.s4 62 2 == 3), 1), ((s.sees n third).code, 3), (0, 12),
      (if s.twin.formed then s.twin.epoch.toNat else 0, 16)])
    tq := if fw then v.view.tq else BitVec.ofNat 64 l.prof.tWord }

/-! ### Fault-log entries (R98) -/

/-- The 32 bytes of a fault-log entry. -/
def LogEntry.bytes (e : LogEntry) : List Byte :=
  beBytes 8 e.time.toNat ++ [BitVec.ofNat 8 (pack [(e.lane.toNat, 4), (1, 4)]), e.code.extractLsb' 8 8] ++
  beBytes 2 e.code.toNat ++ beBytes 4 e.addr.toNat ++ beBytes 2 e.epoch.toNat ++
  [BitVec.ofNat 8 (pack [(e.mode.toNat, 3), (e.state.toNat, 3), (e.role.toNat, 2)]),
   BitVec.ofNat 8 (pack [(bit e.unsynced, 1), (bit e.isReply, 1), (0, 6)])] ++
  beBytes 2 e.seq.toNat ++ beBytes 2 e.count.toNat ++ beBytes 8 e.ctx.toNat

/-! ### Port records (R235) -/

/-- The three words P0 to P2 of a record as 24 bytes. -/
def words24 (p0 p1 p2 : Nat) : List Byte := beBytes 8 p0 ++ beBytes 8 p1 ++ beBytes 8 p2

/-- Referenced position p of a lane's QUAD port (R224). -/
def QuadSt.p (q : QuadSt) : Int := q.ext - q.offset

/-- The extended count at the present sample (R223): the extension of the last 8 kHz step with the counter's move since. -/
def QuadSt.count (q : QuadSt) : Int := (BitVec.ofInt 64 (q.ext + (q.raw - q.prev).toInt)).toInt

/-- The changes of a switch input's sampled level in the window that ends now (R227). -/
def SwSt.inWindow (x : SwSt) (now w : Nat) : Nat := (x.changes.filter (fun a => decide (now < a + w))).length

/-- A switch input is fitted. -/
def LaneSt.fitted (l : LaneSt) : SwPort → Bool
  | .sw1 => l.code Key.sw1Fitted == 1
  | .sw2 => l.code Key.sw2Fitted == 1

/-- A switch input is valid: fitted, no CHATTER, no STUCK, no supply fault (R227, R228, R212). -/
def LaneSt.swValid (l : LaneSt) (k : SwPort) : Bool :=
  l.fitted k && !(l.sw k).chatter && !(l.sw k).stuck && !l.sup.svccFault

/-- The QUAD port is valid (R224, R212). -/
def LaneSt.quadValid (l : LaneSt) : Bool := l.quad.valid && !l.sup.svccFault && !l.quad.aside && !l.mapBit 12

/-- The record of a SENT port. -/
def LaneSt.sentRecord (l : LaneSt) (n : Lane) (p : SentPort) : List Byte :=
  let x := l.sent p
  let newest := x.serial.head?.getD (0, 0)
  words24
    (pack [((portAddr n p.num).toNat, 12), (bit (l.sentValid p), 1), (bit l.sup.svccFault, 1), (x.errs.toNat, 5), (0, 9),
      (x.nibble.toNat, 4), (x.raw.toNat, 32)])
    (pack [(sgn 32 x.value, 32), (x.cDiscard.toNat, 16), (x.cTimeout.toNat, 16)])
    (pack [(x.tick.toNat, 16), (newest.1.toNat, 8), (newest.2.toNat, 16), (x.cSerial.toNat, 8), (x.cAccept.toNat, 16)])

/-- The record of the QUAD port. -/
def LaneSt.quadRecord (l : LaneSt) (n : Lane) : List Byte :=
  let q := l.quad
  words24
    (pack [((portAddr n 2).toNat, 12), (bit l.quadValid, 1), (bit l.sup.svccFault, 1), (bit q.overRate, 1),
      (bit q.refd, 1), (q.qerr.toNat, 16), (q.raw.toNat, 32)])
    (pack [(sgn 64 q.ext, 64)])
    (pack [(sgn 32 (clampI (-(2 ^ 31)) (2 ^ 31 - 1) q.p), 32), (0, 32)])

/-- The record of a switch input. -/
def LaneSt.swRecord (l : LaneSt) (n : Lane) (k : SwPort) (now : Nat) : List Byte :=
  let x := l.sw k
  words24
    (pack [((portAddr n k.num).toNat, 12), (bit (l.swValid k), 1), (bit l.sup.svccFault, 1), (bit (l.fitted k), 1),
      (bit x.state, 1), (bit x.chatter, 1), (bit x.stuck, 1), (bit x.level, 1), (0, 13), (min 0xFFFF (x.inWindow now (ms (l.codeN Key.swChatterW))), 16),
      (if x.state then min 0xFFFF ((now - x.since) / ms 100) else 0, 16)]) 0 0

/-! ### The health record (R391) and its counter pages (R392) -/

/-- Seven 16-bit counters of a set's page (R392). -/
def SetSt.page (c : SetSt) : List Half := [c.cDefer, c.cBlock, c.cPred, c.cCross, c.cLate, c.cClamp, c.cWin]

/-- The seven counters of page p (R392). -/
def State.counterPage (s : State) (n : Lane) (p : Nat) : List Half :=
  let l := s.lane n
  let ch := fun (c : ChanSt) => [c.cFcs, c.cForeign, c.cVersion, c.cLength, c.cPosition, c.cOwner, c.cFlags]
  let ch2 := fun (c : ChanSt) => [c.cCrossed, c.cRefFmt, c.cAccept, c.cBlocked, c.cArb, 0, 0]
  match p with
  | 0 => [l.ctr.overwritten, l.ctr.stale, l.vote.falseVotes, l.ctr.linkLo, l.ctr.linkHi, l.ctr.logOver, l.ctr.reseeds]
  | 1 => [l.ctr.foreign, l.ctr.drops, s.host.cSeg, 0, 0, 0, 0]
  | 2 => l.s.page
  | 3 => l.b.page
  | 4 => [l.s.u.satCount, l.s.v.satCount, l.s.w.satCount, l.b.u.satCount, l.b.v.satCount, l.b.w.satCount, 0]
  | 5 => ch l.net.x
  | 6 => ch2 l.net.x
  | 7 => ch l.net.y
  | _ => ch2 l.net.y

/-- A duration in units of 0.01 h, saturating (R391, R393). -/
def centiHours (ns : Nat) : Nat := min 0xFFFFFFFF (ns / 36000000000)

/-- The 64 bytes of the health record of a lane as it stands (R391). -/
def State.healthRecord (s : State) (n : Lane) : List Byte :=
  let l := s.lane n
  let q := fun (c : SetSt) => roundAway ((max c.u.temp (max c.v.temp c.w.temp) : Rat) / 16)
  [BitVec.ofNat 8 (pack [(1, 4), (n.num, 2), (l.role.code, 2)]),
   BitVec.ofNat 8 (pack [(l.state.code, 3), (s.m.mode.code, 3), (0, 2)])] ++
  beBytes 2 l.epoch.toNat ++
  [s.openDispute n,
   BitVec.ofNat 8 (pack [(bit l.time.synced, 1), (bit l.ctr.carrier, 1), (bit l.s.limited, 1), (bit l.b.limited, 1),
     (bit l.vote.untested, 1), (bit l.net.relayed, 1), (bit l.prof.matched, 1), (bit l.prof.vecOk, 1)]),
   l.sup.level, BitVec.ofNat 8 (pack [(0, 1), (l.net.x.state.toNat, 3), (0, 1), (l.net.y.state.toNat, 3)])] ++
  beBytes 8 l.ctr.map.toNat ++
  [BitVec.ofNat 8 (tempByte (roundAway ((l.base16 : Rat) / 16))), BitVec.ofNat 8 (tempByte (q l.s)),
   BitVec.ofNat 8 (tempByte (q l.b)), BitVec.ofNat 8 (tempByte (roundAway ((l.gey.temp : Rat) / 16)))] ++
  (([l.ctr.ecMram, l.ctr.ecSram, l.ctr.ecFe, l.ctr.ecOtp, l.ctr.ecBus, l.ctr.ecLink]).map
    (fun c => beBytes 2 c.toNat)).flatten ++
  beBytes 4 (centiHours l.ctr.runNs) ++ beBytes 4 (centiHours l.ctr.onNs) ++ beBytes 4 (min 0xFFFFFFFF l.ctr.cycles) ++
  beBytes 4 (min 0xFFFFFFFF l.ctr.energy.floor.toNat) ++
  [BitVec.ofNat 8 l.ctr.page, 0] ++ ((s.counterPage n l.ctr.page).map (fun c => beBytes 2 c.toNat)).flatten

/-! ### The pins (R417, R424, R426, R463, R464) -/

/-- The signal pins of a lane group whose state the manual gives (R463). -/
inductive Pin where
  | netX | netY | sentA | sentB | svcc | qa | qb | sw1 | sw2 | ena | rst | flt | test
  deriving DecidableEq, Repr

/-- What the module does at a pin: high-impedance, a weak pull, driven low, released by an open drain, supplied, or in its operating
configuration. -/
inductive PinState where
  | highZ | pullDown | pullUp | low | released | supplied | operating
  deriving DecidableEq, Repr

/-- The field of the pin-state word that sets a pin in reset; the other pins are fixed (R424). -/
def Pin.field : Pin → Option Nat
  | .flt => some 0
  | .sentA => some 1
  | .sentB => some 2
  | .qa => some 3
  | .qb => some 4
  | .sw1 => some 5
  | .sw2 => some 6
  | .test => some 7
  | _ => none

/-- A fuse-mapped pad in reset (R424): by the always-on copy of the word; without one high-impedance; a weak pull-up has lost its rail in
Dormant (R463). -/
def ResetSt.padState (r : ResetSt) (k : Nat) (asleep : Bool) : PinState :=
  match r.pads with
  | none => .highZ
  | some w =>
    let v := w.toNat / 4 ^ k % 4
    if v = 0 then .highZ else if v = 1 then .pullDown else if v = 2 then (if asleep then .highZ else .pullUp) else .low

/-- A pin of an unpowered lane (R463). -/
def Pin.unpowered : Pin → PinState
  | .ena => .pullDown
  | .flt => .released
  | _ => .highZ

/-- A pin of a lane in reset, before a wake included (R417, R424, R463). -/
def ResetSt.pinState (r : ResetSt) (p : Pin) : PinState :=
  let asleep := r.causes.contains 4 && r.wakeAt.isNone
  match p.field with
  | some k => r.padState k asleep
  | none => match p with
    | .ena => .pullDown
    | .rst => if r.rstDriven && !asleep then .low else .released
    | _ => .highZ

/-- A pin of a lane (R93, R212, R226, R413, R424, R426, R463). -/
def State.pinState (s : State) (n : Lane) (p : Pin) : PinState :=
  let l := s.lane n
  if l.sup.eff < 4000 then p.unpowered
  else if l.rst.inReset then l.rst.pinState p
  else match p with
    | .flt => if s.fltLow n then .low else .released
    | .svcc => if l.sup.svccOn then .supplied else .highZ
    | .sw1 => if l.codeN Key.sw1Fitted = 1 then .pullUp else .operating
    | .sw2 => if l.codeN Key.sw2Fitted = 1 then .pullUp else .operating
    | .ena => .pullDown
    | .rst => .released
    | _ => .operating

/-- The lane that serves a twin link drives its transmit pair (R32, R464, R468): it runs, and the module has a place in a twin. -/
def State.twinDriven (s : State) (n : Lane) : Bool :=
  decide (n.num ≤ 2) && !(s.lane n).rst.inReset && decide (4000 ≤ (s.lane n).sup.eff) && decide ((s.lane n).codeN Key.twinPosition ≠ 0)

end Sys2Proof.Machine
end

