-- ==== Sys2Proof/Machine/Ecc.lean ====
section
/-! DEFINITION. The error-correcting code of every protected path: the columns of its parity-check matrix, the check bits of a
word with the address or link identity folded in, and what a checked read or transfer decides by the syndrome (The Corner
Module R26, R27; Lanes, Votes and Leadership R33). -/

namespace Sys2Proof.Machine

/-- The number of ones in a byte. -/
def weight (b : Byte) : Nat := ((List.range 8).filter (fun i => b.getLsbD i)).length

/-- The bytes of a weight in rising order. -/
def bytesOfWeight (k : Nat) : List Byte := ((List.range 256).map (BitVec.ofNat 8)).filter (fun b => weight b == k)

/-- A list put into the order a list of choices gives: each choice, taken modulo what is left, picks the next element. Whatever
the choices, the result has the same elements. -/
def choose {α : Type} : List Nat → List α → List α
  | i :: is, x :: r =>
    match (x :: r)[i % (r.length + 1)]? with
    | some y => y :: choose is ((x :: r).eraseIdx (i % (r.length + 1)))
    | none => x :: r
  | _, l => l

/-- The columns of the data bits 0 to 63: all 56 of weight 3 and 8 of weight 5 (R26). -/
def dataColumns : List Byte :=
  choose Config.dataOrder (bytesOfWeight 3 ++ (choose Config.columns5 (bytesOfWeight 5)).take 8)

/-- The columns of the address bits, all different and of even weight (R26). -/
def addrColumns : List Byte := choose Config.addrOrder (bytesOfWeight 2 ++ bytesOfWeight 4 ++ bytesOfWeight 6)

/-- The exclusive-or of the columns of the bits that are 1. -/
def sumColumns (cols : List Byte) (x : Nat) : Byte :=
  (cols.zipIdx.filter (fun c => x.testBit c.2)).foldl (fun a c => a ^^^ c.1) 0

/-- The check bits of a word with a folded address (R26). -/
def checkBits (d : Dword) (a : Nat) : Byte := sumColumns dataColumns d.toNat ^^^ sumColumns addrColumns a

/-- The address folded into a memory word, from its byte address (R26): MRAM [22:3], SRAM [19:3], field-engine RAM [15:3],
OTP [9:3]. -/
def foldMemory (a : Nat) : Nat :=
  if a < 0x10000000 then a / 8 % 2 ^ 20 else if a < 0x20000000 then a / 8 % 2 ^ 17
  else if a < 0x30000000 then a / 8 % 2 ^ 13 else a / 8 % 2 ^ 7

/-- The address folded into an internal bus beat: byte-address bits [31:3] (R26). -/
def foldBus (a : Nat) : Nat := a / 8 % 2 ^ 29

/-- What is folded into a link word: the 3-bit directed-link identity and the 6-bit word index (R26). -/
def foldLink (id index : Nat) : Nat := id % 8 * 64 + index % 64

/-- The identity of a twin link in either direction (R33). -/
def twinId : Nat := 7

/-- A word with one data bit inverted. -/
def flipBit (d : Dword) (k : Nat) : Dword := d ^^^ (1#64 <<< k)

end Sys2Proof.Machine

namespace Sys2Proof
open Machine

/-- A word as it is sent or stored with an address: its data and its check bits (R26). -/
def XWord.encode (d : Dword) (a : Nat) : XWord := { data := d, check := checkBits d a }

/-- The syndrome of a received word (R26). -/
def XWord.syndrome (w : XWord) (a : Nat) : Byte := w.check ^^^ checkBits w.data a

/-- The outcome of a checked word (R27): the delivered data and whether it was corrected, or none where it is uncorrectable. An
odd syndrome that is a check column or a data column is a single-bit error; every other one is uncorrectable. -/
def XWord.decode (w : XWord) (a : Nat) : Option (Dword × Bool) :=
  let y := w.syndrome a
  if y = 0 then some (w.data, false)
  else if weight y = 1 then some (w.data, true)
  else (dataColumns.findIdx? (· == y)).map (fun k => (flipBit w.data k, true))

end Sys2Proof

namespace Sys2Proof.Machine

/-- The data of consecutive link words that all check, from a word index on, and how many were corrected (R27, R34). -/
def checkWords (id : Nat) : Nat → List XWord → Option (List Dword × Nat)
  | _, [] => some ([], 0)
  | i, w :: r =>
    match w.decode (foldLink id i), checkWords id (i + 1) r with
    | some (d, c), some (ds, k) => some (d :: ds, if c then k + 1 else k)
    | _, _ => none

/-- The words of a frame as they are sent (R26, R33). -/
def frameWords (id : Nat) (ds : List Dword) : List XWord := ds.zipIdx.map (fun d => XWord.encode d.1 (foldLink id d.2))

end Sys2Proof.Machine
end

