-- ==== Sys2Proof/Machine/Almanac.lean ====
section
/-! DEFINITION. The Hiolo schedule table (Almanac): its fields, the factory Almanac, the checks of a package, and a lane's
schedule position and windows (Hiolo Network: Schedule and Frames). -/

namespace Sys2Proof.Machine

/-- 16-bit field as two bytes. -/
def w16 (x : Nat) : List Byte := beBytes 2 x

/-- A matrix entry: type, owner, tag (R290). -/
def matrixEntry (kind owner tag : Nat) : Nat := kind * 0x4000 + owner * 0x100 + tag

/-- The node rows of the factory Almanac (R294). -/
def factoryNode (k : Nat) : List Byte :=
  if k = 0 then [1, 0, 0x80, 0] else if k = 4 then [2, 1, 1, 0] else if k = 5 then [2, 1, 2, 0]
  else if k = 6 then [2, 1, 3, 0] else [0, 0, 0, 0]

/-- The matrix row of the factory Almanac, the same in every basic cycle (R294). -/
def factoryRow : List Byte :=
  (([matrixEntry 1 0 0, matrixEntry 2 0 1, matrixEntry 2 4 0, matrixEntry 2 5 0, matrixEntry 2 6 0, matrixEntry 3 0 0] ++
    List.replicate 10 0).map w16).flatten

/-- The factory Almanac: schedule ID 0, version 1.2, six windows (R294). -/
def factoryAlmanac : List Byte :=
  [0x12, 6, 0, 0] ++ List.replicate 12 0 ++ List.replicate 16 0 ++
  (([0, 752, 752, 992, 1744, 992, 2736, 992, 3728, 992, 4720, 1200] ++ List.replicate 20 0).map w16).flatten ++
  ((List.range 32).map factoryNode).flatten ++ (List.replicate 32 factoryRow).flatten

/-- The active Almanac body of a lane; an empty store stands for the factory Almanac (R293, R294). -/
def NetSt.almanac (x : NetSt) : List Byte := if x.actAlm.isEmpty then factoryAlmanac else x.actAlm

/-- Fields of an Almanac body (R290). -/
def almMajor (b : List Byte) : Nat := rd b 0 1 / 16
/-- Minor version. -/
def almMinor (b : List Byte) : Nat := rd b 0 1 % 16
/-- Window count W. -/
def almWindows (b : List Byte) : Nat := rd b 1 1
/-- Schedule ID. -/
def almId (b : List Byte) : Word := BitVec.ofNat 32 (rd b 4 4)
/-- Activation time in ns. -/
def almTime (b : List Byte) : Nat := rd b 8 8
/-- Start of window w in 0.1 us. -/
def almStart (b : List Byte) (w : Nat) : Nat := rd b (32 + 4 * w) 2
/-- Length of window w in 0.1 us. -/
def almLen (b : List Byte) (w : Nat) : Nat := rd b (34 + 4 * w) 2
/-- Kind of a node identity. -/
def almKind (b : List Byte) (k : Nat) : Nat := rd b (96 + 4 * k) 1
/-- Module tag of a node identity. -/
def almTag (b : List Byte) (k : Nat) : Nat := rd b (97 + 4 * k) 1
/-- The node is marked as a time source. -/
def almSource (b : List Byte) (k : Nat) : Bool := rd b (98 + 4 * k) 1 / 128 == 1
/-- Lane number of a node identity. -/
def almLane (b : List Byte) (k : Nat) : Nat := rd b (98 + 4 * k) 1 % 4
/-- Matrix entry of window w in basic cycle c. -/
def almEntry (b : List Byte) (c w : Nat) : Nat := rd b (224 + 32 * c + 2 * w) 2
/-- Window type of an entry: 0 idle, 1 reference, 2 exclusive, 3 arbitrating. -/
def entryType (e : Nat) : Nat := e / 0x4000
/-- Owner of an entry. -/
def entryOwner (e : Nat) : Nat := e / 0x100 % 32
/-- Addressed tag of an entry. -/
def entryTag (e : Nat) : Nat := e % 0x100

/-- The node identity of a lane (R291). -/
def LaneSt.nodeId (l : LaneSt) (n : Lane) : Nat :=
  l.codeN (match n with | .l1 => Key.netNodeId1 | .l2 => Key.netNodeId2 | .l3 => Key.netNodeId3)

/-- The module tag (R291). -/
def LaneSt.tag (l : LaneSt) : Nat := l.codeN Key.netModuleTag

/-- The matrix position of an instant by a Meridian reading (R305). -/
def matrixPos (t : Int) : Nat := ((t / 1000000) % 32).toNat

/-- The instant within the basic cycle, in ns (R305). -/
def cycleOffset (t : Int) : Nat := (t % 1000000).toNat

/-- The matrix position of a lane now. -/
def State.matrixPos (s : State) (n : Lane) : Nat := Machine.matrixPos (s.meridian n)

/-- The index of the lane's exclusive window in a basic cycle (R292 check 7). -/
def ownWindow (b : List Byte) (c node : Nat) : Option Nat :=
  (List.range (almWindows b)).find? (fun w => entryType (almEntry b c w) == 2 && entryOwner (almEntry b c w) == node)

/-- The payload a window of a length in 0.1 us carries (R289). -/
def pMax (len : Nat) : Nat := min 1400 ((len - 176) / 8 - 38)

/-- P_max of the lane's own window in its present basic cycle; 0 where it owns none. -/
def State.ownPMax (s : State) (n : Lane) : Nat :=
  let l := s.lane n
  match ownWindow l.net.almanac (s.matrixPos n) (l.nodeId n) with
  | some w => pMax (almLen l.net.almanac w)
  | none => 0

/-- The used time sources of a lane: the four lowest identities marked as time sources, its own module's marks ignored
(R308, R309). -/
def LaneSt.sources (l : LaneSt) : List Nat :=
  let own := [l.codeN Key.netNodeId1, l.codeN Key.netNodeId2, l.codeN Key.netNodeId3]
  ((List.range 32).filter (fun k => almSource l.net.almanac k && !own.contains k)).take 4

/-- The end of the last reference window that ends at or before 900.0 us in a basic cycle, in ns (R309, R310). -/
def lastRefEnd (b : List Byte) (c : Nat) : Nat :=
  ((List.range (almWindows b)).filterMap (fun w =>
    if entryType (almEntry b c w) == 1 && decide (almStart b w + almLen b w ≤ 9000)
    then some ((almStart b w + almLen b w) * 100) else none)).foldl max 0

/-- A channel of the module is integrated in this lane (R314). -/
def NetSt.integrated (x : NetSt) : Bool := x.x.state == 3 || x.y.state == 3

/-- A channel of the lane waits for admission (R319). -/
def NetSt.joining (x : NetSt) : Bool := x.x.state == 2 || x.y.state == 2

/-- The checks of R292 from order 2 on, over an Almanac body, with the module's identities, tag and the Leader's time:
the status and the offset of the first offending field. -/
def checkAlmanac (b : List Byte) (ids : List Nat) (tag : Nat) (now : Int) : Option (Byte × Nat) :=
  let W := almWindows b
  let ws := List.range W
  let cs := List.range 32
  let bad := fun (o : Option Nat) => o.map (fun x => ((0x12 : Byte), x))
  let order3 : Option Nat :=
    if W < 1 ∨ 16 < W then some 1
    else if almStart b 0 ≠ 0 then some 32
    else match (ws.drop 1).find? (fun w => decide (almStart b w < almStart b (w - 1) + almLen b (w - 1))) with
      | some w => some (32 + 4 * w)
      | none => if 10000 < almStart b (W - 1) + almLen b (W - 1) then some (34 + 4 * (W - 1)) else none
  let order4 : Option Nat :=
    (ws.find? (fun w => cs.any (fun c =>
      let k := entryType (almEntry b c w)
      ((k == 1 || k == 2) && decide (almLen b w < 752)) || (k == 3 && decide (almLen b w < 1200))))).map (34 + 4 * ·)
  let order5 : Option Nat :=
    (cs.find? (fun c => !(entryType (almEntry b c 0) == 1 && almSource b (entryOwner (almEntry b c 0))))).map
      (224 + 32 * ·)
  let order6 : Option Nat :=
    ((List.range 3).find? (fun i =>
      let k := ids.getD i 0
      !(almKind b k == 2 && almTag b k == tag && almLane b k == i + 1))).map (fun i => 96 + 4 * ids.getD i 0)
  let order7 : Option Nat :=
    (cs.find? (fun c => ids.any (fun k =>
      let own := ws.filter (fun w => entryType (almEntry b c w) == 2 && entryOwner (almEntry b c w) == k)
      !(own.length == 1 && own.all (fun w => decide (992 ≤ almLen b w)))))).map (224 + 32 * ·)
  let order8 : Option Nat :=
    (cs.find? (fun c => !ws.any (fun w =>
      let e := almEntry b c w
      entryType e == 2 && almKind b (entryOwner e) == 1 && (entryTag e == tag || entryTag e == 0xFF)))).map
      (224 + 32 * ·)
  if almMajor b ≠ 1 then some (0x16, 0)
  else (bad order3).or ((bad order4).or ((bad order5).or ((bad order6).or ((bad order7).or ((bad order8).or
    (if (almTime b : Int) < now + 64000000 then some (0x12, 8) else none))))))

/-- Check 6 of R292 against the module's identities (R304, R318). -/
def almanacNames (b : List Byte) (ids : List Nat) (tag : Nat) : Bool :=
  (List.range 3).all (fun i =>
    let k := ids.getD i 0
    almKind b k == 2 && almTag b k == tag && almLane b k == i + 1)

/-- The identities of the module in a lane's parameters. -/
def LaneSt.nodeIds (l : LaneSt) : List Nat :=
  [l.codeN Key.netNodeId1, l.codeN Key.netNodeId2, l.codeN Key.netNodeId3]

/-- The pending activation time of a lane, 0 with no pending Almanac. -/
def NetSt.pendTime (x : NetSt) : Nat := (x.pendAlm.map almTime).getD 0

/-- The pending schedule ID of a lane, 0 with no pending Almanac. -/
def NetSt.pendId (x : NetSt) : Word := (x.pendAlm.map almId).getD 0

end Sys2Proof.Machine
end

