-- ==== Sys2Proof/Machine/Operands.lean ====
section
/-! DEFINITION. The operand forms of FCP: the opcode table, the checks of a request in their order, replies, piecewise
reads and the parsing of bytes into packets (Fertevo Command Protocol; Command Reference). -/

namespace Sys2Proof.Machine

/-! ### CRC-32C (R330) -/

/-- One bit step of the reflected CRC. -/
def crcBit (c : Word) : Word := if c.getLsbD 0 then (c >>> 1) ^^^ 0x82F63B78 else c >>> 1

/-- One byte step. -/
def crcByte (c : Word) (b : Byte) : Word :=
  crcBit (crcBit (crcBit (crcBit (crcBit (crcBit (crcBit (crcBit (c ^^^ (b.setWidth 32)))))))))

/-- CRC-32C over bytes (R330). -/
def crc32c (bs : List Byte) : Word := bs.foldl crcByte 0xFFFFFFFF ^^^ 0xFFFFFFFF

/-! ### Versions (R339, R340) -/

/-- A version as one number, major * 256 + minor. -/
abbrev ver (major minor : Nat) : Nat := major * 256 + minor

/-- The highest version known within a major: 2.3 and 3.1 (R339). -/
def highestVer (major : Nat) : Nat := if major = 2 then ver 2 3 else ver 3 1

end Sys2Proof.Machine

namespace Sys2Proof
open Machine

/-- The version of a request as received. -/
def Req.ver (r : Req) : Nat := Machine.ver r.verMajor.toNat r.verMinor.toNat

/-- The version v a request is read and answered in (R340). -/
def Req.readVer (r : Req) : Nat := min r.ver (highestVer r.verMajor.toNat)

end Sys2Proof

namespace Sys2Proof.Machine

/-! ### The opcode table (R349) -/

/-- Session level an opcode needs. -/
inductive Level where
  | open_ | basic | expert
  deriving DecidableEq, Repr

/-- One row of R349. -/
structure OpRow where
  op      : Half
  since   : Nat
  level   : Level
  targets : List Byte
  modes   : List Mode
  motion  : Bool
  deriving DecidableEq, Repr

/-- Target classes: M, L, S, B. -/
def tM : List Byte := [0x00]
/-- M and the lane codes. -/
def tML : List Byte := [0x00, 0x1F, 0x2F, 0x3F]
/-- The lane codes. -/
def tL : List Byte := [0x1F, 0x2F, 0x3F]
/-- Ready, Run, Limp, Service. -/
def mAll : List Mode := [.ready, .run, .limp, .service]
/-- Run and Limp. -/
def mRL : List Mode := [.run, .limp]
/-- Run, Limp and Service as a service move. -/
def mRLS : List Mode := [.run, .limp, .service]
/-- Ready and Service. -/
def mRS : List Mode := [.ready, .service]

/-- The opcodes of groups Mode to Parameters (R349). -/
def opRows1 : List OpRow := [
  ⟨0x0101, ver 2 0, .basic, tM, mAll, false⟩,
  ⟨0x0102, ver 2 0, .open_, tML, mAll, false⟩,
  ⟨0x0110, ver 3 0, .open_, tM, mAll, false⟩,
  ⟨0x0201, ver 2 0, .basic, [0x40], mRLS, true⟩,
  ⟨0x0202, ver 2 0, .expert, [0x40], mRL, true⟩,
  ⟨0x0203, ver 2 2, .basic, [0x40], mRL, true⟩,
  ⟨0x0204, ver 2 0, .basic, [0x40], mRLS, true⟩,
  ⟨0x0301, ver 2 0, .basic, [0x41], mRL, true⟩,
  ⟨0x0302, ver 2 0, .basic, [0x41], mRLS, true⟩,
  ⟨0x0303, ver 2 0, .basic, [0x41], mRL, true⟩,
  ⟨0x0304, ver 2 0, .basic, [0x41], mRL, true⟩,
  ⟨0x0401, ver 2 0, .basic, [0x40, 0x41], mRL, true⟩,
  ⟨0x0402, ver 2 2, .basic, tM, mRL, true⟩,
  ⟨0x0501, ver 2 0, .basic, tML, mAll, false⟩,
  ⟨0x0502, ver 2 0, .basic, tM, mAll, false⟩,
  ⟨0x0503, ver 2 0, .basic, tM, mAll, false⟩,
  ⟨0x0504, ver 2 0, .open_, tML, mAll, false⟩]

/-- The opcodes of groups Measurement to Arbitration (R349). -/
def opRows2 : List OpRow := [
  ⟨0x0601, ver 2 0, .basic, tL, mRS, false⟩,
  ⟨0x0602, ver 3 1, .basic, tL, mRS, false⟩,
  ⟨0x0603, ver 2 0, .basic, tML, mAll, false⟩,
  ⟨0x0604, ver 2 0, .open_, tML, .boot :: mAll, false⟩,
  ⟨0x0701, ver 2 0, .expert, tML, [.service], false⟩,
  ⟨0x0702, ver 2 0, .basic, tML, mAll, false⟩,
  ⟨0x0703, ver 2 0, .basic, tML, mAll, false⟩,
  ⟨0x0801, ver 2 0, .open_, tML, mAll, false⟩,
  ⟨0x0802, ver 2 0, .open_, tM, mAll, false⟩,
  ⟨0x0803, ver 2 0, .basic, tM, mAll, false⟩,
  ⟨0x0804, ver 2 0, .open_, tM, mRS, false⟩,
  ⟨0x0901, ver 2 0, .expert, tM, [.service], false⟩,
  ⟨0x0902, ver 2 0, .expert, tM, [.service], false⟩,
  ⟨0x0903, ver 2 0, .expert, tM, [.service], false⟩,
  ⟨0x0904, ver 2 0, .expert, tM, [.service], false⟩,
  ⟨0x0A01, ver 2 0, .open_, tML, mAll, false⟩,
  ⟨0x0A02, ver 2 0, .basic, tM, mAll, false⟩,
  ⟨0x0B01, ver 2 0, .basic, tML, mAll, false⟩,
  ⟨0x0B02, ver 2 0, .expert, tML, mRS, false⟩,
  ⟨0x0C01, ver 2 0, .basic, tM, [.ready, .run], true⟩,
  ⟨0x0C02, ver 2 0, .basic, tML, [.ready, .run, .limp], false⟩,
  ⟨0x0C03, ver 3 0, .basic, tM, [.ready, .run, .limp], true⟩,
  ⟨0x0D01, ver 2 0, .basic, tM, mAll, false⟩,
  ⟨0x0D02, ver 2 0, .basic, tM, mAll, false⟩,
  ⟨0x0D03, ver 3 0, .expert, tM, [.service], false⟩]

/-- The row of an opcode; none for one the table does not list. -/
def opRow (op : Half) : Option OpRow := (opRows1 ++ opRows2).find? (fun o => o.op == op)

/-- The parameter length of the opcodes with one length (R355 to R369). -/
def fixedLen (op : Half) : Nat :=
  if op = 0x0101 then 4 else if op = 0x0202 then 4 else if op = 0x0203 then 16 else if op = 0x0301 then 4
  else if op = 0x0304 then 8 else if op = 0x0401 then 16 else if op = 0x0402 then 20 else if op = 0x0504 then 2
  else if op = 0x0601 then 4 else if op = 0x0602 then 2 else if op = 0x0603 then 2 else if op = 0x0604 then 14
  else if op = 0x0701 then 2 else if op = 0x0702 then 2 else if op = 0x0801 then 34 else if op = 0x0802 then 20
  else if op = 0x0803 then 2 else if op = 0x0901 then 12 else if op = 0x0903 then 1 else if op = 0x0A01 then 2
  else if op = 0x0B01 then 6 else if op = 0x0B02 then 4 else if op = 0x0C01 then 1 else if op = 0x0C02 then 2
  else if op = 0x0C03 then 16 else if op = 0x0D01 then 4 else if op = 0x0D02 then 4 else if op = 0x0D03 then 4 else 0

/-- The length an opcode needs in a version, from its parameter bytes where it varies (R335 order 9, R351). -/
def needLen (op : Half) (v : Nat) (p : List Byte) : Nat :=
  if op = 0x0201 ∨ op = 0x0302 then (if ver 3 0 ≤ v then 8 else 4)
  else if op = 0x0703 then (if ver 3 1 ≤ v then 4 else 2)
  else if op = 0x0501 then (if rd p 0 1 = 1 then 8 else 4)
  else if op = 0x0502 then 4 + 12 * rd p 0 1
  else if op = 0x0A02 ∨ op = 0x0804 then 12 + rd p 8 2
  else if op = 0x0902 then 8 + rd p 4 2
  else fixedLen op

/-! ### Requests -/

end Sys2Proof.Machine

namespace Sys2Proof
open Machine

/-- The sender's binding byte: node identity, or 0x20 for the host port (R331, R448). -/
def Carriage.code : Carriage → Nat
  | .hiolo k => k.toNat
  | .host => 0x20

/-- Carriage byte of the MAC context block (R331). -/
def Carriage.hostByte : Carriage → Nat
  | .hiolo _ => 0
  | .host => 1

/-- The request carries the REPLY flag (R328). -/
def Req.isReply (r : Req) : Bool := r.flags.getLsbD 7
/-- The request asks for error replies only (R328). -/
def Req.errorsOnly (r : Req) : Bool := r.flags.getLsbD 5

end Sys2Proof

namespace Sys2Proof.Machine

/-- The header and parameter bytes of a packet (R327). -/
def packetBytes (major minor flags : Nat) (op seq : Half) (target : Byte) (epoch session reserved : Half)
    (params : List Byte) : List Byte :=
  [BitVec.ofNat 8 major, BitVec.ofNat 8 minor, BitVec.ofNat 8 flags] ++ beBytes 2 op.toNat ++ beBytes 2 seq.toNat ++
  [target] ++ beBytes 2 epoch.toNat ++ beBytes 2 params.length ++ beBytes 2 session.toNat ++ beBytes 2 reserved.toNat ++ params

/-- A packet's bytes with its CRC (R330). -/
def withCrc (b : List Byte) : List Byte := b ++ beBytes 4 (crc32c b).toNat

/-- The MAC of a packet: the leftmost 64 bits of the CMAC over the context block and the packet (R331). -/
def macOf (key : BitVec 128) (c : Carriage) (tag : Nat) (reply : Bool) (pkt : List Byte) : Dword :=
  (Config.cmac key ([BitVec.ofNat 8 c.code, BitVec.ofNat 8 tag, BitVec.ofNat 8 (bit reply), BitVec.ofNat 8 c.hostByte] ++
    pkt)).extractLsb' 64 64

end Sys2Proof.Machine

namespace Sys2Proof
open Machine

/-- The bytes of a request with its CRC, the reserved ones as they came (R10, R331). -/
def Req.bytes (r : Req) (op : Half) : List Byte :=
  withCrc (packetBytes r.verMajor.toNat r.verMinor.toNat r.flags.toNat op r.seq r.target r.epoch r.session
    r.reserved r.params)

end Sys2Proof

namespace Sys2Proof.Machine

/-- The session of a number. -/
def SecSt.session (x : SecSt) (num : Half) : Option SessionEntry := x.sessions.find? (fun e => e.num == num)

/-- The session table with the entry of a number changed. -/
def SecSt.onSession (x : SecSt) (num : Half) (f : SessionEntry → SessionEntry) : SecSt :=
  { x with sessions := x.sessions.map (fun e => if e.num = num then f e else e) }

/-- The open session of a request, bound to its sender (R335 order 5). -/
def LaneSt.sessionOf (l : LaneSt) (r : Req) : Option SessionEntry :=
  (l.sec.session r.session).filter (fun e => e.binding.toNat == r.carriage.code)

/-- The MAC of a request verifies under its session's request key (R331). -/
def LaneSt.macOk (l : LaneSt) (op : Half) (r : Req) : Bool :=
  match l.sessionOf r with
  | none => false
  | some e => r.flags.getLsbD 6 && r.mac == some (macOf e.kReq r.carriage l.tag false (r.bytes op))

/-- The sequence is newer than the session's mark, or no request has been accepted yet (R334). -/
def LaneSt.seqOk (l : LaneSt) (r : Req) : Bool :=
  match l.sessionOf r with
  | none => false
  | some e => match e.mark with
    | none => true
    | some m => newer r.seq m

/-- A target byte of R329. -/
def validTarget (t : Byte) : Bool := [0x00, 0x1F, 0x2F, 0x3F, 0x40, 0x41].contains t

/-- Orders 3 to 7 of R335: the first failure, or none. -/
def LaneSt.orders3to7 (l : LaneSt) (op : Half) (r : Req) : Option (Byte × Word) :=
  let opA : Word := op.setWidth 32
  if r.verMajor ≠ 2 ∧ r.verMajor ≠ 3 then some (0x16, opA)
  else if validTarget r.target = false ∨ ((opRow op).map (fun o => o.targets.contains r.target)) = some false then
    some (0x12, r.target.setWidth 32)
  else if r.session = 0 then
    (if (opRow op).map (·.level) = some .open_ then none else some (0x14, opA))
  else if l.sessionOf r = none then some (0x15, opA)
  else if l.macOk op r = false then some (0x15, opA)
  else if l.seqOk r = false then some (0x15, opA)
  else none

/-- The request's session is expert. -/
def LaneSt.isExpert (l : LaneSt) (r : Req) : Bool := r.session != 0 && ((l.sessionOf r).map (·.expert)).getD false

/-- The host port's opcodes in Ready beside the open ones (R346). -/
def hostReady (op : Half) (p : List Byte) : Bool :=
  [0x0803, 0x0501, 0x0702, 0x0703, 0x0B01, 0x0804].contains op || (op == 0x0101 && rd p 0 1 == 5)

/-- A field of the request needs an expert session (R349, R350, R359, R230). -/
def needsExpert (op : Half) (v : Nat) (md : Mode) (o : OpRow) (p : List Byte) : Bool :=
  o.level == .expert || (op == 0x0101 && rd p 0 1 == 5) ||
  ((op == 0x0201 || op == 0x0302) && decide (ver 3 0 ≤ v) && rd p 4 1 == 1) ||
  (op == 0x0501 && rd p 0 1 == 1) || (op == 0x0C03 && rd p 5 1 == 1) ||
  (md == .service && o.motion && o.modes.contains .service)

/-- Orders 8 to 12 of R335 for a request that passed order 7: the first failure, or none. -/
def LaneSt.orders8to12 (l : LaneSt) (md : Mode) (op : Half) (r : Req) : Option (Byte × Word) :=
  let opA : Word := op.setWidth 32
  let v := r.readVer
  match opRow op with
  | none => some (0x10, opA)
  | some o =>
    if v < o.since then some (0x10, opA)
    else if r.params.length < needLen op v r.params then some (0x11, opA)
    else if needLen op v r.params < r.params.length ∧ r.ver ≤ v then some (0x11, opA)
    else if needsExpert op v md o (r.params.take (needLen op v r.params)) = true ∧ l.isExpert r = false then
      some (0x14, opA)
    else if r.carriage = .host ∧ o.motion = true then some (0x14, opA)
    else if r.carriage = .host ∧ md = .ready ∧ o.level ≠ .open_ ∧ hostReady op r.params = false then some (0x14, opA)
    else if o.modes.contains md = false then some (0x13, opA)
    else if o.motion = true ∧ r.epoch ≠ l.epoch then some (0x17, opA)
    else none

/-- Orders 3 to 12 of R335. -/
def LaneSt.check (l : LaneSt) (md : Mode) (op : Half) (r : Req) : Option (Byte × Word) :=
  (l.orders3to7 op r).or (l.orders8to12 md op r)

/-- The module takes in the request at all: no reply packet, not in Dormant, in Boot only an open CAPS_EXCHANGE, and over
the host port only in Ready and Service (R328, R345, R350). -/
def takesIn (md : Mode) (op : Half) (r : Req) : Bool :=
  !r.isReply && md != .dormant && (md != .boot || (op == 0x0604 && r.session == 0)) &&
  (r.carriage != .host || md == .ready || md == .service)

/-- The lane that answers a request (R329): the addressed lane, or the Leader, also for an absent lane, an invalid target
or version. In Boot the addressed lane or the lowest-numbered lane that is admitted or that this CAPS_EXCHANGE admits (R350). -/
def State.answerer (s : State) (r : Req) : Option Lane :=
  let lead := if s.m.mode = .boot then allLanes.find? (fun n => (s.lane n).net.admitted || (s.lane n).net.joining) else s.leader
  match Lane.ofCode? r.target with
  | some n => if (s.lane n).state = .off ∨ (s.lane n).rst.inReset = true then lead else some n
  | none => lead

/-- A lane's own copy of the session table after it has checked a request: the mark advances once order 7 passes, whatever
later checks say; a valid MAC proves the session; a bad one counts (R334, R335, R449). -/
def LaneSt.noteRequest (l : LaneSt) (op : Half) (r : Req) (now : Nat) : LaneSt :=
  if r.session = 0 ∨ l.sessionOf r = none then l
  else if l.macOk op r = false then
    { l with sec := l.sec.onSession r.session (fun e =>
        { e with macFails := (now :: e.macFails).filter (fun t => decide (now < t + 1000000000)) }) }
  else if l.seqOk r = true ∧ l.orders3to7 op r = none then
    { l with sec := l.sec.onSession r.session (fun e => { e with mark := some r.seq, lastUsed := now, proven := true }) }
  else { l with sec := l.sec.onSession r.session (fun e => { e with proven := true }) }

/-- Request and reply data of a call, as a meaning sees it: the version of R340 and the parameter bytes of that version. -/
structure Call where
  op     : Half
  r      : Req
  ver    : Nat
  expert : Bool
  p      : List Byte
  deriving DecidableEq, Repr

/-- The call of a request at a lane. -/
def LaneSt.call (l : LaneSt) (op : Half) (r : Req) : Call :=
  { op := op, r := r, ver := r.readVer, expert := l.isExpert r, p := r.params.take (needLen op r.readVer r.params) }

/-- The answer of an operation (R336, R337): an error with its logged address and no effect; an error that leaves a trace of
its own (a rejected package, R435); OK or ACCEPTED_PENDING with
the new state and the reply data; or a reply that follows later. -/
inductive Answer where
  | err (status : Byte) (addr : Word)
  | fail (s : State) (status : Byte) (addr : Word)
  | ok (s : State) (data : List Byte)
  | pending (s : State) (data : List Byte)
  | later (s : State)

/-- An operation's meaning at the lane that answers it, and what every other lane that checks the request does with it. -/
abbrev Handler := State → Lane → Call → Answer
/-- The part of a lane that does not answer. -/
abbrev PeerPart := State → Lane → Call → State

/-- Opcode as a logged address. -/
def Call.opAddr (c : Call) : Word := c.op.setWidth 32

/-! ### Replies -/

/-- The status code a version knows in place of a newer one (R370). -/
def substitute (st : Byte) (v : Nat) : Byte :=
  if st = 0x22 ∧ v < ver 3 0 then 0x21 else if st = 0x32 ∧ v < ver 3 1 then 0x31 else st

/-- The version in a reply's header: 2.0 for ERR_VERSION at order 3 (R339), else v. -/
def replyVer (r : Req) : Nat := if r.verMajor = 2 ∨ r.verMajor = 3 then r.readVer else ver 2 0

/-- A reply packet (R336): the echo, the status field, the logged address or the data, and the MAC where the request
passed order 6 in a session. -/
def LaneSt.replyBytes (l : LaneSt) (n : Lane) (op : Half) (r : Req) (st : Byte) (tail : List Byte) : List Byte :=
  let v := replyVer r
  let mac := r.session != 0 && l.macOk op r
  let b := withCrc (packetBytes (v / 256) (v % 256) (0x80 + (if mac then 0x40 else 0)) op r.seq r.target l.epoch
    r.session 0 ([st, BitVec.ofNat 8 (n.num * 16), 0, 0] ++ tail))
  match mac, l.sessionOf r with
  | true, some e => b ++ beBytes 8 (macOf e.kRep r.carriage l.tag true b).toNat
  | _, _ => b

/-- A reply joins the lane's queue of 32; a full queue loses its oldest OK reply, or its oldest reply (R338). -/
def LaneSt.queueReply (l : LaneSt) (okReply : Bool) (b : List Byte) : LaneSt :=
  let q := l.net.replies
  if q.length < 32 then { l with net := { l.net with replies := q ++ [(okReply, b)] } }
  else
    let i := (q.findIdx? (·.1)).getD 0
    { l with net := { l.net with replies := q.eraseIdx i ++ [(okReply, b)] },
             ctr := { l.ctr with drops := satInc l.ctr.drops } }

/-- A reply goes out by the carriage of its request: the lane's queue, or the host port (R338, R344). -/
def State.sendReply (s : State) (n : Lane) (c : Carriage) (okReply : Bool) (b : List Byte) : State :=
  match c with
  | .hiolo _ => s.onLane n (fun l => l.queueReply okReply b)
  | .host => { s with host := { s.host with reply := some b, busy := false } }

/-- The answering lane sends an error reply and writes CMD_REJECTED with the reply's logged address, its sequence, and
status and opcode in the context (R99, R336). -/
def State.replyError (s : State) (n : Lane) (op : Half) (r : Req) (st0 : Byte) (addr : Word) : State :=
  let st := substitute st0 (replyVer r)
  let s := s.sendReply n r.carriage false ((s.lane n).replyBytes n op r st (beBytes 4 addr.toNat))
  s.onLane n (fun l => l.write n s.m.mode s.now
    { code := 0x0101, addr := addr, ctx := BitVec.ofNat 64 (st.toNat * 2 ^ 56 + op.toNat * 2 ^ 40), isReply := true,
      seq := r.seq })

/-- An answer becomes a reply of lane n, formed under the session as it stood when the request came (R336, R365); with
ERRORS_ONLY no OK is sent (R328); a reply that follows later keeps the host port taken (R344). -/
def State.reply (s : State) (n : Lane) (op : Half) (r : Req) (a : Answer) : State :=
  match a with
  | .err st addr => s.replyError n op r st addr
  | .fail s' st addr => s'.replyError n op r st addr
  | .ok s' data =>
    if r.errorsOnly then { s' with host := { s'.host with busy := s'.host.busy && r.carriage != Carriage.host } }
    else s'.sendReply n r.carriage true ((s.lane n).replyBytes n op r 0 data)
  | .pending s' data => s'.sendReply n r.carriage false ((s.lane n).replyBytes n op r 1 data)
  | .later s' => { s' with host := { s'.host with busy := s'.host.busy || r.carriage == Carriage.host } }

/-- Any accepted command in Service restarts its time-out (R275). -/
def State.noteAccepted (s : State) : State := if s.m.mode = .service then s.onM (fun m => { m with svcAt := s.now }) else s

/-- The operations whose effect the Leader distributes to every lane as it answers: image and session changes (R498). -/
def spreads (op : Half) : Bool := [0x0502, 0x0503, 0x0802, 0x0803].contains op

/-- Every running lane notes such a request as applied; the eight newest are kept, more than an interval of R498 can hold. -/
def State.noteSpread (s : State) (op : Half) (r : Req) : State :=
  if spreads op then
    s.onLanes (fun _ l => if l.rst.inReset then l else { l with spread := ((r.session, r.seq, op) :: l.spread).take 8 })
  else s

/-- The answer of lane n to a request it answers: the failing check of orders 3 to 12, FAULT_LANE for an absent lane
(R329), or the operation's own answer. -/
def State.answer (s : State) (n : Lane) (op : Half) (r : Req) (h : Handler) : Answer :=
  match (s.lane n).check s.m.mode op r with
  | some e => .err e.1 e.2
  | none =>
    match Lane.ofCode? r.target with
    | some k => if k ≠ n then .err 0x30 (laneAddr k) else h s n ((s.lane n).call op r)
    | none => h s n ((s.lane n).call op r)

/-- The part of the lane that answers a request (R335): its reply, its note in its session table, and for an accepted command
the restart of the Service time-out. -/
def State.fcpAnswer (s : State) (n : Lane) (op : Half) (r : Req) (h : Handler) : State :=
  let a := s.answer n op r h
  let s' := (s.reply n op r a).onLane n (fun l => l.noteRequest op r s.now)
  match a with
  | .err _ _ => s'
  | .fail _ _ _ => s'
  | _ => (s'.noteSpread op r).noteAccepted

/-- The part of a lane that does not answer: it notes the request in its session table; with no Leader it keeps what the
Leader would answer (R498); where it finds no error it does its own part. -/
def State.fcpOther (s : State) (n : Lane) (ans : Option Lane) (op : Half) (r : Req) (peer : PeerPart) : State :=
  if ans = none then
    s.onLane n (fun l => { l.noteRequest op r s.now with queue := l.queue ++ [(s.now, r, op, l.orders3to7 op r)] })
  else
    let s' := if (s.lane n).check s.m.mode op r = none then peer s n ((s.lane n).call op r) else s
    s'.onLane n (fun l => l.noteRequest op r s.now)

/-- What a running lane does with a request it does not answer (R335, R43): a reply packet counts as foreign (R328); a request
the mode or carriage does not take in is dropped. -/
def State.fcpHear (s : State) (n : Lane) (ans : Option Lane) (op : Half) (r : Req) (peer : PeerPart) : State :=
  if r.isReply then s.onCtr n (fun c => { c with foreign := satInc c.foreign })
  else if takesIn s.m.mode op r = false then s
  else s.fcpOther n ans op r peer

/-- What lane n does with a request that lane ans answers (R335). -/
def State.fcpLane (s : State) (n : Lane) (ans : Option Lane) (op : Half) (r : Req) (h : Handler) (peer : PeerPart) : State :=
  if ans = some n ∧ takesIn s.m.mode op r = true then s.fcpAnswer n op r h else s.fcpHear n ans op r peer

/-- The state once every running lane that does not answer has dealt with the request (R43). -/
def State.fcpPeers (s : State) (ans : Option Lane) (op : Half) (r : Req) (peer : PeerPart) : State :=
  allLanes.foldl (fun s' n =>
    if ans = some n ∨ (s'.lane n).state = .off ∨ (s'.lane n).rst.inReset = true then s'
    else s'.fcpHear n ans op r peer) s

/-- The state in which the answering lane meets a request: the instant taken over, the other lanes done with it. -/
def State.met (s : State) (op : Half) (r : Req) (peer : PeerPart) : State :=
  (s.at_ r.at_).fcpPeers ((s.at_ r.at_).answerer r) op r peer

/-- A request handled by the whole module (R43): every lane that runs checks it, the answering lane last. -/
def State.fcp (s : State) (op : Half) (r : Req) (h : Handler) (peer : PeerPart) : State :=
  match (s.at_ r.at_).answerer r with
  | some n => (s.met op r peer).fcpLane n (some n) op r h peer
  | none => s.met op r peer

/-- A lane that does not answer does nothing more with the request. -/
def noPart : PeerPart := fun s _ _ => s

end Sys2Proof.Machine

namespace Sys2Proof
open Machine

/-- The row's own sub-form: byte i of the parameters stands at b. -/
def Req.withByte (r : Req) (i : Nat) (b : Byte) : Req := { r with params := r.params.set i b }

end Sys2Proof

namespace Sys2Proof.Machine

/-! ### Piecewise reads (R352) -/

/-- The most reply data a packet of this carriage holds. -/
def State.maxData (s : State) (n : Lane) (c : Carriage) : Nat :=
  match c with
  | .hiolo _ => s.ownPMax n - 40
  | .host => 1368

/-- The snapshot of a session and opcode in a lane, while it lasts 1 s. -/
def SecSt.snap (x : SecSt) (session op : Half) (now : Nat) : Option (List Byte) :=
  (x.snaps.find? (fun e => e.1 == session && e.2.1 == op && decide (now ≤ e.2.2.1 + 1000000000))).map (·.2.2.2)

/-- The snapshots with one taken for a session and opcode. -/
def SecSt.putSnap (x : SecSt) (session op : Half) (now : Nat) (b : List Byte) : SecSt :=
  { x with snaps := (session, op, now, b) :: x.snaps.filter (fun e => !(e.1 == session && e.2.1 == op)) }

/-- A piecewise read of a record at an offset (R352): offset 0 takes the snapshot, later offsets read it; an offset not
below the record's length is refused. -/
def State.piecewise (s : State) (n : Lane) (c : Call) (off : Nat) (record : List Byte) : Answer :=
  let kept : Option (List Byte) := if off = 0 then some record else (s.lane n).sec.snap c.r.session c.op s.now
  let b := kept.getD []
  if b.length ≤ off then .err 0x12 (BitVec.ofNat 32 off)
  else
    let s' := if off = 0 then s.onSec n (fun x => x.putSnap c.r.session c.op s.now record) else s
    .ok s' (beBytes 2 b.length ++ beBytes 2 off ++ (b.drop off).take (s.maxData n c.r.carriage - 4))

/-! ### Bytes into packets -/

/-- What the first bytes of a block give: a packet with the rest, or a failure at order 1 or 2 of R335, with the fields its
reply needs. -/
inductive Parsed where
  | packet (op : Half) (r : Req) (rest : List Byte)
  | broken (status : Byte) (op : Half) (r : Req)

/-- One packet from the front of a module block (R327, R335 orders 1 and 2). -/
def parsePacket (t : Nat) (c : Carriage) (b : List Byte) : Parsed :=
  let L := rd b 10 2
  let flags : Byte := BitVec.ofNat 8 (rd b 2 1)
  let M := if flags.getLsbD 6 then 8 else 0
  let op : Half := BitVec.ofNat 16 (rd b 3 2)
  let r : Req :=
    { at_ := t, carriage := c, verMajor := BitVec.ofNat 8 (rd b 0 1), verMinor := BitVec.ofNat 8 (rd b 1 1),
      flags := flags, seq := BitVec.ofNat 16 (rd b 5 2), target := BitVec.ofNat 8 (rd b 7 1),
      epoch := BitVec.ofNat 16 (rd b 8 2), session := BitVec.ofNat 16 (rd b 12 2), reserved := BitVec.ofNat 16 (rd b 14 2), params := (b.drop 16).take L,
      mac := if M = 8 then some (BitVec.ofNat 64 (rd b (20 + L) 8)) else none }
  if b.length < 20 + L + M ∨ 1372 < L then .broken 0x11 op r
  else if crc32c (b.take (16 + L)) ≠ BitVec.ofNat 32 (rd b (16 + L) 4) then .broken 0x19 op r
  else .packet op r (b.drop (20 + L + M))

/-- The packets of a module block, in order; a failure at order 1 or 2 ends the block (R335, R342). -/
def parseBlock (t : Nat) (c : Carriage) : Nat → List Byte → List Parsed
  | 0, _ => []
  | k + 1, b =>
    if b.isEmpty then []
    else match parsePacket t c b with
      | .packet op r rest => .packet op r rest :: parseBlock t c k rest
      | .broken st op r => [.broken st op r]

/-- The module blocks of a command payload that a lane with this tag reads, and whether one overran the payload (R342). -/
def blocksFor (tag : Nat) : Nat → List Byte → List (List Byte) × Bool
  | 0, _ => ([], false)
  | k + 1, b =>
    if b.length < 4 then ([], false)
    else
      let B := rd b 2 2
      if b.length < 4 + B then ([], true)
      else
        let rest := blocksFor tag k (b.drop (4 + B))
        if rd b 0 1 = tag ∨ rd b 0 1 = 0xFF then ((b.drop 4).take B :: rest.1, rest.2) else rest

end Sys2Proof.Machine
end

