-- ==== Sys2Proof/Machine/Sense.lean ====
section
/-! DEFINITION. What the module takes its sensor ports to say: which values count, the agreement between lanes, the
measured steer position, brake force and brake travel, the end-stop indication, and the arming of compare slots
(Position, Force and Switch Inputs; Behaviour After Faults). -/

namespace Sys2Proof.Machine

/-- A percentage of an axis full scale in axis units: the full scale is 2^32 (R37, R216). -/
def pctUnits (q : Rat) : Rat := q * 4294967296 / 100

/-- A clamp force in percent of the force full scale as axis units: SENTB covers the full range of the sensor (R37). -/
def forceUnits (f : Rat) : Rat := -2147483648 + pctUnits f

/-- Kept in the signed 32-bit range (R216, R224). -/
def clamp32 (x : Int) : Int := clampI (-2147483648) 2147483647 x

/-! ### Which values count -/

/-- A SENT port's value is valid as a port value, the agreement checks apart (R217, R382). -/
def LaneSt.sentPortOk (l : LaneSt) (p : SentPort) : Bool :=
  let x := l.sent p
  x.accepted && x.okStatus && !x.errs.getLsbD 0 && !l.sup.svccFault && !x.idWrong && !l.mapBit (10 + p.num)

/-- A QUAD port's position is valid, the agreement checks apart (R224). -/
def LaneSt.quadPortOk (l : LaneSt) : Bool := l.quad.valid && !l.sup.svccFault && !l.mapBit 12

/-- The port values of an axis in the Active lanes as lane n sees them (R85, R91). -/
def State.sentCands (s : State) (n : Lane) (p : SentPort) : List (Lane × Rat) :=
  allLanes.filterMap (fun m =>
    if s.sees n m == .active && (s.lane m).sentPortOk p then some (m, (((s.lane m).sent p).value : Rat)) else none)

/-- Those that are not set aside. -/
def State.sentVals (s : State) (n : Lane) (p : SentPort) : List (Lane × Rat) :=
  (s.sentCands n p).filter (fun v => !((s.lane v.1).sent p).aside)

/-- The referenced brake positions of the Active lanes as lane n sees them (R85, R225). -/
def State.quadCands (s : State) (n : Lane) : List (Lane × Rat) :=
  allLanes.filterMap (fun m =>
    if s.sees n m == .active && (s.lane m).quadPortOk then some (m, ((s.lane m).quad.p : Rat)) else none)

/-- Those that are not set aside. -/
def State.quadVals (s : State) (n : Lane) : List (Lane × Rat) :=
  (s.quadCands n).filter (fun v => !(s.lane v.1).quad.aside)

/-- Three values give their median, two their mean, one itself (R91, R225). -/
def combine (vs : List Rat) : Option Rat :=
  match vs with
  | [a, b, c] => some (median3 a b c)
  | [a, b] => some ((a + b) / 2)
  | [a] => some a
  | _ => none

/-- The values that agree (R91, R225): of three, those within the limit of the median; of two that disagree, the one nearer the
reference, at equal distance that of the lower-numbered lane, none without a reference. -/
def agreeing (lim : Rat) (ref : Option Rat) (vs : List (Lane × Rat)) : List (Lane × Rat) :=
  match vs with
  | [a, b, c] => vs.filter (fun v => absQ (v.2 - median3 a.2 b.2 c.2) ≤ lim)
  | [a, b] =>
    if absQ (a.2 - b.2) ≤ lim then vs
    else match ref with
      | none => []
      | some r => if absQ (b.2 - r) < absQ (a.2 - r) then [b] else [a]
  | _ => vs

/-- The values that stay in use: the one value left is checked against the reference where that is asked for (R91). -/
def inUse (lim : Rat) (ref : Option Rat) (checkSingle : Bool) (vs : List (Lane × Rat)) : List (Lane × Rat) :=
  match agreeing lim ref vs, ref with
  | [a], some r => if checkSingle && decide (lim < absQ (a.2 - r)) then [] else [a]
  | us, _ => us

/-- A value of lane n is set aside (R91, R225). -/
def asideOf (lim : Rat) (ref : Option Rat) (checkSingle : Bool) (vs : List (Lane × Rat)) (n : Lane) : Bool :=
  vs.any (fun v => v.1 == n) && !(inUse lim ref checkSingle vs).any (fun v => v.1 == n)

/-! ### Measured quantities -/

/-- The brake travel p of the module for the checks of R91: the valid values combined, one value alone included. -/
def State.travel (s : State) (n : Lane) : Option Rat := combine ((s.quadVals n).map (·.2))

/-- The module's brake position (R225): the median of three, or the mean of two rounded toward the lower-numbered lane's
value; none with fewer than two. -/
def State.brakePos (s : State) (n : Lane) : Option Int :=
  match s.quadVals n with
  | [a, b, c] => some (median3 a.2 b.2 c.2).floor
  | [a, b] => some (if a.2 ≤ b.2 then ((a.2 + b.2) / 2).floor else -((-(a.2 + b.2) / 2).floor))
  | _ => none

/-- The brake reference of R91: the force that the travel and the learned stiffness give; none before the first
kiss-point learn. Travel p = 0 is the kiss point, at which the force is HOME.B_KISS_FORCE (R254). -/
def State.brakeRef (s : State) (n : Lane) : Option Rat :=
  match (s.lane n).cal.kiss, (s.lane n).cal.stiff, s.travel n with
  | some _, some k, some p => some (forceUnits ((s.lane n).val Key.homeBKissForce) + k * p)
  | _, _, _ => none

/-- The reference of R91 for an axis. -/
def State.sentRef (s : State) (n : Lane) : SentPort → Option Rat
  | .a => (s.lane n).obsAngle
  | .b => s.brakeRef n

/-- The measured value of an axis in axis units (R91): the valid values combined; with none, the reference; before that
exists the manual states no value. -/
def State.measured (s : State) (n : Lane) (x : Axis) : Rat :=
  let p : SentPort := match x with | .s => .a | .b => .b
  ((combine ((s.sentVals n p).map (·.2))).or (s.sentRef n p)).getD (Config.noReading x s.now)

/-- The travel the validated force and the learned stiffness give (R225); none before the first kiss-point learn. -/
def State.quadRef (s : State) (n : Lane) : Option Rat :=
  match (s.lane n).cal.kiss, (s.lane n).cal.stiff with
  | some _, some k =>
    if k = 0 then none
    else some ((s.measured n .b - forceUnits ((s.lane n).val Key.homeBKissForce)) / k)
  | _, _ => none

/-- SENSOR.AGREE of a port, in axis units (R91, R373). -/
def LaneSt.agree (l : LaneSt) : SentPort → Rat
  | .a => pctUnits (l.val Key.sensorAgreeA)
  | .b => pctUnits (l.val Key.sensorAgreeB)

/-- Lane n's own SENT value is outside agreement (R91). -/
def State.sentOut (s : State) (n : Lane) (p : SentPort) : Bool :=
  asideOf ((s.lane n).agree p) (s.sentRef n p) true (s.sentCands n p) n

/-- Lane n's own QUAD value is outside agreement (R225). -/
def State.quadOut (s : State) (n : Lane) : Bool :=
  asideOf ((s.lane n).val Key.quadAgree) (s.quadRef n) false (s.quadCands n) n

/-- Lane n sets its own SENT value aside or takes it back, and logs SENSOR_IMPLAUSIBLE as an episode begins (R91): again only once
the value has been valid at an 8 kHz step, which `step` says this is. -/
def State.agreeSent (s : State) (n : Lane) (p : SentPort) (step : Bool) : State :=
  let out := s.sentOut n p
  let was := ((s.lane n).sent p).told
  let valid := step && !out && (s.lane n).sentPortOk p
  let s := s.onLane n (·.onSent p (fun x => { x with aside := out, told := out || (was && !valid) }))
  if out && !was then s.log n 0x0406 (portAddr n p.num) else s

/-- Lane n sets its own QUAD value aside or takes it back, and logs SENSOR_IMPLAUSIBLE as an episode begins (R91, R225), at an
8 kHz step. -/
def State.agreeQuad (s : State) (n : Lane) : State :=
  let out := s.quadOut n
  let was := (s.lane n).quad.told
  let valid := !out && (s.lane n).quadPortOk
  let s := s.onLane n (fun l => { l with quad := { l.quad with aside := out, told := out || (was && !valid) } })
  if out && !was then s.log n 0x0406 (portAddr n 2) else s

/-! ### End stops -/

/-- The learned end-stop midpoint, or the sensor centre before the first learn (R251, R252). -/
def LaneSt.midStop (l : LaneSt) : Rat :=
  match l.cal.endNeg, l.cal.endPos with
  | some a, some b => ((a + b : Int) : Rat) / 2
  | _, _ => 0

/-- The Active lanes with a valid SW1 (R229). -/
def State.sw1Lanes (s : State) (n : Lane) : List Lane :=
  allLanes.filter (fun m => s.sees n m == .active && (s.lane m).swValid .sw1)

/-- The combined end-stop indication (R229): two of three valid inputs, either of two, or the single one. -/
def State.endStop (s : State) (n : Lane) : Bool :=
  let v := s.sw1Lanes n
  let on := (v.filter (fun m => (s.lane m).sw1.state)).length
  if 3 ≤ v.length then decide (2 ≤ on) else decide (1 ≤ on)

/-- The indicated end is the positive one (R229). -/
def State.endStopPos (s : State) (n : Lane) : Bool := decide ((s.lane n).midStop < s.measured n .s)

/-! ### Compare slots -/

/-- A slot's source is valid in its own lane (R217, R221, R222, R234). -/
def LaneSt.slotValid (l : LaneSt) (c : SlotSt) : Bool := if c.sentA then l.sentPortOk .a else l.quadPortOk

/-- A slot's source value (R230). -/
def LaneSt.slotSource (l : LaneSt) (c : SlotSt) : Int := if c.sentA then l.sentA.value else l.quad.count

/-- The direction of motion of a slot is up (R232): its configured direction, or for "either" the sign of the source's present
speed. -/
def slotUp (c : SlotSt) (speed : Int) : Bool := if c.dir = 0 then true else if c.dir = 1 then false else decide (0 < speed)

/-- The source is at or beyond V in a direction (R232). -/
def slotPast (c : SlotSt) (up : Bool) (src : Int) : Bool := if up then decide (c.value ≤ src) else decide (src ≤ c.value)

/-- The value is behind (R232): the source already at or beyond V in the direction of motion; for "either" no value counts as
behind below 0.5 % of rated electrical speed. -/
def slotBehind (c : SlotSt) (src : Int) (speed : Int) (rated : Rat) : Bool :=
  !(c.dir != 0 && c.dir != 1 && decide (absQ speed < rated / 200)) && slotPast c (slotUp c speed) src

/-- The source crosses the value of a slot on its way from one value to another (R231). -/
def SlotSt.crosses (c : SlotSt) (old new : Int) : Bool :=
  let rise := decide (old < c.value) && decide (c.value ≤ new)
  let fall := decide (c.value < old) && decide (new ≤ c.value)
  if c.dir = 0 then rise else if c.dir = 1 then fall else rise || fall

/-- A slot fires (R231, R233): it latches time and source value, counts, and is reported. -/
def SlotSt.fire (c : SlotSt) (time : Dword) (v : Int) (behind : Bool) : SlotSt :=
  { c with state := 3, fires := c.fires + 1, latchT := time, latchV := BitVec.ofInt 64 v, behind := behind, report := true
           hit := none }

/-- The source of a slot moves from one value to another at a stamp (R231, R232): an armed slot whose value it crosses keeps the
crossing for its firing; one armed behind its value is armed once the source has returned past it. -/
def SlotSt.follow (c : SlotSt) (stamp : Dword) (old new : Int) : SlotSt :=
  if c.state = 1 ∧ c.hit = none ∧ c.crosses old new = true then { c with hit := some (stamp, new) }
  else if c.state = 2 ∧ slotPast c c.up new = false then { c with state := 1 }
  else c

/-- The slots of a lane on one source follow its move (R231). -/
def LaneSt.followSlots (l : LaneSt) (sentA : Bool) (stamp : Dword) (old new : Int) : LaneSt :=
  let f := fun (c : SlotSt) => if c.sentA = sentA then c.follow stamp old new else c
  { l with c0 := f l.c0, c1 := f l.c1, c2 := f l.c2, c3 := f l.c3 }

/-- A crossing a slot keeps fires it (R231, R234). -/
def SlotSt.fireHit (c : SlotSt) : SlotSt :=
  match c.hit with
  | some h => if c.state = 1 then c.fire h.1 h.2 false else { c with hit := none }
  | none => c

/-- A slot arms against the present value of its source (R232, R234); the source's speed is that of its axis. -/
def State.armSlot (s : State) (n : Lane) (k : BitVec 2) : State :=
  let l := s.lane n
  let c := l.slot k
  let x : Axis := if c.sentA then .s else .b
  let up := slotUp c (s.omega n x)
  if l.slotValid c = false then s.onLane n (·.onSlot k (fun c => { c with state := 4 }))
  else if slotBehind c (l.slotSource c) (s.omega n x) (l.rated x) then
    (s.onLane n (·.onSlot k (fun c => { c with state := 2, behind := true, up := up }))).log n 0x0407 (k.setWidth 32)
  else s.onLane n (·.onSlot k (fun c => { c with state := 1, behind := false, up := up }))

/-- The slots of a lane follow the validity of their sources (R234): a crossing found before fires; an armed slot whose source
became invalid is suspended, and a suspended one whose source is valid again arms afresh. -/
def State.reslot (s : State) (n : Lane) : State :=
  [0, 1, 2, 3].foldl (fun s k =>
    let l := s.lane n
    let c := (l.slot k).fireHit
    if (c.state == 1 || c.state == 2) && !l.slotValid c then
      s.onLane n (·.onSlot k (fun c => { c.fireHit with state := 4 }))
    else if c.state == 4 && l.slotValid c then s.armSlot n k
    else s) s

end Sys2Proof.Machine
end

