-- ==== Sys2Proof/Machine/Profile.lean ====
section
/-! DEFINITION. The profile engine: limits, trajectories, stops and holds, and what every motion command shares (Setpoint
Profiles, Homing and Holding; Behaviour After Faults). Times of a trajectory are in seconds, instants global ns. -/

namespace Sys2Proof.Machine

/-! ### Limits (R241, R242) -/

/-- Limits of one axis kind on rate, acceleration and jerk, per s, s^2 and s^3. -/
structure Limits where
  v : Rat
  a : Rat
  j : Rat
  deriving DecidableEq, Repr

/-- A limit of PROFILE_LIMITS, where 0 keeps the parameter (R241, R355). -/
def pickLim (c : Nat) (par : Rat) : Rat := if c = 0 then par else (c : Rat)

/-- Steer position limits in axis units; in Limp the rate is scaled by LIMP.STEER_RATE (R92, R241). -/
def LaneSt.steerLimits (l : LaneSt) (m : ModSt) (md : Mode) : Limits :=
  let v := pctUnits (pickLim m.lim0.1 (l.val Key.profSVmax))
  { v := if md = .limp then v * l.val Key.limpSteerRate / 100 else v
    a := pctUnits (pickLim m.lim0.2.1 (l.val Key.profSAmax))
    j := pctUnits (pickLim m.lim0.2.2 (l.val Key.profSJmax)) }

/-- Brake force limits in axis units (R241). -/
def LaneSt.forceLimits (l : LaneSt) (m : ModSt) : Limits :=
  { v := pctUnits (pickLim m.lim1.1 (l.val Key.profBVmax))
    a := pctUnits (pickLim m.lim1.2.1 (l.val Key.profBAmax))
    j := pctUnits (pickLim m.lim1.2.2 (l.val Key.profBJmax)) }

/-- Brake position limits in QUAD counts; the jerk is PROF.B_JMAX / 100 of HOME.B_MAX_TRAVEL (R242). -/
def LaneSt.travelLimits (l : LaneSt) (m : ModSt) : Limits :=
  { v := pickLim m.lim2.1 (l.val Key.profBPvmax)
    a := pickLim m.lim2.2.1 (l.val Key.profBPamax)
    j := l.val Key.profBJmax / 100 * l.val Key.homeBMaxTravel }

/-- The brake setpoint is a position: modes 1 position and 2 released (R37). -/
def ProfSt.brakeIsPos (p : ProfSt) : Bool := p.bMode == 1 || p.bMode == 2

/-- The limits of the brake setpoint in its present kind. -/
def LaneSt.brakeLimits (l : LaneSt) (m : ModSt) (isPos : Bool) : Limits :=
  if isPos then l.travelLimits m else l.forceLimits m

/-! ### Trajectories (R240, R243, R245) -/

/-- The time a list of segments takes. -/
def segTime (l : List Seg) : Rat := (l.map (·.dur)).sum

/-- Position, rate, acceleration and the segments left after a time dt under piecewise constant jerk. -/
def runSegs : List Seg → Rat → Rat → Rat → Rat → Rat × Rat × Rat × List Seg
  | [], p, v, a, dt => (p + v * dt, v, a, [])
  | g :: r, p, v, a, dt =>
    let k := min dt g.dur
    let p' := p + v * k + a * k * k / 2 + g.jerk * k * k * k / 6
    let v' := v + a * k + g.jerk * k * k / 2
    let a' := a + g.jerk * k
    if dt < g.dur then (p', v', a', { g with dur := g.dur - dt } :: r) else runSegs r p' v' a' (dt - g.dur)

/-- A lane's reading of global time as a number. -/
def State.global (s : State) (n : Lane) : Nat := (s.meridian n).toNat

/-- The present setpoint's 8 kHz step began at this reading (R243, R245); between steps of a lane that runs none, now. -/
def State.stepStart (s : State) (n : Lane) : Nat :=
  match (s.lane n).prof.stepT with
  | some t => if t ≤ s.global n ∧ s.global n < t + 125000 then t else s.global n
  | none => s.global n

/-- The segments with their jerks negated. -/
def negSegs (g : List Seg) : List Seg := g.map (fun x => { x with jerk := -x.jerk })

/-- The three segments that raise a rate by dv and end without acceleration, from an acceleration a that by itself does not carry
the rate beyond: to the highest acceleration that leaves room, constant there, and back to zero (R240). -/
def raiseSegs (dv a amax j : Rat) : List Seg :=
  if amax < a then
    [⟨-j, (a - amax) / j⟩, ⟨0, (dv - a * a / (2 * j)) / amax⟩, ⟨-j, amax / j⟩]
  else
    let p := max a (min amax (sqrtDown (j * dv + a * a / 2)))
    [⟨j, (p - a) / j⟩, ⟨0, if p = 0 then 0 else (dv - (2 * p * p - a * a) / (2 * j)) / p⟩, ⟨-j, p / j⟩]

/-- The three segments from a rate v and acceleration a to the rate w without acceleration, under limits of acceleration and jerk
(R240, R249). -/
def rateSegs (v a w amax j : Rat) : List Seg :=
  if v + a * absQ a / (2 * j) ≤ w then raiseSegs (w - v) a amax j else negSegs (raiseSegs (v - w) (-a) amax j)

/-- The way a list of segments covers from a rate and acceleration. -/
def segWay (g : List Seg) (v a : Rat) : Rat := (runSegs g 0 v a (segTime g)).1

/-- Halving: of a bound that meets a condition and one that does not, k times the half that keeps this. -/
def bisect (ok : Rat → Bool) : Nat → Rat → Rat → Rat × Rat
  | 0, lo, hi => (lo, hi)
  | k + 1, lo, hi => let m := (lo + hi) / 2; if ok m then bisect ok k m hi else bisect ok k lo m

/-- A move over a way d that cruises at the rate w: to that rate, cruise, and the mirror image to rest (R240). -/
def cruiseSegs (v a d w amax j : Rat) : List Seg :=
  let g := rateSegs v a w amax j
  let h := rateSegs w 0 0 amax j
  g ++ [⟨0, if w = 0 then 0 else (d - segWay g v a - segWay h w 0) / w⟩] ++ h

/-- The way such a move covers without its cruise. -/
def shortWay (v a w amax j : Rat) : Rat := segWay (rateSegs v a w amax j) v a + segWay (rateSegs w 0 0 amax j) w 0

/-- The direction of the cruise of a move over a way d: 1, or -1 where coming to rest would already carry beyond (R183, R240). -/
def moveSign (v a d amax j : Rat) : Rat := if shortWay v a 0 amax j ≤ d then 1 else -1

/-- The highest rate at which a move over a way d can cruise: the limit, or where the way is too short for it the rate at which
nothing is left to cruise, found by 64 halvings (R240). -/
def peakRate (v a d vmax amax j : Rat) : Rat :=
  let k := moveSign v a d amax j
  let ok := fun w => decide (k * shortWay v a (k * w) amax j ≤ k * d)
  if ok vmax then vmax else (bisect ok 64 0 vmax).1

/-- The seven segments of a move over a way d in the least time under limits of rate, acceleration and jerk (R240). -/
def moveSegs (v a d : Rat) (m : Limits) : List Seg :=
  cruiseSegs v a d (moveSign v a d m.a m.j * peakRate v a d m.v m.a m.j) m.a m.j

/-- A segment played k times as fast: rate, acceleration and jerk scale by k, k^2, k^3 (R245). -/
def Seg.scale (g : Seg) (k : Rat) : Seg := { jerk := g.jerk * k * k * k, dur := if k = 0 then g.dur else g.dur / k }

/-- The segments of a move over a way d that takes D seconds, at least its least time (R245). From rest the move is scaled by
k = T_min / D. A setpoint that already moves keeps its rate and acceleration (R240), and the move cruises at the rate at which it
ends at the arrival instant. DEDUCED: scaling a move in progress would step its rate. -/
def timedSegs (v a d : Rat) (m : Limits) (D : Rat) : List Seg :=
  let g := moveSegs v a d m
  if D ≤ segTime g then g
  else if v = 0 ∧ a = 0 then g.map (·.scale (segTime g / D))
  else
    let k := moveSign v a d m.a m.j
    let slow := fun w => decide (D < segTime (cruiseSegs v a d (k * w) m.a m.j))
    cruiseSegs v a d (k * (bisect slow 64 0 (peakRate v a d m.v m.a m.j)).2) m.a m.j

/-- A move to a target under limits, planned from the present setpoint, rate and acceleration; it replaces the move in
progress (R240). -/
def AxisProf.moveTo (a : AxisProf) (m : Limits) (target : Rat) (now : Nat) : AxisProf :=
  { a with segs := moveSegs a.rate a.accel (target - a.pos) m, target := target, arrive := none, late := false
           kind := 0, stepAt := now }

/-- A speed as setpoint: the rate goes to it under the limits and stays (R355 kind 1). -/
def AxisProf.speedTo (a : AxisProf) (m : Limits) (speed : Rat) (now : Nat) : AxisProf :=
  { a with segs := rateSegs a.rate a.accel speed m.a m.j, arrive := none, late := false, kind := 1, speed := speed
           stepAt := now }

/-- A torque reference set directly (R355): the setpoint stands. -/
def AxisProf.torqueTo (a : AxisProf) (q : Int) (now : Nat) : AxisProf :=
  { a with segs := [], rate := 0, accel := 0, arrive := none, late := false, kind := 2, torque := q, stepAt := now }

/-- A stop: the rate goes to zero under a deceleration and jerk limit, and the setpoint holds where that ends (R249). -/
def AxisProf.stop (a : AxisProf) (amax j : Rat) (now : Nat) : AxisProf :=
  { a with segs := rateSegs a.rate a.accel 0 amax j, arrive := none, late := false, kind := 3, stepAt := now }

/-- A move that ends exactly at an arrival instant, D seconds from now (R245). -/
def AxisProf.timedTo (a : AxisProf) (m : Limits) (target : Rat) (now : Nat) (D : Rat) (arrive : Nat) (late : Bool) : AxisProf :=
  { a with segs := timedSegs a.rate a.accel (target - a.pos) m D, target := target, arrive := some arrive, late := late
           kind := 0, stepAt := now }

/-- The setpoint at a later reading of global time (R243): at the end of its segments a move stands on its target, a stop
where it ended; a timed move stands on its target from its arrival instant on (R247); the speed kind runs on. -/
def AxisProf.advance (a : AxisProf) (now : Nat) : AxisProf :=
  let r := runSegs a.segs a.pos a.rate a.accel (((now - a.stepAt : Nat) : Rat) / 1000000000)
  let due := match a.arrive with | some t => decide (t ≤ now) | none => r.2.2.2.isEmpty
  if a.kind = 2 then { a with stepAt := now }
  else if a.kind = 1 then
    { a with pos := r.1, rate := if r.2.2.2.isEmpty then a.speed else r.2.1,
             accel := if r.2.2.2.isEmpty then 0 else r.2.2.1, segs := r.2.2.2, stepAt := now }
  else if a.kind = 3 then
    { a with pos := r.1, target := if r.2.2.2.isEmpty then r.1 else a.target, rate := if r.2.2.2.isEmpty then 0 else r.2.1,
             accel := if r.2.2.2.isEmpty then 0 else r.2.2.1, segs := r.2.2.2, stepAt := now }
  else if due then { a with pos := a.target, rate := 0, accel := 0, segs := [], arrive := none, late := false, stepAt := now }
  else { a with pos := r.1, rate := r.2.1, accel := r.2.2.1, segs := r.2.2.2, stepAt := now }

/-- The trajectory has ended: nothing moves the setpoint any more. -/
def AxisProf.resting (a : AxisProf) : Bool := a.segs.isEmpty && a.rate == 0 && a.accel == 0 && a.kind != 2

/-- An axis that leaves direct torque starts from where it stands. -/
def State.steerBase (s : State) (n : Lane) : AxisProf :=
  let a := (s.lane n).prof.steer
  if a.kind = 2 then { a with pos := s.measured n .s, rate := 0, accel := 0 } else a

/-- The brake trajectory in the wanted kind of setpoint: converted to the measured travel or force where the kind changes
(R95, R225). -/
def State.brakeBase (s : State) (n : Lane) (wantPos : Bool) : AxisProf :=
  let p := (s.lane n).prof
  if p.brakeIsPos = wantPos then p.brake
  else
    { p.brake with
      pos := if wantPos then ((s.brakePos n).map (fun x => (x : Rat))).getD ((s.travel n).getD 0) else s.measured n .b
      rate := 0, accel := 0, segs := [] }

/-! ### What a motion command does to a profile engine -/

/-- Steer position. -/
def State.effSteer (s : State) (n : Lane) (target : Rat) : ProfSt :=
  let l := s.lane n
  { l.prof with steer := (s.steerBase n).moveTo (l.steerLimits s.m s.m.mode) target (s.stepStart n) }

/-- Steer speed. -/
def State.effSteerSpeed (s : State) (n : Lane) (speed : Rat) : ProfSt :=
  let l := s.lane n
  { l.prof with steer := (s.steerBase n).speedTo (l.steerLimits s.m s.m.mode) speed (s.stepStart n) }

/-- Steer torque, clamped to T_max (R174). -/
def State.effTorque (s : State) (n : Lane) (q : Int) : ProfSt :=
  let l := s.lane n
  { l.prof with steer := l.prof.steer.torqueTo (clampI (-(s.tMax n .s)) (s.tMax n .s) q) (s.stepStart n) }

/-- A brake target of one setpoint mode (R37): modes 1 and 2 are positions, 0 and 3 forces. -/
def State.effBrake (s : State) (n : Lane) (mode : BitVec 2) (isPos : Bool) (target : Rat) : ProfSt :=
  let l := s.lane n
  { l.prof with bMode := mode, brake := (s.brakeBase n isPos).moveTo (l.brakeLimits s.m isPos) target (s.stepStart n) }

/-- Brake speed in QUAD counts. -/
def State.effBrakeSpeed (s : State) (n : Lane) (speed : Rat) : ProfSt :=
  let l := s.lane n
  { l.prof with bMode := 1, brake := (s.brakeBase n true).speedTo (l.travelLimits s.m) speed (s.stepStart n) }

/-- Steer stop of R249: deceleration PROF.S_STOP_AMAX, jerk PROF.S_JMAX. -/
def State.effSteerStop (s : State) (n : Lane) : ProfSt :=
  let l := s.lane n
  { l.prof with steer := (s.steerBase n).stop (pctUnits (l.val Key.profSStopAmax)) (pctUnits (l.val Key.profSJmax))
                           (s.stepStart n) }

/-- Brake stop of R249: the setpoint rate goes to zero under the brake limits; a park stays a park (R356). -/
def State.effBrakeStop (s : State) (n : Lane) : ProfSt :=
  let l := s.lane n
  let m := l.brakeLimits s.m l.prof.brakeIsPos
  { l.prof with brake := l.prof.brake.stop m.a m.j (s.stepStart n) }

/-- Both axes stop. -/
def State.effStop (s : State) (n : Lane) : ProfSt := { s.effSteerStop n with brake := (s.effBrakeStop n).brake }

/-- The lanes whose profile engines run: the Leader, and the Deputy in shadow (R43, R61). -/
def State.engines (s : State) : List Lane :=
  allLanes.filter (fun n => (s.lane n).role == .leader || (s.lane n).role == .deputy)

/-- An effect on the profile engines of Leader and Deputy at once, for what both plan themselves (R249, R271). -/
def State.onEngines (s : State) (f : State → Lane → ProfSt) : State :=
  s.engines.foldl (fun s n => s.onProf n (fun _ => f s n)) s

/-- A stop of both axes begins (R249). -/
def State.beginStop (s : State) : State := (s.onEngines State.effStop).onM (fun m => { m with stopping := true })

/-! ### Holds and the loss of command -/

/-- The steer hold ends and its timer starts again (R180). -/
def State.endSteerHold (s : State) : State := { s with hold := { s.hold with sOn := false, sSince := none } }

/-- The brake hold ends and its timer starts again (R181). -/
def State.endBrakeHold (s : State) : State := { s with hold := { s.hold with bOn := false, bDone := false, bAgain := false, bSince := none } }

/-- A motion command is applied: hold and loss of command end, and the vehicle-stop request drops unless Limp or hold-only
keeps it (R95, R399). -/
def State.motionApplied (s : State) : State :=
  s.onM (fun m => { m with
    stale := false, loc := false, missed := 0, freshAt := s.now
    stopReq := m.stopReq && (m.mode == .limp || m.holdOnly) })

/-! ### What every motion command is checked against (R353, R356) -/

/-- The first failure of a list of tests, each with its status and logged address. -/
def firstErr (l : List (Bool × Byte × Word)) : Option (Byte × Word) := (l.find? (·.1)).map (·.2)

/-- The axis is being homed (R250). -/
def HomSt.homes (h : HomSt) : Axis → Bool
  | .s => h.axS
  | .b => h.axB

/-- The lowest-numbered lane whose brake position is invalid (R356). -/
def State.badQuad (s : State) (n : Lane) : Lane :=
  (allLanes.find? (fun m => !(s.quadVals n).any (fun v => v.1 == m))).getD .l1

/-- Tests 2 to 6 of R353 for a motion command on some axes: Enable, speed reversal, hold-only (unless exempt), a Leader
whose profile engine is unusable, the kiss point, the sets, the positions, homing. `pos`: the command needs valid brake
positions; `rev`: the command asks for a speed against the present one. -/
def State.motionTests (s : State) (n : Lane) (op : Word) (axes : List Axis) (rev exempt pos unsynced : Bool) :
    List (Bool × Byte × Word) :=
  [(!s.somePermitted n || s.m.stopOn, 0x22, op),
   (rev, 0x20, op),
   (unsynced, 0x21, op),
   (!exempt && s.m.holdOnly, 0x21, op),
   ((s.lane s.scribe).mapBit 3, 0x21, op),
   (pos && (s.lane n).cal.kiss.isNone, 0x21, op)] ++
  axes.map (fun x => (s.usableCount n x == 0, 0x31, setAddr .l1 x)) ++
  [(pos && (s.brakePos n).isNone, 0x32, portAddr (s.badQuad n) 2)] ++
  axes.map (fun x => (s.hom.homes x, 0x18, op))

/-- A speed against the present consensus speed above REVERSE_SPEED (R183). -/
def State.reversal (s : State) (n : Lane) (x : Axis) (speed : Int) : Bool :=
  let w := s.omega n x
  let l := s.lane n
  let lim := l.rated x * l.val (match x with | .s => Key.steerReverseSpeed | .b => Key.brakeReverseSpeed) / 100
  decide (speed * w < 0) && decide (lim < absQ w)

/-- A steer target within the learned end stops less SW.END_BAND at each end; before a learn there are none (R244). -/
def LaneSt.steerOk (l : LaneSt) (target : Int) : Bool :=
  match l.cal.endNeg, l.cal.endPos with
  | some a, some b =>
    let band := pctUnits (l.val Key.swEndBand)
    decide ((a : Rat) + band ≤ target) && decide ((target : Rat) ≤ b - band)
  | _, _ => true

/-- An arrival instant not in the past and within PROF.MAX_HORIZON (R246). -/
def State.arrivalOk (s : State) (n : Lane) (ta : Nat) : Bool :=
  decide (s.stepStart n ≤ ta) && decide (((ta - s.stepStart n : Nat) : Rat) ≤ 1000000000 * (s.lane n).val Key.profMaxHorizon)

/-- The timed moves of a command with a steer target and perhaps a brake target (R245, R246): the profile engine of a lane
with every axis arriving at once, and whether the arrival is late. `brake`: mode, position kind and target. -/
def State.effTimed (s : State) (n : Lane) (steer : Rat) (brake : Option (BitVec 2 × Bool × Rat)) (ta : Nat) :
    ProfSt × Bool :=
  let l := s.lane n
  let now := s.stepStart n
  let a0 := s.steerBase n
  let ls := l.steerLimits s.m s.m.mode
  let tS := segTime (a0.moveTo ls steer now).segs
  let tB := match brake with
    | some (_, isPos, g) => segTime ((s.brakeBase n isPos).moveTo (l.brakeLimits s.m isPos) g now).segs
    | none => 0
  let d : Rat := ((ta - now : Nat) : Rat) / 1000000000
  let tmin := max tS tB
  let late := decide (d < tmin)
  let dd := if late then tmin else d
  let arrive := if late then now + (tmin * 1000000000).ceil.toNat else ta
  let p := { l.prof with steer := a0.timedTo ls steer now dd arrive late }
  (match brake with
   | some (md, isPos, g) =>
     { p with bMode := md, brake := (s.brakeBase n isPos).timedTo (l.brakeLimits s.m isPos) g now dd arrive late }
   | none => p, late)

/-! ### Motion commands at the Leader and the Deputy -/

/-- A motion command's own checks (order 13 of R335). -/
abbrev MotionCheck := State → Lane → Call → Option (Byte × Word)
/-- What a motion command makes of a lane's profile engine, and whether its arrival is late. -/
abbrev MotionEffect := State → Lane → Call → ProfSt × Bool

/-- A service move energises the sets under R179 where none switches yet (R275, R350; the manual does not give the sequence:
that of a load measurement, R376, is used). -/
def State.wakeSets (s : State) : State :=
  let on := allLanes.any (fun m => (s.lane m).s.switching || (s.lane m).b.switching)
  if s.m.mode = .service ∧ s.m.runEntry = 0 ∧ on = false then s.onM (fun m => { m with runEntry := 1, diag := [], acq := [] }) else s

/-- The late-arrival bit follows the moves of a lane's profile engine (R246). -/
def State.noteLate (s : State) (n : Lane) : State :=
  s.onM (fun m => { m with late := (s.lane n).prof.steer.late || (s.lane n).prof.brake.late })

/-- The Leader applies a motion command: its profile engine takes the effect and the command's sequence number; holds and
loss of command end; a late arrival is marked and logged (R43, R95, R180, R181, R246). -/
def State.applyMotion (s : State) (n : Lane) (c : Call) (eff : MotionEffect) (brake : Bool) : State :=
  let e := eff s n c
  let s := (s.onProf n (fun p => { e.1 with lastSeq := c.r.seq, held := p.held })).motionApplied.endSteerHold.wakeSets
  let s := (if brake then s.endBrakeHold else s).noteLate n
  if e.2 then s.log n 0x0B0B c.opAddr else s

/-- The module follows the twin Leader of the other module (R76). -/
def State.twinFollows (s : State) : Bool := s.twin.formed && !s.twin.lead

/-- A lane holds a command it has checked until S2, or TW2 of the twin Leader, reports its sequence number (R43, R76). -/
def State.holdCommand (s : State) (n : Lane) (c : Call) : State :=
  s.onProf n (fun p => { p with held := p.held ++ [(c.r.seq, c.r, c.op)] })

/-- A motion command at the lane that answers (R356): OK without data. The Leader of a module that follows a twin Leader checks it
and holds it as a Deputy does (R76). -/
def motionHandler (chk : MotionCheck) (eff : MotionEffect) (brake : Bool) : Handler := fun s n c =>
  match chk s n c with
  | some e => .err e.1 e.2
  | none => .ok (if s.twinFollows then s.holdCommand n c else s.applyMotion n c eff brake) []

/-- The Deputy holds a motion command it has checked for its shadow (R43). -/
def holdMotion (chk : MotionCheck) : PeerPart := fun s n c =>
  if (s.lane n).role = .deputy ∧ chk s n c = none then s.holdCommand n c else s

end Sys2Proof.Machine
end

