-- ==== Sys2Proof/Machine/Lifecycle.lean ====
section
/-! DEFINITION. The operations that several families share over the life of a lane and of the module: reset, entering and
leaving states and modes, the ends of homing and of measurements, Ready and Dormant entry (Operating Modes and the Enable
Line; Reset, Clocks and the Gap Before Configuration; Boot, Signed Images and Attestation). -/

namespace Sys2Proof.Machine

/-! ### Reset (R413 to R415) -/

/-- The memory regions that survive a reset: MRAM and OTP (R25, R414). -/
def keptCell (c : Host.Cell) : Bool := decide (c.1 < 0x00800000) || decide (0x30000000 ≤ c.1)

/-- A set across a reset: its marks and its measured load stay, everything held in field-engine RAM goes (R112, R414). -/
def SetSt.afterReset (c : SetSt) : SetSt :=
  { unusable := c.unusable, load := c.load, u := { tripped := c.u.tripped, temp := c.u.temp },
    v := { tripped := c.v.tripped, temp := c.v.temp }, w := { tripped := c.w.tripped, temp := c.w.temp } }

/-- The security section across a reset: MRAM and OTP stay, the session table copy and what stands in SRAM go (R414). -/
def SecSt.afterReset (x : SecSt) : SecSt :=
  { x with sessions := [], attest := [], attestAt := none, attestReady := false, attestReq := none, snaps := [], copy := [], fw := none,
           fwHave := false, running := 0 }

/-- A lane across a reset (R414). -/
def LaneSt.afterReset (l : LaneSt) : LaneSt :=
  { ({} : LaneSt) with
    epoch := l.stored, stored := l.stored
    s := l.s.afterReset, b := l.b.afterReset
    net := { adm := l.net.adm, actAlm := l.net.actAlm, pendAlm := l.net.pendAlm, actSecond := l.net.actSecond }
    gey := { l.gey with fw := false }
    sup := { l.sup with svcc := 0, auxSup := 0, auxLink := 0, sums := (0, 0, 0), means := (0, 0), svccOn := false, svccFault := false, svccFold := false, armed := false,
                        resumed := true, level := 0, under := [], above := [], levels := [] }
    rst := l.rst
    ena := { pin := l.ena.pin }
    vote := { caldera := l.vote.caldera, supplyOnly := l.vote.supplyOnly, disps := l.vote.disps,
              dispCtr := l.vote.dispCtr, stay := l.vote.stay }
    rejoin := { fails := l.rejoin.fails }
    log := l.log, logNext := l.logNext, cal := l.cal, stamp := l.stamp, stampBad := l.stampBad
    par := { l.par with working := l.par.committed, commitAt := none }
    sec := l.sec.afterReset
    ctr := { map := l.ctr.map, ecMram := l.ctr.ecMram, ecSram := l.ctr.ecSram, ecFe := l.ctr.ecFe, ecOtp := l.ctr.ecOtp,
             ecBus := l.ctr.ecBus, ecLink := l.ctr.ecLink, savedLife := l.ctr.savedLife,
             runNs := l.ctr.savedLife.1, onNs := l.ctr.savedLife.2.1, cycles := l.ctr.savedLife.2.2.1,
             energy := (l.ctr.savedLife.2.2.2 : Rat) }
    mem := l.mem.filter keptCell, upsets := l.upsets.filter (fun e => keptCell (e.1, 0)), serial := l.serial, base16 := l.base16, keptS := l.keptS, keptB := l.keptB }

/-- The reset section as a cause is asserted (R413, R415): RST_n is driven low; causes 1 and 3 clear the record of failed
qualifications; causes that restart oscillators unqualify the domains; a
power-on loses the wake as well, so that cause 4 stands beside it (DEDUCED), and with cause 3 the copy of the pin states. -/
def ResetSt.assert (r : ResetSt) (k now : Nat) : ResetSt :=
  { r with
    inReset := true
    causes := (if r.causes.contains k then r.causes else k :: r.causes) ++
      (if k = 1 ∧ r.causes.contains 4 = false then [4] else [])
    cause := if r.inReset then min r.cause k else k
    clearAt := now, rstDriven := true, rstHigh := false
    qual := if k = 5 ∨ k = 7 ∨ k = 8 then r.qual else if k = 1 ∨ k = 3 then [] else r.qual.filter (fun d => d == 0)
    lostDom := [], bootStep := 0, bootFailed := none
    fails := if k = 1 ∨ k = 3 then 0 else r.fails, tried := false
    wakeAt := if k = 4 ∨ k = 1 then none else r.wakeAt
    pads := if k = 1 ∨ k = 3 then none else r.pads
    dogForced := false }

/-- Every lane's filtered ENA reads inactive in the Leader's view (R262, R267). -/
def State.allEnaOff (s : State) : Bool := allLanes.all (fun m => !s.seesEna s.scribe m)

/-- The sleep timer follows the Enable lines while the module is in Ready (R267). -/
def State.noteSleep (s : State) : State :=
  s.onM (fun m => { m with sleepAt := if s.allEnaOff then (m.sleepAt.orElse (fun _ => some s.now)) else none })

/-- A lane enters reset by a cause (R413 to R415): legs high-impedance, votes and transmitters stop, what R414 lists is
cleared; causes 1 and 3 clear the Caldera and are the power cycle of R50 and R72. -/
def State.resetLane (s : State) (n : Lane) (k : Nat) : State :=
  let l := s.lane n
  let wasLeader := l.role = .leader
  let wasActive := l.state = .active
  let now := s.now
  let s := (s.abortMeasure n .s).abortMeasure n .b
  let s := s.onLane n (fun l =>
    let x := if l.rst.inReset then l else l.afterReset
    { x with
      state := .off, role := .none
      rst := l.rst.assert k now
      vote := if k = 1 ∨ k = 3 then { x.vote with caldera := false, supplyOnly := false, stay := false } else x.vote
      rejoin := if k = 1 ∨ k = 3 then { x.rejoin with fails := [] } else x.rejoin })
  let s := s.onM (fun m => { m with lostLane := m.lostLane || wasActive, lossAt := if wasLeader then now else m.lossAt })
  if s.m.mode = .ready then s.noteSleep else s

/-- The pin-state word of the fuse map as shipped (R424). -/
def padsWord : Dword := 0xC017

/-- The always-on logic copies the pin-state word, or none where it reads with an uncorrectable result (R424). -/
def LaneSt.copyPads (l : LaneSt) : LaneSt :=
  let p := match l.upsets.find? (fun e => e.1 == 0x30000100) with
    | none => some (padsWord.setWidth 16)
    | some e =>
      let w := XWord.encode padsWord (foldMemory 0x30000100)
      (XWord.decode { data := w.data ^^^ e.2.2.1, check := w.check ^^^ e.2.2.2 } (foldMemory 0x30000100)).map
        (fun d => d.1.setWidth 16)
  { l with rst := { l.rst with pads := p } }

/-- A reset condition of a lane clears; the count of R416 starts again; causes 1 and 3 leave the pin states copied (R424). -/
def State.clearCause (s : State) (n : Lane) (k : Nat) : State :=
  let now := s.now
  let s := s.onRst n (fun r => { r with causes := r.causes.filter (· != k), clearAt := now })
  if k = 1 ∨ k = 3 then s.onLane n LaneSt.copyPads else s

/-! ### Homing and measurements end -/

/-- The axis whose homing runs: steer first, then brake (R250). -/
def HomSt.running (h : HomSt) : Option Axis := if h.axS then some .s else if h.axB then some .b else none

/-- The brake setpoints of an engine follow a change of the position's origin. -/
def ProfSt.shiftBrake (p : ProfSt) (d : Int) : ProfSt :=
  if p.brakeIsPos then { p with brake := { p.brake with pos := p.brake.pos - (d : Rat), target := p.brake.target - (d : Rat) } } else p

/-- The records and references from before step B4 stand again (R256); a setpoint in position mode keeps its place. -/
def State.discardKiss (s : State) : State :=
  let n := s.scribe
  match s.hom.kept.find? (fun e => e.1 == n) with
  | none => s
  | some k =>
    let d := k.2.2.1 - (s.lane n).quad.offset
    let s := s.hom.kept.foldl (fun s e => s.onLane e.1 (fun l => { l with
      cal := e.2.1, quad := { l.quad with offset := e.2.2.1, valid := l.quad.valid && e.2.2.2.1, refd := e.2.2.2.2 } })) s
    let s := s.onEngines (fun s m => ((s.lane m).prof).shiftBrake d)
    allLanes.foldl State.reslot { s with hom := { s.hom with kept := [] } }

/-- The values of an axis's run are discarded and the axis stops under R249 (R256). -/
def State.dropAxis (s : State) (x : Axis) : State :=
  match x with
  | .s => s.onEngines State.effSteerStop
  | .b => s.discardKiss.onEngines State.effBrakeStop

/-- A homing run aborts with a reason (R256): the axis stops, its values are discarded, sets energised in Ready go back to
high-impedance once the stop has ended, and the Leader logs HOMING_ABORT. -/
def State.abortHoming (s : State) (reason : Byte) : State :=
  match s.hom.running with
  | none => s
  | some x =>
    let moved := s.hom.inReady && s.m.runEntry == 0
    let early := s.hom.inReady && s.m.runEntry != 0
    let s := { s with hom := { s.hom with
      axS := false, axB := false, reason := reason, pushSince := none, inReady := false, ending := moved
      steer := if x = Axis.s then 7 else s.hom.steer
      brake := if x = Axis.b then 7 else s.hom.brake } }
    let s := s.dropAxis x
    let s := if early then s.floatAll else s
    s.logLeader 0x0B0A (BitVec.ofNat 32 x.num) (BitVec.ofNat 64 (reason.toNat * 2 ^ 56))

/-- A cable measurement ends with state 0 (R380). -/
def State.endCable (s : State) : State :=
  if s.meas.cableOn then
    { s with meas := { s.meas with
      cableOn := false
      cableRes := s.meas.cableRes.filter (fun r => !(r.1 == s.meas.cableLane && r.2.1 == s.meas.cableChan)) } }
  else s

/-- A BIST run ends early: what was not completed counts as not tested, and the result reads state 2 (R387). -/
def State.endTest (s : State) : State :=
  if s.meas.testOn then
    { s with meas := { s.meas with
      testOn := false, testLanes := []
      testRes := s.meas.testRes.map (fun r => if r.2.1 = 1 then (r.1, 2, r.2.2) else r) } }
  else s

/-! ### Becoming Active, Rejoining -/

/-- A lane enters Rejoining at step 1 (R69): role Member, legs high-impedance; not with its Caldera set, nor while it must
stay Isolated (R72). Its freshness marks are cleared (R285). -/
def State.enterRejoin (s : State) (n : Lane) : State :=
  let l := s.lane n
  if l.vote.caldera || l.vote.stay then s
  else
    let now := s.now
    let s := (s.setRole n .member (if l.leader.isSome then l.leader else s.leader)).takeEffectIn n .rejoining
    s.onLane n (fun l => { l.floatLegs with
      state := .rejoining
      net := { l.net with marks := [] }
      rejoin := { l.rejoin with step := 1, at_ := now, retry := none, copy := false, due := false }
      vote := { l.vote with byVote := false, released := false } })

/-- A lane becomes Active (R69, R436): its Enable test sees the present level (R264). -/
def State.becomeActive (s : State) (n : Lane) : State :=
  let now := s.now
  s.onLane n (fun l => { l with
    state := .active, activeAt := now
    rejoin := { l.rejoin with step := 0, retry := none, copy := false, due := false }
    s := { l.s with ramp := 1 }, b := { l.b with ramp := 1 }
    ena := { l.ena with test := if l.ena.test = 0 ∧ l.ena.filt = false then 1 else l.ena.test } })

/-- Roles are assigned by LEAD.PREFERENCE (R41, R497): the first eligible lane is Leader, the next Deputy, every other
Active lane Member; with no eligible lane the Active lane earliest in the order leads. -/
def State.assignRoles (s : State) : State :=
  let order := (s.order .l1).filter (fun n => (s.lane n).state == .active)
  let el := order.filter (fun n => s.eligible n)
  let lead := (el.head?).or order.head?
  let dep := (el.filter (fun n => some n != lead)).head?
  order.foldl (fun s n =>
    s.setRole n (if some n = lead then .leader else if some n = dep then .deputy else .member) lead) s

/-! ### Calibration stamp (R69, R73) -/

/-- An optional number as bytes. -/
def optBytes (x : Option Int) : List Byte :=
  match x with
  | none => [0]
  | some v => 1 :: beInt 8 v

/-- The learned midpoint (R251). -/
def CalRec.mid (c : CalRec) : Option Rat :=
  match c.endNeg, c.endPos with
  | some a, some b => some (((a + b : Int) : Rat) / 2)
  | _, _ => none

/-- A rational as bytes: numerator and denominator. -/
def ratBytes (x : Option Rat) : List Byte := optBytes (x.map (·.num)) ++ optBytes (x.map (fun q => (q.den : Int)))

/-- The identities of one port in the three lanes as bytes. -/
def idBytes (ids : List (Lane × Dword)) : List Byte :=
  (allLanes.map (fun n => optBytes ((ids.find? (fun e => e.1 == n)).map (fun e => (e.2.toNat : Int))))).flatten

/-- The records that the stamp's hash covers, as bytes (R69): the learned steer end stops and midpoint, the kiss point and the
caliper stiffness, and the stored sensor identities; the QUAD offsets, the stored epoch and the admission record lie outside.
DESIGN CHOICE: the manual lists the records and gives neither their order nor their form, which are this model's: each a byte that
tells whether it is present and eight bytes, a rational as two of them. -/
def CalRec.bytes (c : CalRec) : List Byte :=
  optBytes c.endNeg ++ optBytes c.endPos ++ ratBytes c.mid ++ optBytes c.kiss ++ ratBytes c.stiff ++ idBytes c.idA ++ idBytes c.idB

/-- The calibration stamp of present records and parameter image (R69). -/
def LaneSt.freshStamp (l : LaneSt) : Dword × BitVec 256 := (l.par.vehicle, Config.hash l.cal.bytes)

/-- At Ready entry the Leader compares its stamp with the vehicle identity and the hash of its records (R73). -/
def State.checkStamp (s : State) : State :=
  let l := s.lane s.scribe
  let bad := l.stamp != some l.freshStamp
  s.onLanes (fun _ l => { l with stampBad := bad })

/-! ### Ready entry -/

/-- The package ID of a bank. -/
def SecSt.bank (x : SecSt) (b : BitVec 2) : Option (Word × Byte) := if b = 1 then x.bankA else if b = 2 then x.bankB else none

/-- At Ready entry with every Active lane on the trial package, each records its trial bank as active and the Leader logs
FW_CONFIRMED; the raise then waits for FW.RAISE_DELAY (R443). -/
def State.confirmTrial (s : State) : State :=
  let act := s.actives
  if act.isEmpty = false ∧ act.all (fun n => (s.lane n).sec.trial.isSome && (s.lane n).sec.trial == some (s.lane n).sec.running) then
    let pkg := ((s.lane s.scribe).sec.bank (s.lane s.scribe).sec.running).getD (0, 0)
    let s := act.foldl (fun s n => s.onSec n (fun x => { x with
      active := x.running, trial := none, trialBad := false, raiseDue := (x.bank x.running).map (·.2) })) s
    (s.onM (fun m => { m with runNs := 0 })).logLeader 0x0B17 pkg.1
  else s

/-- At Ready entry after a failed trial the Leader logs FW_ROLLBACK with the restored package (R442). -/
def State.reportRollback (s : State) : State :=
  if allLanes.any (fun n => (s.lane n).sec.trialBad) then
    let pkg := ((s.lane s.scribe).sec.bank (s.lane s.scribe).sec.running).getD (0, 0)
    (s.onLanes (fun _ l => { l with sec := { l.sec with trialBad := false } })).logLeader 0x0A04 pkg.1
  else s

/-- The observers of a set as its legs float: region 3 (R195, R270). -/
def SetSt.idle (c : SetSt) : SetSt :=
  { c.floatLegs with obs := { c.obs with
      region := 3, valid := false, suspect := false, stage := 0, tries := 0, caught := false,
      sweepFrom := none, injRun := 0 } }

/-- A set starts switching (R106, R109, R117, R161, R179): dead time loaded, plateau codes from the factory table, integrators,
residues and the d reference at zero, the counts of its checks afresh, a leg under bootstrap undervoltage with its refresh still
to be tried. DEDUCED: a set that restarts after a suspension (R401) starts in the same way, its codes from the table included; R106
names the start of switching and not this one. -/
def LaneSt.startSet (l : LaneSt) (x : Axis) (c : SetSt) : SetSt :=
  let go := fun (g : LegSt) =>
    { g with kHsOn := Config.gateTable g.temp l.sup.auxLink 0, kHsOff := Config.gateTable g.temp l.sup.auxLink 1
             kLsOn := Config.gateTable g.temp l.sup.auxLink 2, kLsOff := Config.gateTable g.temp l.sup.auxLink 3
             satRuns := [], undo := {}, uvPeriods := if g.uv then 1 else 0, residue := 0, carry := 0, full := false, pulse := false, blocked := false, refresh := g.uv, moved := 0, lossSteps := 0
             duty := 1 / 2, next := 1 / 2, edge := l.halfSteps / 2, edgeUp := l.halfSteps / 2
             nextEdge := l.halfSteps / 2, nextUp := l.halfSteps / 2 }
  { c.onLegs go with
    switching := true, short := false, dead := l.codeN (match x with | .s => Key.gateDeadtimeS | .b => Key.gateDeadtimeB)
    intD := 0, intQ := 0, idRef := 0, peers := none, vdq := (0, 0), vNext := (0, 0), vPast := (0, 0), pending := false, nextBlocked := false, miss := 0, clean := 0
    limited := false, xc1 := 0, xc2 := 0, xc4 := 0, notchIn := [], notchOut := []
    obs := { c.obs with acc := 0, accD := 0, eInj := 0, injRun := 0, psiRun := 0, psiBad := false } }

/-- The module enters Ready (R241, R267, R272): every set high-impedance, stops, holds and requests end, the limits of
PROFILE_LIMITS give way to the parameters, the keys of Ready entry take effect, the stamp is compared, and a firmware trial
is confirmed or reported. -/
def State.enterReady (s : State) : State :=
  let s := s.setMode .ready
  let s := s.onLanes (fun _ l => { l with
    ena := { l.ena with withdrawn := false }
    s := l.s.idle, b := l.b.idle, keptS := if l.conS.at_ = 0 then l.keptS else l.conS.theta
    keptB := if l.conB.at_ = 0 then l.keptB else l.conB.theta
    prof := { l.prof with
      steer := { l.prof.steer with segs := [], rate := 0, accel := 0, arrive := none, late := false, kind := 3 }
      brake := { l.prof.brake with segs := [], rate := 0, accel := 0, arrive := none, late := false, kind := 3 } } })
  let s := s.onM (fun m => { m with
    stopReq := false, stale := false, loc := false, stopOn := false, stopDone := false, stopAs1 := false, stopping := false
    slowSince := none, late := false, runEntry := 0, acq := [], acqEnd := [], polDone := [], diag := [], lim0 := (0, 0, 0), lim1 := (0, 0, 0)
    lim2 := (0, 0, 0), holdOnly := false, missed := 0, sleepAt := none })
  let s := s.endSteerHold.endBrakeHold.takeEffect .readyEntry
  s.checkStamp.confirmTrial.reportRollback.noteSleep

/-- Service ends for Ready (R275): blocks under test are re-initialised, the module enters Ready. -/
def State.leaveService (s : State) : State := s.endTest.endLoad.endCable.enterReady

/-- Service is to end (R275): moves in progress stop under R249 first; with none, Ready is entered at once. -/
def State.endService (s : State) : State :=
  if s.m.mode ≠ .service then s
  else if s.engines.all (fun n => (s.lane n).prof.steer.resting && (s.lane n).prof.brake.resting) then s.leaveService
  else s.beginStop.onM (fun m => { m with pend := .ready })

/-! ### Dormant entry (R267, R332, R393, R405) -/

/-- A lane enters Dormant: lifetime counters written, sessions closed, SVCC_n off, the disconnect open, the bleeder on, the
Enable test PENDING, and reset by cause 4 until its ENA wakes it. -/
def State.sleepLane (s : State) (n : Lane) : State :=
  let s := s.onCtr n (fun c => { c with savedLife := (c.runNs, c.onNs, c.cycles, c.energy.floor.toNat) })
  let s := if (s.lane n).sup.vsup < 4000 then s else s.resetLane n 4
  s.onLane n (fun l => { l with
    sup := { l.sup with disc := 0, bleeder := true, svccOn := false }
    ena := { pin := l.ena.pin }
    sec := { l.sec with sessions := [], snaps := [] }
    rst := { l.rst with cause := 4, causes := if l.rst.causes.contains 4 then l.rst.causes else 4 :: l.rst.causes } })

/-- The module enters Dormant. -/
def State.enterDormant (s : State) : State :=
  let s := s.setMode .dormant
  let s := s.forLanes State.sleepLane
  let s := s.onM (fun m => { ({} : ModSt) with lastNum := m.lastNum })
  { s with hold := {}, hom := {}, meas := {}, twin := {},
           host := { s.host with part := [], index := 0, busy := false } }

/-! ### The safe stop (R271, R272) -/

/-- The stop variant in force (R272). -/
def State.stopMode (s : State) : Nat := (s.lane s.scribe).codeN Key.enaStopMode

/-- A safe stop begins (R271 to R273): homing aborts, the Leader logs SAFE_STOP, and the variant decides: a controlled
stop that holds, one that leads to Ready, or legs off and Ready at once. -/
def State.beginSafeStop (s : State) : State :=
  let s := (s.onM (fun m => { m with stopOn := true, stopDone := false, late := false })).abortHoming 6
  let s := s.logLeader 0x0906 0
  if s.stopMode = 2 then s.floatAll.enterReady
  else if s.stopMode = 1 then s.beginStop.onM (fun m => { m with pend := .ready })
  else s.beginStop

/-- The condition of R271 as the Leader counts it: a stop begins with it; once it has cleared, permission returns at the
end of the stop trajectory, and a Ready transition that only variant 1 asked for is cancelled (R273). -/
def State.reviewStop (s : State) : State :=
  let run := s.m.mode = .run ∨ s.m.mode = .limp
  let due := s.stopDue s.scribe
  if run ∧ s.m.stopOn = false ∧ due = true then s.beginSafeStop
  else if run ∧ s.m.stopOn = true ∧ due = false then
    let s := if s.m.stopAs1 then s else s.onM (fun m => { m with pend := m.mode })
    if s.m.stopping then s else s.onM (fun m => { m with stopOn := false, stopDone := false })
  else s

/-- The Caldera of a lane clears (R50, R413). -/
def State.clearCaldera (s : State) (n : Lane) : State :=
  s.onVote n (fun v => { v with caldera := false, supplyOnly := false })

end Sys2Proof.Machine
end

