-- ==== Sys2Proof/Machine/Memory.lean ====
section
/-! DEFINITION. The lane address space: the bytes that have no field of their own, kept in one canonical form, and the view of
the whole space that the memory form of PARAM_READ gives (The Corner Module R25; Boot R424, R429, R430; R97). -/

namespace Sys2Proof.Machine

/-- What an address that the list does not hold reads as: 0 (DESIGN CHOICE; the manual gives MRAM and SRAM no contents). -/
def Memory.unlisted : Byte := 0

/-- The canonical form: addresses strictly rising, no entry equal to what an unlisted address reads as. -/
def Memory.wf : List Host.Cell → Bool
  | [] => true
  | [c] => c.2 != Memory.unlisted
  | c :: d :: r => c.2 != Memory.unlisted && decide (c.1 < d.1) && Memory.wf (d :: r)

/-- The byte at an address. -/
def Memory.read : List Host.Cell → Nat → Byte
  | [], _ => Memory.unlisted
  | c :: r, a => if c.1 = a then c.2 else Memory.read r a

/-- An entry put where it belongs in the rising order. -/
def Memory.insert (a : Nat) (b : Byte) : List Host.Cell → List Host.Cell
  | [] => [(a, b)]
  | c :: r => if a < c.1 then (a, b) :: c :: r else if a = c.1 then (a, b) :: r else c :: Memory.insert a b r

/-- The list without an address. -/
def Memory.erase (a : Nat) : List Host.Cell → List Host.Cell
  | [] => []
  | c :: r => if c.1 = a then r else c :: Memory.erase a r

/-- One byte written; writing what an unlisted address reads as removes the entry. -/
def Memory.write (m : List Host.Cell) (a : Nat) (b : Byte) : List Host.Cell :=
  if b = Memory.unlisted then Memory.erase a m else Memory.insert a b m

/-- Bytes written from an address on. -/
def Memory.writeBytes (m : List Host.Cell) (a : Nat) : List Byte → List Host.Cell
  | [] => m
  | b :: r => Memory.writeBytes (Memory.write m a b) (a + 1) r

/-- The mapped regions as first and last address (R25). -/
def memRegions : List (Nat × Nat) :=
  [(0, 0x007FFFFF), (0x10000000, 0x100FFFFF), (0x20000000, 0x2000FFFF), (0x30000000, 0x300003FF)]

/-- An address the lane address space maps (R25). -/
def mapped (a : Nat) : Bool := memRegions.any (fun r => decide (r.1 ≤ a) && decide (a ≤ r.2))

/-- An address in the key store (R359). -/
def inKeyStore (a : Nat) : Bool := decide (0x007A0000 ≤ a) && decide (a ≤ 0x007BFFFF)

/-- The identity word of a lane's OTP (R429). -/
def LaneSt.identityWord (l : LaneSt) (n : Lane) : List Byte := beBytes 6 l.serial.toNat ++ [BitVec.ofNat 8 n.num, 1]

/-- An owner slot's 32 bytes; unwritten reads as zero (R429). -/
def ownerBytes (o : Option (BitVec 256)) : List Byte := beBytes 32 ((o.map (·.toNat)).getD 0)

/-- An anti-rollback word with its complement (R430). -/
def rollbackWord (v : Byte) : List Byte := [v, ~~~v, 0, 0, 0, 0, 0, 0]

/-- A byte of the OTP region (R424, R429, R430). -/
def LaneSt.otpByte (l : LaneSt) (n : Lane) (off : Nat) : Byte :=
  if off < 8 then (l.identityWord n).getD off 0
  else if off < 0x28 then (ownerBytes l.sec.owner0).getD (off - 8) 0
  else if off < 0x48 then (ownerBytes l.sec.owner1).getD (off - 0x28) 0
  else if off < 0x50 then (if off = 0x4F ∧ l.sec.retired = true then 1 else 0)
  else if 0x100 ≤ off ∧ off < 0x108 then (beBytes 8 padsWord.toNat).getD (off - 0x100) 0
  else if 0x200 ≤ off then
    let w := (off - 0x200) / 8
    if w < l.sec.rollback.length then (rollbackWord (l.sec.rollback.getD w 0)).getD (off % 8) 0 else 0
  else Memory.read l.mem (0x30000000 + off)

/-- A byte of the fault-log region: the ring position of an entry is fixed by the position of the newest (R97). -/
def LaneSt.logByte (l : LaneSt) (off : Nat) : Byte :=
  let pos := off / 32
  let age := (l.logNext + 4096 - 1 - pos) % 4096
  match l.log[age]? with
  | some e => e.bytes.getD (off % 32) 0
  | none => 0

/-- A copy of the parameter image: the signed base package, then the journal of committed writes, each a key and a value code
(R25, R437). DESIGN CHOICE: the manual does not lay the journal out; 10 bytes a write, in order, after the package. -/
def ParamImg.copyBytes (p : ParamImg) : List Byte :=
  p.pkg ++ (p.committed.map (fun e => beBytes 2 e.1.toNat ++ beInt 8 e.2)).flatten

/-- What stands in the calibration region outside the stamp's hash (R69): the QUAD offsets, the stored epoch and the admission
record. -/
def LaneSt.recordBytes (l : LaneSt) : List Byte :=
  (allLanes.map (fun m => optBytes ((l.cal.offs.find? (fun e => e.1 == m)).map (fun e => e.2)))).flatten ++ beBytes 2 l.stored.toNat ++
  (match l.net.adm with
   | some a => [1] ++ beBytes 4 a.1.toNat ++ [a.2.1.setWidth 8, a.2.2]
   | none => [0])

/-- The calibration region: the records, at 0x100 the stamp, at 0x180 what stands outside the hash (R25, R69). DESIGN CHOICE: the
manual does not lay them out. -/
def LaneSt.calByte (l : LaneSt) (off : Nat) : Byte :=
  if off < 0x100 then l.cal.bytes.getD off 0
  else if 0x180 ≤ off ∧ off < 0x200 then l.recordBytes.getD (off - 0x180) 0
  else match l.stamp with
    | some x => (beBytes 8 x.1.toNat ++ beBytes 32 x.2.toNat).getD (off - 0x100) 0
    | none => 0

/-- The lifetime region: the four lifetime counters as the health record carries them, the unusable-block map, the kept consensus
angles and the boot record (R25, R197, R385, R393, R439). DESIGN CHOICE: the manual does not lay them out. -/
def LaneSt.lifeBytes (l : LaneSt) : List Byte :=
  let v := l.ctr.savedLife
  beBytes 4 (centiHours v.1) ++ beBytes 4 (centiHours v.2.1) ++ beBytes 4 (min 0xFFFFFFFF v.2.2.1) ++
  beBytes 4 (min 0xFFFFFFFF v.2.2.2) ++ beBytes 8 l.ctr.map.toNat ++
  beBytes 2 l.keptS.toNat ++ beBytes 2 l.keptB.toNat ++
  [l.sec.active.setWidth 8, ((l.sec.trial.getD 0).setWidth 8)] ++
  beBytes 4 (l.sec.bankA.getD (0, 0)).1.toNat ++ beBytes 4 (l.sec.bankB.getD (0, 0)).1.toNat

/-- The byte of a lane at an address of its address space (R25). -/
def LaneSt.byteAt (l : LaneSt) (n : Lane) (a : Nat) : Byte :=
  if 0x00700000 ≤ a ∧ a < 0x00740000 then l.par.copyBytes.getD (a % 0x20000) 0
  else if 0x00760000 ≤ a ∧ a < 0x00780000 then l.calByte (a - 0x00760000)
  else if 0x00780000 ≤ a ∧ a < 0x007A0000 then l.logByte (a - 0x00780000)
  else if 0x007C0000 ≤ a ∧ a < 0x007C0040 then l.lifeBytes.getD (a - 0x007C0000) 0
  else if 0x30000000 ≤ a ∧ a < 0x30000400 then l.otpByte n (a - 0x30000000)
  else Memory.read l.mem a

/-- Bytes of a lane from an address on. -/
def LaneSt.bytesAt (l : LaneSt) (n : Lane) (a len : Nat) : List Byte := (List.range len).map (fun i => l.byteAt n (a + i))

/-! ### Checked words (R26 to R28, R30) -/

/-- The word of a lane at a word address, as it was written. -/
def LaneSt.wordAt (l : LaneSt) (n : Lane) (a : Nat) : Dword := BitVec.ofNat 64 (beNat (l.bytesAt n a 8))

/-- The inverted bits of a stored word; a word written anew has none. -/
def LaneSt.upset (l : LaneSt) (n : Lane) (a : Nat) : Option (Dword × Byte) :=
  (l.upsets.find? (fun e => e.1 == a && e.2.1 == l.wordAt n a)).map (·.2.2)

/-- The word as it stands in the memory, with its check bits (R26). -/
def LaneSt.held (l : LaneSt) (n : Lane) (a : Nat) : XWord :=
  let w := XWord.encode (l.wordAt n a) (foldMemory a)
  match l.upset n a with
  | some e => { data := w.data ^^^ e.1, check := w.check ^^^ e.2 }
  | none => w

/-- The word at an address stands in the memory as another one: which bits are inverted now. -/
def LaneSt.store (l : LaneSt) (n : Lane) (a : Nat) (w : XWord) : LaneSt :=
  let c := XWord.encode (l.wordAt n a) (foldMemory a)
  let rest := l.upsets.filter (fun e => e.1 != a)
  { l with upsets := if w = c then rest else (a, c.data, w.data ^^^ c.data, w.check ^^^ c.check) :: rest }

/-- Memory number of a record in the map, and first address and size in bytes of the memory (R25, R385). -/
def memoryOf (a : Nat) : Nat × Nat × Nat :=
  if a < 0x00800000 then (0, 0, 0x00800000)
  else if 0x10000000 ≤ a ∧ a < 0x10100000 then (1, 0x10000000, 0x00100000)
  else if 0x20000000 ≤ a ∧ a < 0x20010000 then (2, 0x20000000, 0x00010000)
  else if 0x30000000 ≤ a ∧ a < 0x30000400 then (3, 0x30000000, 0x400)
  else (4, 0, 0x100000000)

/-- The corrected-error counter of a path counts: the memories 0 to 3, or the internal bus (R27, R30). -/
def CtrSt.corrected (c : CtrSt) (path : Nat) : CtrSt :=
  match path with
  | 0 => { c with ecMram := satInc c.ecMram }
  | 1 => { c with ecSram := satInc c.ecSram }
  | 2 => { c with ecFe := satInc c.ecFe }
  | 3 => { c with ecOtp := satInc c.ecOtp }
  | _ => { c with ecBus := satInc c.ecBus }

/-- The ECC_UE record of the persistent map: the memory, and which of its 4,096 parts holds the word (R28, R385). -/
def eccRecord (map : Dword) (mem loc : Nat) : Dword :=
  (map &&& 0x0000FFFFFFFFFFFF) ||| BitVec.ofNat 64 (2 ^ 63 + mem % 8 * 2 ^ 60 + loc % 4096 * 2 ^ 48)

/-- An uncorrectable word of a lane (R28, R82): recorded in the log, or in the map where the word lies in the fault-log region
itself, and the lane requests its quench. `bus`: on a lane-internal bus. -/
def State.eccFault (s : State) (n : Lane) (a : Nat) (bus : Bool) : State :=
  let m := if bus then (4, 0, 0x100000000) else memoryOf a
  let s := if bus = false ∧ 0x00780000 ≤ a ∧ a < 0x007A0000 then
      s.onCtr n (fun c => { c with map := eccRecord c.map m.1 ((a - m.2.1) * 4096 / m.2.2) })
    else s.log n 0x0802 (BitVec.ofNat 32 a)
  (s.quenchRequest n).checkLimp

/-- One memory word read with its check (R27, R28): the delivered word, a corrected one counted and outside OTP written back;
or none, the access aborted and the lane faulted. -/
def State.readWord (s : State) (n : Lane) (a : Nat) : State × Option Dword :=
  match ((s.lane n).held n a).decode (foldMemory a) with
  | some (d, false) => (s, some d)
  | some (d, true) =>
    let s := s.onCtr n (fun c => c.corrected (memoryOf a).1)
    (if (memoryOf a).1 = 3 then s else s.onLane n (fun l => l.store n a (XWord.encode d (foldMemory a))), some d)
  | none => (s.eccFault n a false, none)

/-- Consecutive words read with their checks, the first uncorrectable one ending the access. -/
def State.readWords (s : State) (n : Lane) : List Nat → State × Option (List Byte)
  | [] => (s, some [])
  | a :: r =>
    let q := s.readWord n a
    match q.2 with
    | none => (q.1, none)
    | some d =>
      let z := q.1.readWords n r
      (z.1, z.2.map (fun b => beBytes 8 d.toNat ++ b))

/-- The addresses of the words that hold bytes a to a + len - 1. -/
def wordsOver (a len : Nat) : List Nat :=
  if len = 0 then [] else (List.range ((a + len - 1) / 8 - a / 8 + 1)).map (fun i => 8 * (a / 8 + i))

/-- Bytes of the lane address space read with the checks of their words (R27, R28). Where no word of the range has an inverted
bit, every check passes and the bytes are those written. -/
def State.readBytes (s : State) (n : Lane) (a len : Nat) : State × Option (List Byte) :=
  if (s.lane n).upsets.all (fun e => !(wordsOver a len).contains e.1) then (s, some ((s.lane n).bytesAt n a len))
  else
    let z := s.readWords n (wordsOver a len)
    (z.1, z.2.map (fun b => (b.drop (a % 8)).take len))

/-- The answer of a command whose reading met an uncorrectable word: nothing is delivered, and the lane answers that it is
faulted (R28; the status is DEDUCED). -/
def faultedRead (s : State) (n : Lane) : Answer := .fail s 0x30 (laneAddr n)

end Sys2Proof.Machine
end

