-- ==== Sys2Proof/Machine/Relay.lean ====
section
/-! DEFINITION. The relay stream of the cross-lane links (Lanes, Votes and Leadership R35, R36; Operating Modes R262; Hiolo
R295, R299 to R301, R321; R374, R437, R440, R449): how items are queued, sent in the relay words of frames and put together
again by the receiver, and the layout of each item.

The Enable item stands first in the relay words of every frame (R262), outside the continuous stream of the other items, which
R301 leaves the rest. DESIGN CHOICE: the manual asks for the Enable item in every frame and for one continuous stream, and does
not say how both hold while a longer item is on its way. -/

namespace Sys2Proof.Machine

/-! ### Items -/

/-- An item: its 16-bit length, which counts the whole item, its type and its content (R36, R299). -/
def mkItem (type : Byte) (body : List Byte) : List Byte := beBytes 2 (3 + body.length) ++ [type] ++ body

/-- The type of an item (R299). -/
def itemType (b : List Byte) : Byte := b.getD 2 0

/-- The types a receiver knows (R299, R321, R374, R437, R440, R449) and the two that this model gives what the manual
sends in the stream without naming a type: 0x60 state snapshot (R45, R62, R69), 0x62 compare
setting (R230). DESIGN CHOICE. -/
def knownTypes : List Byte := [0x01, 0x10, 0x11, 0x12, 0x13, 0x20, 0x30, 0x40, 0x50, 0x51, 0x52, 0x60, 0x62]

/-- An item of a relayed frame, for which R301 reserves capacity. -/
def relayedItem (b : List Byte) : Bool := itemType b == 0x10 || itemType b == 0x11

/-- An item as it stands in the stream: items begin at even offsets. DESIGN CHOICE: else a single byte left in a frame could not
tell padding from a length. -/
def padEven (b : List Byte) : List Byte := if b.length % 2 = 0 then b else b ++ [0]

/-! ### Sending (R35, R36, R301) -/

/-- An item joins those waiting for a peer: relayed frames go before the other items (R301). -/
def LinkIn.push (k : LinkIn) (b : List Byte) : LinkIn :=
  if relayedItem b then
    { k with txq := k.txq.filter relayedItem ++ [b] ++ k.txq.filter (fun x => !relayedItem x) }
  else { k with txq := k.txq ++ [b] }

/-- An item that belongs into the next frame goes before those waiting (R321, R374). -/
def LinkIn.pushFirst (k : LinkIn) (b : List Byte) : LinkIn := { k with txq := b :: k.txq }

/-- A command frame joins them in place of one that has not started (R300). -/
def LinkIn.pushFrame (k : LinkIn) (b : List Byte) : LinkIn :=
  let old := k.txq.filter (fun x => itemType x == 0x10)
  ({ k with txq := k.txq.filter (fun x => itemType x != 0x10), overIn := k.overIn + old.length }).push b

/-- A status item joins them in place of one that has not started (R300). -/
def LinkIn.pushStatus (k : LinkIn) (b : List Byte) : LinkIn :=
  let old := k.txq.filter (fun x => itemType x == 0x11)
  ({ k with txq := k.txq.filter (fun x => itemType x != 0x11), overOut := k.overOut + old.length }).push b

/-- Bytes of the stream for a room: what is left of the item that has started, then the items waiting. -/
def fillStream : Nat → List Byte → List (List Byte) → List Byte × List Byte × List (List Byte)
  | room, part, [] => (part.take room, part.drop room, [])
  | room, part, i :: q =>
    if room ≤ part.length then (part.take room, part.drop room, i :: q)
    else
      let r := fillStream (room - part.length) (padEven i) q
      (part ++ r.1, r.2)

/-- Bytes as words of 64 bits, the last filled with zeros (R9, R36). -/
def packWords : Nat → List Byte → List Dword
  | 0, _ => []
  | n + 1, b => BitVec.ofNat 64 (beNat (b.take 8 ++ List.replicate (8 - (b.take 8).length) 0)) :: packWords n (b.drop 8)

/-- The Enable item of a filtered state (R262). -/
def enableItem (on : Bool) : List Byte := mkItem 0x01 [BitVec.ofNat 8 (bit on)]

/-- The n relay words of the next frame toward a peer: the Enable item, the stream, and padding of zeros (R36, R262). -/
def LinkIn.fillFrame (k : LinkIn) (ena : Bool) (n : Nat) : LinkIn :=
  let r := fillStream (8 * n - 4) k.txPart k.txq
  { k with outRelay := packWords n (enableItem ena ++ r.1), txPart := r.2.1, txq := r.2.2 }

/-- Lane n queues an item for its peer p. -/
def State.pushItem (s : State) (n p : Lane) (b : List Byte) : State := s.onLink p n (·.push b)

/-- Lane n queues an item for each peer. -/
def State.pushBoth (s : State) (n : Lane) (b : List Byte) : State := (s.pushItem n n.lower b).pushItem n n.upper b

/-- Lane n puts an item into its next frame to each peer. -/
def State.pushBothFirst (s : State) (n : Lane) (b : List Byte) : State :=
  (s.onLink n.lower n (·.pushFirst b)).onLink n.upper n (·.pushFirst b)

/-! ### Receiving (R36, R299) -/

/-- The bytes of words, most significant first (R9). -/
def wordBytes (ds : List Dword) : List Byte := (ds.map (fun d => beBytes 8 d.toNat)).flatten

/-- The whole items at the front of the received bytes, and what is left; a length of 0 makes the rest padding, and a length too
short for a type is read as padding too. -/
def deframe : Nat → List Byte → List (List Byte) × List Byte
  | 0, b => ([], b)
  | k + 1, b =>
    if b.length < 2 then ([], b)
    else
      let L := rd b 0 2
      if L < 3 then ([], [])
      else if b.length < L + L % 2 then ([], b)
      else
        let r := deframe k (b.drop (L + L % 2))
        (b.take L :: r.1, r.2)

/-- A received item joins those not yet handled; a report takes the place of an older one of its type: schedule, time, supply and
boot reports and state snapshots. -/
def putItem (q : List (List Byte)) (b : List Byte) : List (List Byte) :=
  (if [0x13, 0x20, 0x40, 0x50, 0x60].contains (itemType b) then q.filter (fun i => itemType i != itemType b) else q) ++ [b]

/-- Stream bytes of a committed frame reach a receiver: whole items of known types wait to be handled, an item that has lost
bytes is dropped. A receiver that has lost its place waits for a frame of padding. -/
def LinkIn.feed (k : LinkIn) (b : List Byte) : LinkIn :=
  if k.rxBad && k.rxb.isEmpty then { k with rxBad := b.any (· != 0) }
  else
    let q := deframe (k.rxb.length + b.length) (k.rxb ++ b)
    let new := if k.rxBad then q.1.drop 1 else q.1
    { k with rxb := q.2, rxBad := k.rxBad && q.1.isEmpty && !q.2.isEmpty
             items := (new.filter (fun i => knownTypes.contains (itemType i))).foldl putItem k.items }

/-- A lost frame takes the place of as many stream bytes: the item they belong to is spoiled, or the receiver has lost its
place. DESIGN CHOICE: the manual does not say how a receiver goes on after a lost frame. -/
def LinkIn.feedLost (k : LinkIn) (len : Nat) : LinkIn :=
  if k.rxBad && k.rxb.isEmpty then k
  else
    let q := deframe (k.rxb.length + len) (k.rxb ++ List.replicate len 0)
    { k with rxb := q.2, rxBad := true }

/-- The relay words of a committed frame: its Enable item, which takes the place of an older one not yet handled, and its part of
the stream (R36, R262). -/
def LinkIn.feedFrame (k : LinkIn) (ds : List Dword) : LinkIn :=
  let b := wordBytes ds
  let k := if itemType b = 0x01 then
      { k with items := k.items.filter (fun i => itemType i != 0x01) ++ [b.take 4] } else k
  k.feed (b.drop 4)

/-- The oldest item of a type that lane dst has received from lane src and not yet handled. -/
def State.nextItem (s : State) (src dst : Lane) (type : Byte) : Option (List Byte) :=
  (s.link src dst).items.find? (fun b => itemType b == type)

/-- That item is handled. -/
def State.dropItem (s : State) (src dst : Lane) (type : Byte) : State :=
  s.onLink src dst (fun k => { k with items := k.items.eraseP (fun b => itemType b == type) })

/-- What lane dst does with the oldest item of a type from lane src; nothing where none has arrived. -/
def State.onNext (s : State) (src dst : Lane) (type : Byte) (f : State → List Byte → State) : State :=
  if src = dst ∨ (s.lane dst).rst.inReset = true then s
  else match s.nextItem src dst type with
    | some b => f (s.dropItem src dst type) b
    | none => s

/-- What lane dst does with an item from lane src. The stream decides which item of a type it is: a command that carries another
content than the oldest item of its type is no arrival, and changes nothing. -/
def State.onItem (s : State) (src dst : Lane) (type : Byte) (item : List Byte) (f : State → List Byte → State) : State :=
  if s.nextItem src dst type = some item then s.onNext src dst type f else s

/-! ### Layouts -/

/-- The Hiolo header and payload of a frame (R282). -/
def frameBytes (f : HFrame) : List Byte :=
  [BitVec.ofNat 8 (f.major.toNat * 16 + f.minor.toNat), f.window.setWidth 8, f.matrix.setWidth 8, f.sender.setWidth 8] ++
  beBytes 2 f.epoch.toNat ++ [BitVec.ofNat 8 (pack [(bit f.sync, 1), (bit f.null, 1), (bit f.caps, 1), (0, 5)]), 0] ++
  beBytes 2 f.fresh.toNat ++ beBytes 2 f.plen.toNat ++ f.payload

/-- A frame read back from its header and payload; a relayed frame has passed the checks of R287 at the peer. -/
def frameOf (b : List Byte) : HFrame :=
  { fcsOk := true, dest := 0x0348494F0000, etherType := 0, cc := 0, dataLen := b.length, sfd := 0
    major := BitVec.ofNat 4 (rd b 0 1 / 16), minor := BitVec.ofNat 4 (rd b 0 1), window := BitVec.ofNat 4 (rd b 1 1)
    matrix := BitVec.ofNat 5 (rd b 2 1), sender := BitVec.ofNat 5 (rd b 3 1), epoch := BitVec.ofNat 16 (rd b 4 2)
    sync := (BitVec.ofNat 8 (rd b 6 1)).getLsbD 7, null := (BitVec.ofNat 8 (rd b 6 1)).getLsbD 6
    caps := (BitVec.ofNat 8 (rd b 6 1)).getLsbD 5, fresh := BitVec.ofNat 16 (rd b 8 2), plen := BitVec.ofNat 16 (rd b 10 2)
    payload := b.drop 12 }

/-- An inbound frame item: channel byte, header and payload (R299). -/
def inboundItem (c : Chan) (f : HFrame) : List Byte := mkItem 0x10 (BitVec.ofNat 8 c.num :: frameBytes f)

/-- An outbound status item: epoch, freshness and status payload (R299). -/
def statusItem (epoch fresh : Half) (payload : List Byte) : List Byte :=
  mkItem 0x11 (beBytes 2 epoch.toNat ++ beBytes 2 fresh.toNat ++ payload)

/-- An Almanac or firmware segment: a 32-bit offset and up to 512 bytes (R295, R299, R440). -/
def segmentItem (type : Byte) (off : Nat) (data : List Byte) : List Byte := mkItem type (beBytes 4 off ++ data.take 512)

/-- The segment items of a package from its first byte on. -/
def segmentItems (type : Byte) (pkg : List Byte) : List (List Byte) :=
  (List.range ((pkg.length + 511) / 512)).map (fun i => segmentItem type (512 * i) (pkg.drop (512 * i)))

/-- A schedule report: active and pending schedule ID and activation time (R295, R299). -/
def scheduleItem (act pend : Word) (time : Dword) : List Byte :=
  mkItem 0x13 (beBytes 4 act.toNat ++ beBytes 4 pend.toNat ++ beBytes 8 time.toNat)

/-- A time item (R321). -/
def timeItemBytes (synced integrated : Bool) (reading : Int) : List Byte :=
  mkItem 0x20 ([BitVec.ofNat 8 (bit synced + 2 * bit integrated)] ++ beInt 8 reading)

/-- A session item (R449). -/
def sessionItemBytes (isOpen : Bool) (e : SessionEntry) : List Byte :=
  mkItem 0x30 ([BitVec.ofNat 8 (bit isOpen)] ++ beBytes 2 e.num.toNat ++
    [BitVec.ofNat 8 (bit e.expert), e.binding, e.slot.setWidth 8, 0] ++ beBytes 2 (e.mark.getD 0).toNat ++
    beBytes 16 e.kReq.toNat ++ beBytes 16 e.kRep.toNat)

/-- A supply item (R374). -/
def supplyItemBytes (e : SupplyEntry) : List Byte :=
  mkItem 0x40 ([BitVec.ofNat 8 (bit e.discOpen)] ++ beBytes 2 e.vsup.toNat ++ beBytes 2 e.link.toNat ++
    beBytes 2 e.svcc.toNat ++ [e.level, 0])

/-- The entry of a supply item. -/
def supplyOf (b : List Byte) : SupplyEntry :=
  { discOpen := (BitVec.ofNat 8 (rd b 3 1)).getLsbD 0, vsup := BitVec.ofNat 16 (rd b 4 2), link := BitVec.ofNat 16 (rd b 6 2)
    svcc := BitVec.ofNat 16 (rd b 8 2), level := BitVec.ofNat 8 (rd b 10 1) }

/-- A boot report (R440). -/
def bootItem (e : BootReport) : List Byte :=
  mkItem 0x50 ([BitVec.ofNat 8 (e.bank.toNat + 4 * bit e.trial + 8 * bit e.trialFailed + 16 * bit e.bootFailed)] ++
    beBytes 4 e.package.toNat ++ [e.version, e.step, 0, 0])

/-- The content of a boot report. -/
def bootOf (b : List Byte) : BootReport :=
  let f : Byte := BitVec.ofNat 8 (rd b 3 1)
  { bank := f.extractLsb' 0 2, trial := f.getLsbD 2, trialFailed := f.getLsbD 3, bootFailed := f.getLsbD 4
    package := BitVec.ofNat 32 (rd b 4 4), version := BitVec.ofNat 8 (rd b 8 1), step := BitVec.ofNat 8 (rd b 9 1) }

/-- A key item: 0 or 1 the owner root keys of that slot, 2 a package; then the Ed25519 key of 32 bytes with the ML-DSA-65 key, or
the package (R437). DESIGN CHOICE: the manual gives the type and what it carries, not the layout. -/
def keyItemBytes (e : KeyContent) : List Byte :=
  match e with
  | .ownerKeys slot ed ml => mkItem 0x52 (slot.setWidth 8 :: (ed ++ ml))
  | .keyPackage p => mkItem 0x52 (2 :: p)

/-- The content of a key item. -/
def keyOf (b : List Byte) : KeyContent :=
  let c := b.drop 4
  if rd b 3 1 < 2 then .ownerKeys (BitVec.ofNat 1 (rd b 3 1)) (c.take 32) (c.drop 32) else .keyPackage c

/-- A snapshot item (R69). The state itself is latched in the sender as plain data; the item carries its S1, S2 and T. DESIGN CHOICE:
the manual gives neither type nor layout. -/
def snapshotItem (p : ProfSt) : List Byte := mkItem 0x60 (beBytes 8 p.s1 ++ beBytes 8 p.s2 ++ beBytes 8 p.tWord)

/-- The snapshot of a lane's state as it stands. -/
def LaneSt.snapshot (l : LaneSt) : Snapshot :=
  { prof := l.prof, weights := (l.code Key.shareWeight1, l.code Key.shareWeight2, l.code Key.shareWeight3), offs := l.cal.offs
    p := if l.quad.valid then some l.quad.p else none, angle := l.obsAngle }

/-- Lane n latches its state for a peer and announces it in the relay stream (R45, R62, R69). -/
def State.sendSnapshot (s : State) (n p : Lane) : State :=
  let l := s.lane n
  (s.onLane n (fun l' => { l' with snaps := (p, l.snapshot) :: l'.snaps.filter (fun e => e.1 != p) })).pushItem n p (snapshotItem l.prof)

/-- The snapshot that lane dst has received from lane src. -/
def State.snapshotFrom (s : State) (src dst : Lane) : Option Snapshot :=
  match s.nextItem src dst 0x60 with
  | some _ => ((s.lane src).snaps.find? (fun e => e.1 == dst)).map (fun e => e.2)
  | none => none

end Sys2Proof.Machine
end

