-- ==== Sys2Proof/Machine/Reset.lean ====
section
/-! DEFINITION. Reset, clocks, Boot and the input disconnect (Reset, Clocks and the Gap Before Configuration; Boot, Signed
Images and Attestation R436 to R442; Lane Supplies R404 to R406; Operating Modes R262, R267 to R269). -/

namespace Sys2Proof.Machine

/-! ### Blocks and domains -/

/-- The BIST mask bit that covers a map bit (R385); where several do, the lowest that Boot runs. -/
def mapTest (k : Nat) : Nat :=
  if k ≤ 1 then 1 else if k = 2 then 0 else if k = 3 then 1 else if k ≤ 5 then 4 else if k ≤ 7 then 5
  else if k ≤ 12 then 2 else 3

/-- A lane marks map bits and logs each new one as BIST_FAIL with a context (R385). -/
def State.failBits (s : State) (n : Lane) (ks : List Nat) (ctx : Nat → Dword) : State :=
  ks.foldl (fun s k => if (s.lane n).mapBit k then s else (s.markBit n k).log n 0x0B11 (BitVec.ofNat 32 k) (ctx k)) s

/-- The map bits of the blocks a clock domain clocks (R385, R419). -/
def domainBits (d : Fin 13) : List Nat :=
  match d.val with
  | 4 => [0, 1]
  | 5 => [0, 1, 8, 9, 10, 11, 12]
  | 6 | 8 => [6]
  | 7 | 9 => [7]
  | 10 => [4]
  | 11 => [5]
  | _ => []

/-- What a lane stops using once bits are set (R386): a channel stays Off, a link end is down. -/
def LaneSt.obeyMap (l : LaneSt) : LaneSt :=
  { l with
    net := { l.net with
      x := if l.mapBit 6 || (l.codeN Key.netChannels).testBit 0 == false then { l.net.x with state := 0 } else l.net.x
      y := if l.mapBit 7 || (l.codeN Key.netChannels).testBit 1 == false then { l.net.y with state := 0 } else l.net.y }
    lo := if l.mapBit 4 then { l.lo with down := true } else l.lo
    hi := if l.mapBit 5 then { l.hi with down := true } else l.hi
    s := if l.setBad .s then l.s.floatLegs else l.s
    b := if l.setBad .b then l.b.floatLegs else l.b }

/-- A lane that runs loses or fails a clock domain (R420, R421): its bits are set, its blocks stop. -/
def State.domainOut (s : State) (n : Lane) (d : Fin 13) : State :=
  let s := s.onRst n (fun r => { r with lostDom := d :: r.lostDom, qual := r.qual.filter (· != d) })
  let s := (s.failBits n (domainBits d) (fun _ => 0)).onLane n LaneSt.obeyMap
  if d = 12 then { s with host := { s.host with silent := true } } else (s.lostSet n).checkLimp

/-- Core and reference clocks are qualified (R419). -/
def ResetSt.coreReady (r : ResetSt) : Bool := [1, 2, 3].all (fun d => r.qual.contains d)

/-- With every other source clear and CLK_CORE qualified the lane stops driving RST_n (R417). -/
def State.readyCore (s : State) (n : Lane) : State :=
  let now := s.now
  s.onRst n (fun r =>
    if r.inReset && r.rstDriven && r.coreReady && r.causes.all (· == 5) then { r with rstDriven := false, extDone := now }
    else r)

/-- A reset whose release condition holds at once: causes 7 and 8 (R413). -/
def State.restart (s : State) (n : Lane) (k : Nat) : State := ((s.resetLane n k).clearCause n k).readyCore n

/-- The comparators of a lane see its supply and its DC link in mV (R395). -/
def State.seeSupply (s : State) (n : Lane) (vsup link : Nat) : State := s.onSup n (fun p => { p with vsup := vsup, link := link })

/-- The effective supply of a lane is seen at or above 10.0 V: causes 1 and 2 end (R403, R413). -/
def State.supplyBack (s : State) (n : Lane) (mv : Nat) : State :=
  let r := (s.lane n).rst
  if r.inReset && decide (10000 ≤ mv) && (r.causes.contains 1 || r.causes.contains 2) then
    ((s.clearCause n 1).clearCause n 2).readyCore n
  else s

/-- A lane in reset whose clocks run: woken, or never waiting for a wake (R413). -/
def ResetSt.clocked (r : ResetSt) : Bool := r.inReset && (r.wakeAt.isSome || !r.causes.contains 4)

/-! ### Wake and precharge (R262, R404) -/

/-- WAKE (R262, R267): ENA active for 1 ms; the lane's precharge and clock qualification begin, and Dormant gives way to
Boot. -/
def execWake (t : Nat) (n : Lane) (held : Nat) (s : State) : Host.Outcome State Fault Refusal :=
  let s := (s.at_ t).onLane n (fun l => { l with ena := { l.ena with pin := true } })
  let r := (s.lane n).rst
  if r.inReset && r.causes.contains 4 && r.wakeAt.isNone && decide (ms 1 ≤ held) then
    let s := s.onLane n (fun l => { l with
      state := .starting
      rst := { l.rst with wakeAt := some t, bootStep := 1, bootFailed := none }
      sup := { l.sup with disc := 1, preAt := t, bleeder := false, geyOpen := false } })
    done (if s.m.mode = .dormant then s.onM (fun m => { m with mode := .boot, pend := .boot, wake0 := some t, held := false }) else s)
  else done s

/-- PRECHARGE_COMPLETE (R404): the link has reached the supply less 2 V within 5 ms of the attempt; the disconnect conducts forward. -/
def execPrechargeComplete (t : Nat) (n : Lane) (vsup : Nat) (mv : Nat) (s : State) : Host.Outcome State Fault Refusal :=
  let s := (s.at_ t).onSup n (fun p => { p with vsup := vsup, link := mv })
  if (s.lane n).sup.disc = 1 ∧ vsup ≤ mv + 2000 ∧ t ≤ (s.lane n).sup.preAt + ms 5 then
    done ((((s.onSup n (fun p => { p with disc := 2 })).clearCause n 4).supplyBack n vsup).readyCore n)
  else done s

/-- PRECHARGE_RETRY (R404): an attempt not complete in 5 ms is repeated every 100 ms, the lane still in reset. -/
def execPrechargeRetry (t : Nat) (n : Lane) (s : State) : Host.Outcome State Fault Refusal :=
  let s := s.at_ t
  let p := (s.lane n).sup
  if p.disc = 1 ∧ p.preAt + ms 100 ≤ t then done (s.onSup n (fun p => { p with preAt := t })) else done s

/-- DISCONNECT_BLOCK (R404): the link above the supply by 20 mV. -/
def execDisconnectBlock (t : Nat) (n : Lane) (vsup : Nat) (mv : Nat) (s : State) : Host.Outcome State Fault Refusal :=
  let s := (s.at_ t).onSup n (fun p => { p with vsup := vsup, link := mv })
  if (s.lane n).sup.disc = 2 ∧ vsup + 20 ≤ mv then done (s.onSup n (fun p => { p with disc := 3 })) else done s

/-- DISCONNECT_CONDUCT_FORWARD (R404, R406): the link falls back below the supply; the firmware Geyser is inhibited. -/
def execDisconnectConductForward (t : Nat) (n : Lane) (vsup : Nat) (mv : Nat) (s : State) :
    Host.Outcome State Fault Refusal :=
  let s := (s.at_ t).onSup n (fun p => { p with vsup := vsup, link := mv })
  if (s.lane n).sup.disc = 3 ∧ mv < vsup then
    done ((s.onSup n (fun p => { p with disc := 2 })).onLane n (fun l => { l with gey := { l.gey with fw := false } }))
  else done s

/-- BLEEDER_OFF (R405): the link below 5 V after Dormant entry. -/
def execBleederOff (t : Nat) (n : Lane) (mv : Nat) (s : State) : Host.Outcome State Fault Refusal :=
  let s := (s.at_ t).onSup n (fun p => { p with link := mv })
  if mv < 5000 then done (s.onSup n (fun p => { p with bleeder := false })) else done s

/-! ### Clock qualification (R419 to R421) -/

/-- A tap period in ps lies within 2 % of its domain's nominal one: 400 ns, of CLK_AON a period of 32.768 kHz (R419). -/
def tapOk (d : Fin 13) (ps : Nat) : Bool :=
  let nom : Nat := if d = 0 then 30517578 else 400000
  decide (50 * ((ps : Int) - nom).natAbs ≤ nom)

/-- The last 256 tap periods of a domain are all good (R419). -/
def tapsQualify (d : Fin 13) (taps : List Nat) : Bool := decide (256 ≤ taps.length) && (taps.take 256).all (tapOk d)

/-- The last four tap periods of a domain all deviate (R421). -/
def tapsLost (d : Fin 13) (taps : List Nat) : Bool := decide (4 ≤ taps.length) && (taps.take 4).all (fun p => !tapOk d p)

/-- QOSC, counted over 256 tap periods of REF, makes 16,384 periods within 1 % (R419). -/
def ratioOk (count : Nat) : Bool := decide (100 * ((count : Int) - 16384).natAbs ≤ 16384)

/-- CLOCK_QUALIFIED (R419): 256 good tap periods; QOSC and REF against each other as well; a domain lost since the last
Boot does not qualify again. With all core clocks qualified cause 6 ends. -/
def execClockQualified (t : Nat) (n : Lane) (d : Fin 13) (taps : List Nat) (count : Nat) (s : State) :
    Host.Outcome State Fault Refusal :=
  let s := s.at_ t
  let r := (s.lane n).rst
  let held := decide (10 ≤ r.fails) && (d == 1 || d == 2 || d == 3)
  if tapsQualify d taps && (ratioOk count || !(d == 1 || d == 2)) && !r.lostDom.contains d && !r.qual.contains d && !held &&
      (r.clocked || !r.inReset) then
    let s := s.onRst n (fun r => { r with qual := d :: r.qual })
    let s := if (s.lane n).rst.coreReady && r.causes.contains 6 then s.clearCause n 6 else s
    done (s.readyCore n)
  else done s

/-- An attempt to qualify domains 1 to 3 has failed, counted once whichever of them fails (R420). -/
def ResetSt.countFail (r : ResetSt) : ResetSt := if r.tried then r else { r with fails := r.fails + 1, tried := true }

/-- CLOCK_QUAL_FAIL (R419, R420): not qualified within 2 ms of its source, or 20 ms for CLK_AON. -/
def execClockQualFail (t : Nat) (n : Lane) (d : Fin 13) (waited : Nat) (s : State) : Host.Outcome State Fault Refusal :=
  let s := s.at_ t
  let r := (s.lane n).rst
  let limit := if d = 0 then ms 20 else ms 2
  let absent := (d == 10 && !(s.lane n).lo.signal) || (d == 11 && !(s.lane n).hi.signal)
  if waited < limit ∨ r.qual.contains d = true ∨ absent = true ∨ (r.clocked = false ∧ r.inReset = true) then done s
  else if d = 0 then done (s.log n 0x0805 0)
  else if d = 1 ∨ d = 2 ∨ d = 3 then
    let s := if r.inReset && r.causes.contains 6 then s else s.resetLane n 6
    done (s.onLane n (fun l => { l with
      state := if 10 ≤ l.rst.countFail.fails then .off else l.state
      rst := { l.rst.countFail with aon := if l.rst.aon.contains d then l.rst.aon else l.rst.aon ++ [d], retryAt := t, wakeAt := r.wakeAt } }))
  else if d = 12 then
    (if s.host.silent then done s else done ((s.domainOut n d).logLeader 0x0805 12))
  else if r.lostDom.contains d then done s
  else done ((s.domainOut n d).log n 0x0805 (BitVec.ofNat 32 d.val))

/-- CLOCK_QUAL_RETRY (R420): every 100 ms the lane tries domains 1 to 3 again, up to 10 failed attempts. -/
def execClockQualRetry (t : Nat) (n : Lane) (s : State) : Host.Outcome State Fault Refusal :=
  let s := s.at_ t
  let r := (s.lane n).rst
  if r.inReset && r.causes.contains 6 && decide (r.fails < 10) && decide (r.retryAt + ms 100 ≤ t) then
    done (s.onRst n (fun r => { r with retryAt := t, tried := false, qual := r.qual.filter (fun d => !(d == 1 || d == 2 || d == 3)) }))
  else done s

/-- CLOCK_LOSS (R421): four consecutive tap periods outside 2 %. -/
def execClockLoss (t : Nat) (n : Lane) (d : Fin 13) (taps : List Nat) (s : State) : Host.Outcome State Fault Refusal :=
  let s := s.at_ t
  let r := (s.lane n).rst
  if tapsLost d taps = false ∨ r.qual.contains d = false ∨ r.inReset = true then done s
  else
    let a : Word := BitVec.ofNat 32 d.val
    if d = 1 ∨ d = 2 ∨ d = 3 then done (((s.log n 0x0806 a).resetLane n 6).checkLimp)
    else if d = 12 then done ((s.domainOut n d).logLeader 0x0806 a)
    else
      let s := if d = 10 ∨ d = 11 then
          let peer := if d = 10 then n.lower else n.upper
          s.onLink peer n (fun k => { k with down := true, downSince := t, lost := 0, good := 0 })
        else if d = 4 ∨ d = 5 then s.onLane n LaneSt.floatLegs else s
      done ((s.domainOut n d).log n 0x0806 a)

/-! ### Reset sources (R413 to R417) -/

/-- Cause number of a source (R413), for the supply from its effective value: 0 at or above 9.0 V, where none is asserted. -/
def causeOf (eff : Nat) : ResetSource → Nat
  | .supply _ _ => if eff < 4000 then 1 else if eff < 9000 then 2 else 0
  | .supplyRestart => 3
  | .wake => 4
  | .external => 5
  | .clock => 6
  | .watchdog => 7
  | .restart => 8

/-- What the comparators see with a source of reset (R395). -/
def State.seeSource (s : State) (n : Lane) : ResetSource → State
  | .supply vsup link => s.seeSupply n vsup link
  | _ => s

/-- RESET_ASSERT (R395, R403, R413 to R415, R496): the lane enters reset; FLT_n and pads take their reset states; the causes that end at
once leave the 20 us count running. -/
def execResetAssert (t : Nat) (n : Lane) (src : ResetSource) (s : State) : Host.Outcome State Fault Refusal :=
  let s := (s.at_ t).seeSource n src
  let k := causeOf (s.lane n).sup.eff src
  let s := if k = 0 then s else if k = 7 ∨ k = 8 then s.restart n k else s.resetLane n k
  let s := if k = 4 ∨ k = 1 then s.onSup n (fun p => { p with disc := 0 }) else s
  done (if k = 0 then s else s.checkLimp)

/-- EXTERNAL_RESET (R417): RST_n low for 1 us or longer asserts cause 5, below 0.2 us is ignored; between, the manual leaves
it to the spread of the filter. -/
def execExternalReset (t : Nat) (n : Lane) (low : Nat) (s : State) : Host.Outcome State Fault Refusal :=
  let s := s.at_ t
  let r := (s.lane n).rst
  let asleep := r.causes.contains 4 && r.wakeAt.isNone
  if asleep || decide (low < 200) then done s
  else if 1000 ≤ low then done ((s.resetLane n 5).checkLimp)
  else
    let hit := Config.rstBand s.free
    let s := { s with free := s.free + 1 }
    done (if hit then (s.resetLane n 5).checkLimp else s)

/-- RST_HANDSHAKE_SAMPLE (R417): 25 us after the lane stops driving RST_n; low is an external reset until the pin reads
high. -/
def execRstHandshakeSample (t : Nat) (n : Lane) (low : Bool) (s : State) : Host.Outcome State Fault Refusal :=
  let s := s.at_ t
  let r := (s.lane n).rst
  if r.inReset && !r.rstDriven && decide (r.extDone + us 25 ≤ t) && r.causes.all (· == 5) then
    if low then
      done (s.onRst n (fun r => { r with
        causes := [5], cause := min r.cause 5, rstHigh := false, clearAt := t }))
    else
      done (s.onRst n (fun r => { r with
        causes := [], rstHigh := true, clearAt := if r.causes.contains 5 then t else r.clearAt }))
  else done s

/-- WATCHDOG (R413): no application cycle start for 2 ms forces the quench request bit. -/
def execWatchdog (t : Nat) (n : Lane) (s : State) : Host.Outcome State Fault Refusal :=
  let s := s.at_ t
  let r := (s.lane n).rst
  if !r.inReset && !r.dogForced && (s.lane n).state != .off && decide (r.appAt + ms 2 ≤ t) then
    done (((s.onRst n (fun r => { r with dogForced := true, dogAt := t })).quenchRequest n).checkLimp)
  else done s

/-- WATCHDOG_RESET (R413): 10 ms after the watchdog trips the lane resets with cause 7. -/
def execWatchdogReset (t : Nat) (n : Lane) (s : State) : Host.Outcome State Fault Refusal :=
  let s := s.at_ t
  let r := (s.lane n).rst
  if r.dogForced && decide (r.dogAt + ms 10 ≤ t) then done ((s.restart n 7).checkLimp) else done s

/-! ### Boot (R436 to R442) -/

/-- A lane that has woken and neither ended its Boot nor failed it, one that retries its precharge or its clock qualification
included, holds the module in Boot (R267, R268). -/
def LaneSt.waits (l : LaneSt) : Bool :=
  l.rst.wakeAt.isSome && l.rst.bootFailed.isNone && decide (l.rst.fails < 10) && (l.state == .off || l.state == .starting)

/-- Boot gives way to Ready (R41, R64, R267): every woken lane has ended its Boot or has had its 500 ms, and one Active lane
is integrated; roles are assigned and the first Leader raises the epoch. -/
def State.tryReady (s : State) : State :=
  let late := match s.m.wake0 with | some a => decide (a + ms 500 ≤ s.now) | none => false
  let wait := allLanes.any (fun n => (s.lane n).waits)
  if s.m.mode = .boot ∧ s.actives.any (fun n => (s.lane n).net.integrated) = true ∧ (wait = false ∨ late = true) then
    let s := s.assignRoles
    let top := (s.actives.map (fun n => (s.lane n).stored)).foldl (fun a b => if newer b a then b else a)
      (s.lane s.scribe).stored
    let s := s.actives.foldl (fun s n => s.adopt n (nextEpoch top)) s
    s.enterReady
  else s

/-- A lane fails Boot at a step (R438): Off, role None, its sensor supply off (R212), its filtered ENA inactive (R262), its links
and hardware Geyser running. -/
def State.failBoot (s : State) (n : Lane) (step : Nat) : State :=
  (s.onLane n (fun l => { l with
    state := .off, role := .none, rst := { l.rst with bootFailed := some step, bootStep := step }
    ena := { l.ena with filt := false }, sup := { l.sup with svccOn := false, svcc := 0 } })).log n 0x0A05
    (BitVec.ofNat 32 step)

/-- A lane's trial fails (R442): logged, reported, and the trial bank no longer tried. -/
def State.failTrial (s : State) (n : Lane) : State :=
  match (s.lane n).sec.trial with
  | none => s
  | some b =>
    let pkg := (((s.lane n).sec.bank b).getD (0, 0)).1
    (s.onSec n (fun x => { x with trial := none, trialBad := true })).log n 0x0A03 pkg

/-- A trial that fails in a running lane restarts it on its previous bank unless it runs that already (R442). -/
def State.dropTrial (s : State) (n : Lane) : State :=
  let x := (s.lane n).sec
  if x.trial.isNone then s
  else
    let s := s.failTrial n
    if x.trial = some x.running then s.restart n 8 else s

/-- An anti-rollback word counts (R430): it reads without an uncorrectable result. -/
def LaneSt.rollbackCounts (l : LaneSt) (i : Nat) (v : Byte) : Bool :=
  let a := 0x30000200 + 8 * i
  let d : Dword := BitVec.ofNat 64 (beNat (rollbackWord v))
  match l.upsets.find? (fun e => e.1 == a && e.2.1 == d) with
  | none => true
  | some e =>
    let w := XWord.encode d (foldMemory a)
    (XWord.decode { data := w.data ^^^ e.2.2.1, check := w.check ^^^ e.2.2.2 } (foldMemory a)).isSome

/-- The anti-rollback counter: the largest counted value, 0 where no word counts (R430). -/
def LaneSt.counter (l : LaneSt) : Nat :=
  (((List.range l.sec.rollback.length).zip l.sec.rollback).filter (fun e => l.rollbackCounts e.1 e.2)).foldl
    (fun a e => max a e.2.toNat) 0

/-- Base address of a bank (R25). -/
def bankBase (k : BitVec 2) : Word := if k = 1 then 0 else 0x00380000

/-- A stored copy that fails its check is logged with the byte address of the offending field (R434, R437, R439, R452). -/
def State.logStored (s : State) (n : Lane) (base : Nat) (fail : Option Nat) : State :=
  match fail with
  | some o => s.log n 0x0A02 (BitVec.ofNat 32 (base + o))
  | none => s

/-- Outside module Boot a lane has completed its own Boot: its Enable test sees the standing level of its filtered ENA (R264). -/
def State.endBoot (s : State) (n : Lane) (on : Bool) : State :=
  s.onLane n (fun l => { l with ena := { l.ena with filt := on, test := if on then 0 else 1 } })

/-- The lanes that take part in the vote-line test (R52, R436 step 9). -/
def State.atStep9 (s : State) : List Lane :=
  allLanes.filter (fun n => (s.lane n).state == .starting && (s.lane n).rst.bootStep == 7 && (s.lane n).rst.bootFailed.isNone &&
    !(s.lane n).rst.inReset)

/-- VOTE_LINE_TEST (R52, R436 steps 9 and 10): once every woken lane has ended step 7, or 500 ms after the first wake edge,
the lanes test their lines and become Active; one whose links are both unusable, or that must stay so, is Isolated (R72, R386). -/
def execVoteLineTest (t : Nat) (seen : List VoteLines) (s : State) : Host.Outcome State Fault Refusal :=
  let s := s.at_ t
  let part := s.atStep9
  let late := match s.m.wake0 with | some a => decide (a + ms 500 ≤ t) | none => false
  let ready := allLanes.all (fun n => part.contains n || !(s.lane n).waits)
  if s.m.mode = .boot ∧ (ready = true ∨ late = true) then
    let s := part.foldl (fun s n =>
      let b := decide (part.length = 3) && seen.any (fun v => v.target == n && v.mismatch)
      let s := s.onVote n (fun v => { v with lineBad := b, untested := part.length != 3 })
      let s := if b then s.log n 0x0605 (laneAddr n) else s
      let s := s.onRst n (fun r => { r with bootStep := 10 })
      if (s.lane n).vote.stay then (s.endBoot n (s.lane n).ena.filt).onLane n (fun l => { l with state := .isolated })
      else if (s.lane n).mapBit 4 && (s.lane n).mapBit 5 then (s.endBoot n (s.lane n).ena.filt).isolate n 0x0702
      else s.becomeActive n) s
    done s.tryReady
  else done s

/-- BOOT_WAIT_TIMEOUT (R268): 500 ms after the first wake edge lanes still retrying no longer hold the module; with no
Active lane and an Enable line active the module stays in Boot, held. -/
def execBootWaitTimeout (t : Nat) (s : State) : Host.Outcome State Fault Refusal :=
  let s := s.at_ t
  let late := match s.m.wake0 with | some a => decide (a + ms 500 ≤ t) | none => false
  if s.m.mode = .boot ∧ late = true then
    let s := if s.actives.isEmpty && allLanes.any (fun n => (s.lane n).ena.pin) then s.onM (fun m => { m with held := true })
      else s
    done s.tryReady
  else done s

/-- BOOT_TO_DORMANT (R267, R268): no lane Active within 500 ms and the wake comparators of all woken lanes inactive for 1 ms. -/
def execBootToDormant (t : Nat) (held : Nat) (s : State) : Host.Outcome State Fault Refusal :=
  let s := s.at_ t
  let late := match s.m.wake0 with | some a => decide (a + ms 500 ≤ t) | none => false
  if s.m.mode = .boot ∧ s.actives.isEmpty = true ∧ late = true ∧ ms 1 ≤ held then
    let s := s.onLanes (fun _ l => { l with ena := { l.ena with pin := false } })
    done s.enterDormant
  else done s

/-! ### Boot reports, firmware copies, keys (R437, R440, R442) -/

/-- The governing package of the boot reports lane n holds, with its own (R440): the highest security version, then the
highest package ID; none while some lane reports a trial. -/
def State.governing (s : State) (n : Lane) : Option (Byte × Word) :=
  let own := ((s.lane n).sec.bank (s.lane n).sec.running).map (fun p => (p.2, p.1))
  let peers := [(s.lane n).lo.boot, (s.lane n).hi.boot].filterMap id
  if (s.lane n).sec.trial.isSome || peers.any (·.trial) then none
  else
    let all := own.toList ++ (peers.filter (fun e => e.bank != 0)).map (fun e => (e.version, e.package))
    all.foldl (fun a b => match a with
      | none => some b
      | some a => if a.1.toNat < b.1.toNat ∨ (a.1 = b.1 ∧ a.2.toNat < b.2.toNat) then some b else some a) none

/-- FW_TRIAL_TIMEOUT (R442): the module not in Ready within 500 ms of the restart fails the trial. -/
def execFwTrialTimeout (t : Nat) (s : State) : Host.Outcome State Fault Refusal :=
  let s := s.at_ t
  if s.m.mode = .boot then
    done (s.forLanes (fun s n =>
      let x := (s.lane n).sec
      if x.trial.isSome ∧ x.trialAt + ms 500 ≤ t then s.dropTrial n else s))
  else done s

end Sys2Proof.Machine
end

