-- ==== Sys2Proof/Machine/Health.lean ====
section
/-! DEFINITION. Health, time status, the fault log commands, scrubbing, lifetime counters and the lockstep comparison (Measuring
the Surroundings and Self-Test R388 to R393; Command Reference R363, R364; The Corner Module R14, R27 to R30). -/

namespace Sys2Proof.Machine

/-! ### HEALTH_READ and TIME_STATUS (R363) -/

/-- The agreed versions of a node identity: FCP and Hiolo, major and minor (R363, R381). -/
def NetSt.version (x : NetSt) (k : Nat) : List Byte :=
  ((x.versions.find? (fun e => e.1.toNat == k)).map (·.2.2)).getD [0, 0, 0, 0]

/-- The record a selector of HEALTH_READ names in a lane: the health record, a port record, the agreed versions. -/
def State.healthOf (s : State) (n : Lane) (sel : Nat) : Option (List Byte) :=
  let l := s.lane n
  if sel = 0 then some (s.healthRecord n)
  else if sel = 0x200 then some (((List.range 32).map l.net.version).flatten)
  else if sel / 16 = 0x10 + n.num then
    match sel % 16 with
    | 0 => some (l.sentRecord n .a)
    | 1 => some (l.sentRecord n .b)
    | 2 => some (l.quadRecord n)
    | 3 => some (l.swRecord n .sw1 s.now)
    | 4 => some (l.swRecord n .sw2 s.now)
    | _ => none
  else none

/-- HEALTH_READ at the lane that answers (R352, R363): an unknown selector, or a port of another lane, is out of range. -/
def handleHealthRead : Handler := fun s n c =>
  let sel := rd c.p 0 2
  let off := if ver 3 1 ≤ c.ver then rd c.p 2 2 else 0
  match s.healthOf n sel with
  | some b => s.piecewise n c off b
  | none => .err 0x12 (if 0x110 ≤ sel ∧ sel ≤ 0x134 then BitVec.ofNat 32 sel else c.opAddr)

/-- HEALTH_READ (R363). -/
def execHealthRead (r : Req) (s : State) : Host.Outcome State Fault Refusal := done (s.fcp 0x0703 r handleHealthRead noPart)

/-- The four kept source values of a lane (R309). -/
def TimeSt.kept (x : TimeSt) : List (Option Int) := [x.s0.kept, x.s1.kept, x.s2.kept, x.s3.kept]

/-- The record of TIME_STATUS (R363). -/
def State.timeRecord (s : State) (n : Lane) : List Byte :=
  let l := s.lane n
  beInt 8 (s.meridian n) ++ beInt 4 (roundAway (l.time.rate * 1000000000)) ++ beInt 4 l.time.lastC ++
  [l.net.x.state.setWidth 8, l.net.y.state.setWidth 8,
   BitVec.ofNat 8 (bit l.time.synced + 2 * bit l.time.fromPeer), BitVec.ofNat 8 l.sources.length] ++
  ((l.time.kept.map (fun v => match v with
    | some d => beInt 4 d
    | none => beBytes 4 0x80000000)).flatten) ++
  beBytes 4 (almId l.net.almanac).toNat ++ beBytes 4 l.net.pendId.toNat ++ beBytes 8 l.net.pendTime

/-- TIME_STATUS at the lane that answers, read piecewise (R352, R363). -/
def handleTimeStatus : Handler := fun s n c => s.piecewise n c (rd c.p 0 2) (s.timeRecord n)

/-- TIME_STATUS (R363). -/
def execTimeStatus (r : Req) (s : State) : Host.Outcome State Fault Refusal := done (s.fcp 0x0A01 r handleTimeStatus noPart)

/-! ### LOG_READ and LOG_CLEAR (R364) -/

/-- Entries of a lane's ring, newest first from an index on, as read from the fault-log region (R27, R28, R97). -/
def State.readEntries (s : State) (n : Lane) (start : Nat) : Nat → State × Option (List Byte)
  | 0 => (s, some [])
  | k + 1 =>
    let pos := ((s.lane n).logNext + 2 * logSize - 1 - start) % logSize
    let q := s.readBytes n (0x00780000 + 32 * pos) 32
    match q.2 with
    | none => (q.1, none)
    | some b =>
      let z := q.1.readEntries n (start + 1) k
      (z.1, z.2.map (fun c => b ++ c))

/-- LOG_READ at the lane that answers (R28, R352, R364, R398). -/
def handleLogRead : Handler := fun s n c =>
  let start := rd c.p 0 2
  let count := rd c.p 2 2
  let log := (s.lane n).log
  let fit := (s.maxData n c.r.carriage - 4) / 32
  if count < 1 ∨ 32 < count then .err 0x12 c.opAddr
  else if log.length ≤ start then .err 0x12 (BitVec.ofNat 32 start)
  else if s.serviceStopped then .err 0x21 c.opAddr
  else if fit = 0 then .err 0x11 c.opAddr
  else
    let k := ((log.drop start).take (min count fit)).length
    let q := s.readEntries n start k
    match q.2 with
    | some b => .ok q.1 (beBytes 2 log.length ++ beBytes 2 k ++ b)
    | none => faultedRead q.1 n

/-- LOG_READ (R364). -/
def execLogRead (r : Req) (s : State) : Host.Outcome State Fault Refusal := done (s.fcp 0x0B01 r handleLogRead noPart)

/-- Scope [1]: the corrected-error counters (R392). -/
def CtrSt.clearEcc (c : CtrSt) : CtrSt :=
  { c with ecMram := 0, ecSram := 0, ecFe := 0, ecOtp := 0, ecBus := 0, ecLink := 0 }

/-- The counters of a set's page and of its legs. -/
def SetSt.clearCounters (c : SetSt) : SetSt :=
  { c.onLegs (fun g => { g with satCount := 0 }) with
    cDefer := 0, cBlock := 0, cPred := 0, cCross := 0, cLate := 0, cClamp := 0, cWin := 0 }

/-- The counters of a channel's pages. -/
def ChanSt.clearCounters (c : ChanSt) : ChanSt :=
  { c with cFcs := 0, cForeign := 0, cVersion := 0, cLength := 0, cPosition := 0, cOwner := 0, cFlags := 0, cCrossed := 0,
           cRefFmt := 0, cAccept := 0, cBlocked := 0, cArb := 0 }

/-- The counters of a SENT port. -/
def SentSt.clearCounters (x : SentSt) : SentSt := { x with cDiscard := 0, cTimeout := 0, cAccept := 0, cSerial := 0 }

/-- Scope [2]: port, channel and link counters and the other counter pages (R364, R392). -/
def LaneSt.clearCounters (l : LaneSt) : LaneSt :=
  { l with
    ctr := { l.ctr with overwritten := 0, stale := 0, linkLo := 0, linkHi := 0, logOver := 0, reseeds := 0, foreign := 0,
                        drops := 0, relayDrops := 0 }
    vote := { l.vote with falseVotes := 0 }
    s := l.s.clearCounters, b := l.b.clearCounters
    net := { l.net with x := l.net.x.clearCounters, y := l.net.y.clearCounters }
    sentA := l.sentA.clearCounters, sentB := l.sentB.clearCounters
    quad := { l.quad with qerr := 0 } }

/-- Scope [0]: the fault log and the ECC_UE record of the map (R28, R385). -/
def LaneSt.clearLog (l : LaneSt) : LaneSt :=
  { l with log := [], logNext := 0, ctr := { l.ctr with map := l.ctr.map &&& 0x0000FFFFFFFFFFFF } }

/-- A lane clears by scope and writes LOG_CLEARED (R364). -/
def State.clearLane (s : State) (n : Lane) (scope : Byte) (session : Half) : State :=
  let s := s.onLane n (fun l =>
    let l := if scope.getLsbD 0 then l.clearLog else l
    let l := if scope.getLsbD 1 then { l with ctr := l.ctr.clearEcc } else l
    if scope.getLsbD 2 then l.clearCounters else l)
  s.log n 0x0B10 (scope.setWidth 32) (BitVec.ofNat 64 (session.toNat * 2 ^ 48))

/-- Some lanes clear by scope; scope [2] with the Leader among them clears the host-port counter as well (R364). -/
def State.clearLanes (s : State) (ls : List Lane) (scope : Byte) (session : Half) : State :=
  let s := ls.foldl (fun (s : State) m => s.clearLane m scope session) s
  if scope.getLsbD 2 && ls.contains s.scribe then { s with host := { s.host with cSeg := 0 } } else s

/-- LOG_CLEAR at the lane that answers (R364): target M clears every Active lane. -/
def handleLogClear : Handler := fun s n c =>
  let scope : Byte := BitVec.ofNat 8 (rd c.p 0 1)
  if scope &&& 7 = 0 then .err 0x12 c.opAddr
  else
    .ok (s.clearLanes (if c.r.target = 0 then s.actives else [n]) scope c.r.session) []

/-- LOG_CLEAR (R364). -/
def execLogClear (r : Req) (s : State) : Host.Outcome State Fault Refusal := done (s.fcp 0x0B02 r handleLogClear noPart)

/-! ### Health publication and lifetime (R389, R392, R393) -/

/-- HEALTH_RECORD_LATCH (R389, R392): at matrix position 0 the lane counts the matrix cycle, latches its record with the next
counter page, and has four pieces to publish. -/
def execHealthRecordLatch (t : Nat) (n : Lane) (s : State) : Host.Outcome State Fault Refusal :=
  let s := s.at_ t
  if (s.lane n).state = .off then done s
  else
    let m := if (s.lane n).ctr.record.isEmpty then 0 else (s.lane n).net.mtrx + 1
    let s := s.onLane n (fun l => { l with net := { l.net with mtrx := m }, ctr := { l.ctr with page := m % 9 } })
    let b := s.healthRecord n
    done (s.onCtr n (fun c => { c with
      record := b, pieces := (List.range 4).map (fun j => (b.drop (16 * j)).take 16) }))

/-- LIFETIME_COUNTER_WRITE (R393): every 10 min. -/
def execLifetimeCounterWrite (t : Nat) (n : Lane) (s : State) : Host.Outcome State Fault Refusal :=
  let s := s.at_ t
  if (s.lane n).rst.inReset = false ∧ (s.lane n).ctr.lifeAt + ms 600000 ≤ t then
    done (s.onCtr n (fun c => { c with savedLife := (c.runNs, c.onNs, c.cycles, c.energy.floor.toNat), lifeAt := t }))
  else done s

/-- One step of the thermal-cycle counter on a reading in 1/16 C (R393). -/
def CtrSt.thermal (c : CtrSt) (t : Int) : CtrSt :=
  let lo := min (c.tLo.getD t) t
  let hi := max (c.tHi.getD t) t
  let armed := c.tArmed || decide (lo + 640 ≤ t)
  if armed && decide (t ≤ hi - 640) then { c with cycles := c.cycles + 1, tLo := some t, tHi := some t, tArmed := false }
  else { c with tLo := some lo, tHi := some hi, tArmed := armed }

/-- THERMAL_CYCLE_SAMPLE (R393). -/
def execThermalCycleSample (t : Nat) (n : Lane) (s : State) : Host.Outcome State Fault Refusal :=
  let s := s.at_ t
  done (s.onLane n (fun l => if l.rst.inReset then l else { l with ctr := l.ctr.thermal l.base16 }))

/-! ### Protected memory and the lockstep cores (R14, R27, R28, R30) -/

/-- MEMORY_SCRUB (R26 to R28, R30): a memory word is read with the bits inverted since it was written, or a bus beat is checked.
A corrected word is counted and, in a memory other than OTP, written back; an uncorrectable one is recorded and faults the
lane. -/
def execMemoryScrub (t : Nat) (n : Lane) (a : Word) (e : BitErrors) (s : State) :
    Host.Outcome State Fault Refusal :=
  let s := s.at_ t
  let at_ := a.toNat / 8 * 8
  if (s.lane n).rst.inReset = true ∨ mapped at_ = false then done s
  else if e.bus then
    let w := XWord.encode ((s.lane n).wordAt n at_) (foldBus at_)
    match XWord.decode { data := w.data ^^^ e.data, check := w.check ^^^ e.check } (foldBus at_) with
    | some (_, false) => done s
    | some (_, true) => done (s.onCtr n (fun c => c.corrected 4))
    | none => done (s.eccFault n at_ true)
  else
    let w := (s.lane n).held n at_
    let s := s.onLane n (fun l => l.store n at_ { data := w.data ^^^ e.data, check := w.check ^^^ e.check })
    done (s.readWord n at_).1

/-- LOCKSTEP_MISMATCH (R14, R82): the differing output is blocked, logged, and the lane is faulted. -/
def execLockstepMismatch (t : Nat) (n : Lane) (a : Word) (s : State) : Host.Outcome State Fault Refusal :=
  let s := s.at_ t
  if (s.lane n).rst.inReset then done s else done (((s.log n 0x0801 a).quenchRequest n).checkLimp)

end Sys2Proof.Machine
end

