-- ==== Sys2Proof/Machine/Motion.lean ====
section
/-! DEFINITION. The motion commands of groups Steer, Brake and Profile, and their application in the Deputy's shadow
(Command Reference R355, R356; Setpoint Profiles, Homing and Holding). -/

namespace Sys2Proof.Machine

/-- The kind byte of STEER_ANGLE and BRAKE_POSITION; 0 for a partner older than 3.0 (R355). -/
def Call.kindByte (c : Call) : Nat := if c.ver < Machine.ver 3 0 then 0 else rd c.p 4 1

/-- The signed 32-bit field at an offset as a rational. -/
def Call.q (c : Call) (off : Nat) : Rat := (rdI c.p off 4 : Rat)

/-! ### Steer -/

/-- STEER_ANGLE's checks (R183, R244, R355). -/
def chkSteerAngle : MotionCheck := fun s n c =>
  let l := s.lane n
  let k := c.kindByte
  let v := rdI c.p 0 4
  firstErr ([(decide (1 < k), 0x12, c.opAddr), (k == 1 && s.m.mode != .service, 0x13, c.opAddr),
    (k == 0 && !l.steerOk v, 0x12, c.opAddr),
    (k == 1 && decide (pctUnits (l.val Key.profSVmax) < absQ (v * 1000)), 0x12, Key.profSVmax.setWidth 32)] ++
    s.motionTests n c.opAddr [.s] (k == 1 && s.reversal n .s v) false false false)

/-- STEER_ANGLE's effect (R240, R355). -/
def effSteerAngle : MotionEffect := fun s n c =>
  (if c.kindByte = 1 then s.effSteerSpeed n (c.q 0 * 1000) else s.effSteer n (c.q 0), false)

/-- STEER_ANGLE (R355). -/
def execSteerAngle (r : Req) (s : State) : Host.Outcome State Fault Refusal :=
  done (s.fcp 0x0201 r (motionHandler chkSteerAngle effSteerAngle false) (holdMotion chkSteerAngle))

/-- STEER_TORQUE's checks (R355, R356). -/
def chkSteerTorque : MotionCheck := fun s n c => firstErr (s.motionTests n c.opAddr [.s] false false false false)

/-- STEER_TORQUE's effect: the reference clamped to T_max, not refused (R174, R355). -/
def effSteerTorque : MotionEffect := fun s n c => (s.effTorque n (rdI c.p 0 4), false)

/-- STEER_TORQUE (R355). -/
def execSteerTorque (r : Req) (s : State) : Host.Outcome State Fault Refusal :=
  done (s.fcp 0x0202 r (motionHandler chkSteerTorque effSteerTorque false) (holdMotion chkSteerTorque))

/-- STEER_MOVE_AT's checks (R244, R246). -/
def chkSteerMoveAt : MotionCheck := fun s n c =>
  firstErr ([(!(s.lane n).steerOk (rdI c.p 0 4), 0x12, c.opAddr), (!s.arrivalOk n (rd c.p 8 8), 0x12, c.opAddr)] ++
    s.motionTests n c.opAddr [.s] false false false (!(s.lane n).time.synced))

/-- STEER_MOVE_AT's effect (R245). -/
def effSteerMoveAt : MotionEffect := fun s n c => s.effTimed n (c.q 0) none (rd c.p 8 8)

/-- STEER_MOVE_AT (R245). -/
def execSteerMoveAt (r : Req) (s : State) : Host.Outcome State Fault Refusal :=
  done (s.fcp 0x0203 r (motionHandler chkSteerMoveAt effSteerMoveAt false) (holdMotion chkSteerMoveAt))

/-- STEER_HOLD's checks: accepted while hold-only (R399). -/
def chkSteerHold : MotionCheck := fun s n c => firstErr (s.motionTests n c.opAddr [.s] false true false false)

/-- STEER_HOLD's effect: the steer stop of R249. -/
def effSteerHold : MotionEffect := fun s n _ => (s.effSteerStop n, false)

/-- STEER_HOLD (R249). -/
def execSteerHold (r : Req) (s : State) : Host.Outcome State Fault Refusal :=
  done (s.fcp 0x0204 r (motionHandler chkSteerHold effSteerHold false) (holdMotion chkSteerHold))

/-! ### Brake -/

/-- BRAKE_FORCE's checks: any target (R355). -/
def chkBrakeForce : MotionCheck := fun s n c => firstErr (s.motionTests n c.opAddr [.b] false false false false)

/-- BRAKE_FORCE's effect. -/
def effBrakeForce : MotionEffect := fun s n c => (s.effBrake n 0 false (c.q 0), false)

/-- BRAKE_FORCE (R355). -/
def execBrakeForce (r : Req) (s : State) : Host.Outcome State Fault Refusal :=
  done (s.fcp 0x0301 r (motionHandler chkBrakeForce effBrakeForce true) (holdMotion chkBrakeForce))

/-- BRAKE_POSITION's checks (R183, R355, R356). -/
def chkBrakePosition : MotionCheck := fun s n c =>
  let k := c.kindByte
  let v := rdI c.p 0 4
  firstErr ([(decide (1 < k), 0x12, c.opAddr), (k == 1 && s.m.mode != .service, 0x13, c.opAddr),
    (k == 1 && decide ((s.lane n).val Key.profBPvmax < absQ (v * 1000)), 0x12, Key.profBPvmax.setWidth 32)] ++
    s.motionTests n c.opAddr [.b] (k == 1 && s.reversal n .b v) false true false)

/-- BRAKE_POSITION's effect. -/
def effBrakePosition : MotionEffect := fun s n c =>
  (if c.kindByte = 1 then s.effBrakeSpeed n (c.q 0 * 1000) else s.effBrake n 1 true (c.q 0), false)

/-- BRAKE_POSITION (R356). -/
def execBrakePosition (r : Req) (s : State) : Host.Outcome State Fault Refusal :=
  done (s.fcp 0x0302 r (motionHandler chkBrakePosition effBrakePosition true) (holdMotion chkBrakePosition))

/-- BRAKE_RELEASE's checks. -/
def chkBrakeRelease : MotionCheck := fun s n c => firstErr (s.motionTests n c.opAddr [.b] false false false false)

/-- BRAKE_RELEASE's effect: the air-gap position; before any kiss-point learn the lowest force, the value of D = SENT.LO_B
(R216, R355). -/
def effBrakeRelease : MotionEffect := fun s n _ =>
  let l := s.lane n
  (if l.cal.kiss.isSome then s.effBrake n 2 true (-(l.val Key.homeBAirgap)) else s.effBrake n 0 false (-2147483648), false)

/-- BRAKE_RELEASE (R355). -/
def execBrakeRelease (r : Req) (s : State) : Host.Outcome State Fault Refusal :=
  done (s.fcp 0x0303 r (motionHandler chkBrakeRelease effBrakeRelease true) (holdMotion chkBrakeRelease))

/-- BRAKE_PARK's checks: action 0 or 1; apply is accepted while hold-only (R355, R399). -/
def chkBrakePark : MotionCheck := fun s n c =>
  firstErr ((decide (1 < rd c.p 0 1), 0x12, c.opAddr) ::
    s.motionTests n c.opAddr [.b] false (rd c.p 0 1 == 0) false false)

/-- BRAKE_PARK's effect: mode 3 at the park force, or mode 0 at the present force (R356). -/
def effBrakePark : MotionEffect := fun s n c =>
  (if rd c.p 0 1 = 0 then s.effBrake n 3 false (c.q 4) else s.effBrake n 0 false (s.measured n .b), false)

/-- BRAKE_PARK_APPLY (R356): BRAKE_PARK with action 0. -/
def execBrakeParkApply (r : Req) (s : State) : Host.Outcome State Fault Refusal :=
  done (s.fcp 0x0304 (r.withByte 0 0) (motionHandler chkBrakePark effBrakePark true) (holdMotion chkBrakePark))

/-- BRAKE_PARK_RELEASE (R356): BRAKE_PARK with action 1. -/
def execBrakeParkRelease (r : Req) (s : State) : Host.Outcome State Fault Refusal :=
  done (s.fcp 0x0304 (r.withByte 0 1) (motionHandler chkBrakePark effBrakePark true) (holdMotion chkBrakePark))

/-! ### Profile -/

/-- The keys that bound the three values of PROFILE_LIMITS for a kind; jerk is reserved for kind 2 (R241, R355). -/
def limitKeys (kind : Nat) : List Half :=
  if kind = 0 then [Key.profSVmax, Key.profSAmax, Key.profSJmax]
  else if kind = 1 then [Key.profBVmax, Key.profBAmax, Key.profBJmax] else [Key.profBPvmax, Key.profBPamax]

/-- The first value of PROFILE_LIMITS above its parameter, as the key (R241). -/
def LaneSt.limitAbove (l : LaneSt) (p : List Byte) (kind : Nat) : Option Half :=
  (((limitKeys kind).zip [rd p 4 4, rd p 8 4, rd p 12 4]).find? (fun e => decide (l.codeN e.1 < e.2))).map (·.1)

/-- PROFILE_LIMITS's checks (R241, R355). -/
def chkProfileLimits : MotionCheck := fun s n c =>
  let k := rd c.p 0 1
  let bad := (s.lane n).limitAbove c.p k
  firstErr ([(decide (2 < k), 0x12, c.opAddr),
    (decide (c.r.target ≠ (if k = 0 then 0x40 else 0x41)), 0x12, c.r.target.setWidth 32),
    (bad.isSome, 0x12, (bad.getD 0).setWidth 32)] ++
    s.motionTests n c.opAddr [if k = 0 then .s else .b] false false false false)

/-- PROFILE_LIMITS changes no trajectory by itself. -/
def effProfileLimits : MotionEffect := fun s n _ => ((s.lane n).prof, false)

/-- The limits of one kind come into force (R241). -/
def State.applyLimits (s : State) (n : Lane) (c : Call) : State :=
  let v := (rd c.p 4 4, rd c.p 8 4, rd c.p 12 4)
  let k := rd c.p 0 1
  (s.applyMotion n c effProfileLimits (k != 0)).onM (fun m =>
    if k = 0 then { m with lim0 := v } else if k = 1 then { m with lim1 := v } else { m with lim2 := v })

/-- PROFILE_LIMITS at the Leader (R241). The Leader of a module that follows a twin Leader holds it (R76). -/
def handleProfileLimits : Handler := fun s n c =>
  match chkProfileLimits s n c with
  | some e => .err e.1 e.2
  | none => .ok (if s.twinFollows then s.holdCommand n c else s.applyLimits n c) []

/-- PROFILE_LIMITS (R241). -/
def execProfileLimits (r : Req) (s : State) : Host.Outcome State Fault Refusal :=
  done (s.fcp 0x0401 r handleProfileLimits (holdMotion chkProfileLimits))

/-- VECTOR_MOVE's checks (R244, R246, R355, R356). -/
def chkVectorMove : MotionCheck := fun s n c =>
  let k := rd c.p 4 1
  firstErr ([(!(s.lane n).steerOk (rdI c.p 0 4), 0x12, c.opAddr), (decide (1 < k), 0x12, c.opAddr),
    (!s.arrivalOk n (rd c.p 12 8), 0x12, c.opAddr)] ++
    s.motionTests n c.opAddr [.s, .b] false false (k == 1) (!(s.lane n).time.synced))

/-- VECTOR_MOVE's effect: both axes arrive together (R245). -/
def effVectorMove : MotionEffect := fun s n c =>
  let k := rd c.p 4 1
  s.effTimed n (c.q 0) (some (if k = 1 then 1 else 0, k == 1, c.q 8)) (rd c.p 12 8)

/-- VECTOR_MOVE (R245). -/
def execVectorMove (r : Req) (s : State) : Host.Outcome State Fault Refusal :=
  done (s.fcp 0x0402 r (motionHandler chkVectorMove effVectorMove true) (holdMotion chkVectorMove))

end Sys2Proof.Machine
end

