-- ==== Sys2Proof/Machine/Homing.lean ====
section
/-! DEFINITION. Homing: the steer end-stop learn and the brake kiss-point learn (Setpoint Profiles, Homing and Holding R250 to R257;
Command Reference R368). -/

namespace Sys2Proof.Machine

/-- The extended QUAD count of the Leader (R254). -/
def State.homeCount (s : State) : Int := (s.lane s.scribe).quad.ext

/-- The clamp on |T| of an axis that is homed, in mA (R251, R254). -/
def LaneSt.pushClamp (l : LaneSt) (x : Axis) : Int :=
  (l.axisPeak x * l.val (match x with | .s => Key.homeSPush | .b => Key.homeBPush) / 100).floor

/-- The opposite end-stop indication is active for the seek of a state: S1 seeks the negative end, S2 the positive one (R253). -/
def State.oppositeStop (s : State) (st : BitVec 3) : Bool :=
  let n := s.scribe
  s.endStop n && (s.endStopPos n != (st == 2))

/-- The brake trajectory at a travel of the Leader's port, in position mode: homing needs no agreement of three ports (R254). -/
def State.homeBrake (s : State) (n : Lane) : ProfSt :=
  let p := (s.lane n).prof
  if p.brakeIsPos then p
  else { p with bMode := 1, brake := { p.brake with pos := ((s.lane s.scribe).quad.p : Rat), rate := 0, accel := 0, segs := [] } }

/-- The brake travel limits at HOME.B_SPEED (R254). -/
def State.homeTravel (s : State) (n : Lane) : Limits :=
  { ((s.lane n).travelLimits s.m) with v := (s.lane n).val Key.homeBSpeed }

/-- A brake move by a travel at HOME.B_SPEED. -/
def State.effHomeMove (dp : Rat) (s : State) (n : Lane) : ProfSt :=
  let p := s.homeBrake n
  { p with brake := p.brake.moveTo (s.homeTravel n) (p.brake.pos + dp) (s.stepStart n) }

/-- A brake seek at HOME.B_SPEED. -/
def State.effHomeClose (s : State) (n : Lane) : ProfSt :=
  let p := s.homeBrake n
  { p with brake := p.brake.speedTo (s.homeTravel n) ((s.lane n).val Key.homeBSpeed) (s.stepStart n) }

/-- A steer seek at HOME.S_SPEED, toward the positive end or not (R251). -/
def State.effSeek (up : Bool) (s : State) (n : Lane) : ProfSt :=
  let v := pctUnits ((s.lane n).val Key.homeSSpeed)
  s.effSteerSpeed n (if up then v else -v)

/-- A steer seek begins (R251, R253). -/
def State.beginSeek (s : State) (st : BitVec 3) : State :=
  let opp := s.oppositeStop st
  let from_ := roundAway (s.measured s.scribe .s)
  let s := s.onEngines (State.effSeek (st == 2))
  { s with hom := { s.hom with steer := st, from_ := from_, wasOn := opp, pushSince := none } }

/-- The homing of an axis begins with S1 or B1 (R251, R254). -/
def State.beginHoming (s : State) (x : Axis) : State :=
  match x with
  | .s => State.beginSeek { s with hom := { s.hom with fallback := false } } 1
  | .b =>
    let s := { s with hom := { s.hom with brake := 1, from_ := s.homeCount } }
    s.onEngines (State.effHomeMove (-((s.lane s.scribe).val Key.homeBRetract)))

/-- The homing that waits for its sets begins, steer before brake (R250). -/
def State.launchHoming (s : State) : State :=
  if s.hom.axS && s.hom.steer == 0 then s.beginHoming .s
  else if !s.hom.axS && s.hom.axB && s.hom.brake == 0 then s.beginHoming .b else s

/-- What one 8 kHz step of the Leader does for a homing run (R250 to R256): the conditions of an abort, the timers of end detection, and
the states that a finished stop ends. -/
def State.homingStep (s : State) (n : Lane) : State :=
  let l := s.lane n
  match s.hom.running with
  | none => s
  | some x =>
    if s.m.runEntry ≠ 0 then s
    else if s.usableCount n x = 0 then s.abortHoming 8
    else match x with
      | .s =>
        if s.sentCount n .a = 0 then s.abortHoming 5
        else
          let st := s.hom.steer
          let a := l.prof.steer
          if st = 1 ∨ st = 2 then
            if a.kind = 1 then
              let slow := decide (absQ ((s.omega n .s : Rat) / 10 * Config.steerUnitsPerRev) < pctUnits (l.val Key.homeSSpeed) / 5)
              let push := decide (l.pushClamp .s ≤ (l.prof.tS.natAbs : Int)) && slow
              { s with hom := { s.hom with
                  pushSince := if push then s.hom.pushSince.orElse (fun _ => some s.now) else none
                  fallback := s.hom.fallback || (s.sw1Lanes n).isEmpty, wasOn := s.hom.wasOn && s.oppositeStop st } }
            else if a.resting then s.beginSeek st else s
          else if st = 3 ∧ a.resting = true then
            if ((s.hom.ePos - s.hom.eNeg : Int) : Rat) < pctUnits (l.val Key.homeSMinTravel) then s.abortHoming 3
            else
              let s := s.onEngines (fun s n => s.effSteer n (s.hom.startPos : Rat))
              { s with hom := { s.hom with steer := 4 } }
          else s
      | .b =>
        if s.sentCount n .b = 0 ∨ l.sup.svccFault = true ∨ l.mapBit 12 = true then s.abortHoming 5
        else if s.hom.brake = 2 ∧ l.val Key.homeBMaxTravel < ((s.homeCount - s.hom.from_ : Int) : Rat) then s.abortHoming 4
        else s

/-- HOMING_END_DETECTED (R251, R252): the push clamp held for HOME.S_RISE_TIME at low speed, or the switch of the end sought; the
position becomes that end and a stop follows. -/
def execHomingEndDetected (t : Nat) (s : State) : Host.Outcome State Fault Refusal :=
  let s := s.at_ t
  let n := s.scribe
  let st := s.hom.steer
  let rise := match s.hom.pushSince with
    | some a => decide (a + ms ((s.lane n).codeN Key.homeSRiseTime) ≤ t)
    | none => false
  let sw := s.endStop n && (s.endStopPos n == (st == 2)) && !(s.sw1Lanes n).isEmpty
  if s.hom.running = some Axis.s ∧ (st = 1 ∨ st = 2) ∧ s.m.runEntry = 0 ∧ (s.lane n).prof.steer.kind = 1 ∧ (rise || sw) = true then
    let p := roundAway (s.measured n .s)
    let s := s.onEngines State.effSteerStop
    done { s with hom := { s.hom with
      eNeg := if st = 1 then p else s.hom.eNeg, ePos := if st = 2 then p else s.hom.ePos, steer := st + 1, pushSince := none } }
  else done s

/-- HOMING_SWITCH_UNEXPECTED (R253): the opposite indication became active during a seek, or has not cleared within
HOME.S_SWITCH_CLEAR of travel. -/
def execHomingSwitchUnexpected (t : Nat) (s : State) : Host.Outcome State Fault Refusal :=
  let s := s.at_ t
  let n := s.scribe
  let l := s.lane n
  let st := s.hom.steer
  let far := decide (pctUnits (l.val Key.homeSSwitchClear) < absQ (s.measured n .s - (s.hom.from_ : Rat)))
  if s.hom.running = some Axis.s ∧ (st = 1 ∨ st = 2) ∧ s.m.runEntry = 0 ∧ l.prof.steer.kind = 1 ∧ s.oppositeStop st = true ∧
      (s.hom.wasOn = false ∨ far = true) then
    let k := ((s.sw1Lanes n).find? (fun m => (s.lane m).sw1.state)).getD n
    done ((s.logLeader 0x0408 (portAddr k 3)).abortHoming 2)
  else done s

/-- BRAKE_RETRACT_DONE (R254 B1, R256): the Leader's count has opened by HOME.B_RETRACT; with the force below the kiss force the
close begins, otherwise the run aborts with reason 4. -/
def execBrakeRetractDone (t : Nat) (s : State) : Host.Outcome State Fault Refusal :=
  let s := s.at_ t
  let n := s.scribe
  let l := s.lane n
  if s.hom.running = some Axis.b ∧ s.hom.brake = 1 ∧ s.m.runEntry = 0 ∧
      l.val Key.homeBRetract ≤ ((s.hom.from_ - s.homeCount : Int) : Rat) then
    if forceUnits (l.val Key.homeBKissForce) ≤ s.measured n .b then done (s.abortHoming 4)
    else
      let s := s.onEngines State.effHomeClose
      done { s with hom := { s.hom with brake := 2, from_ := s.homeCount } }
  else done s

/-- BRAKE_KISS_POINT (R254 B2). -/
def execBrakeKissPoint (t : Nat) (s : State) : Host.Outcome State Fault Refusal :=
  let s := s.at_ t
  let n := s.scribe
  if s.hom.running = some Axis.b ∧ s.hom.brake = 2 ∧ forceUnits ((s.lane n).val Key.homeBKissForce) ≤ s.measured n .b then
    done { s with hom := { s.hom with brake := 3, pk := s.homeCount } }
  else done s

/-- B4 and the start of B5 (R224, R254): p is 0 at the kiss point in every Active lane, kiss point, stiffness and offsets are stored,
and the caliper returns. What stood before is kept for an abort (R256). -/
def State.storeKiss (s : State) (n : Lane) (ps : Int) : State :=
  let l := s.lane n
  let k := (forceUnits (l.val Key.homeBStiffForce) - forceUnits (l.val Key.homeBKissForce)) / ((ps - s.hom.pk : Int) : Rat)
  let d := s.hom.pk - l.quad.offset
  let p := l.quad.ext - s.hom.pk
  let pk := s.hom.pk
  let kept := s.actives.map (fun m => (m, (s.lane m).cal, (s.lane m).quad.offset, (s.lane m).quad.valid, (s.lane m).quad.refd))
  let offs := s.actives.map (fun m => (m, if m = n then pk else (s.lane m).quad.ext - p))
  let s := s.actives.foldl (fun s m => s.onLane m (fun l => { l with
    quad := { l.quad with offset := if m = n then pk else l.quad.ext - p, valid := true, refd := true }
    cal := { l.cal with kiss := some pk, stiff := some k, offs := offs } })) s
  let s := s.actives.foldl State.reslot { s with hom := { s.hom with kept := kept } }
  let s := s.onEngines (fun s m => ((s.lane m).prof).shiftBrake d)
  let free := s.hom.released
  let f : Rat := (s.hom.startForce : Rat)
  let s := s.onEngines (fun s m =>
    if free then
      let q := s.homeBrake m
      { q with bMode := 2, brake := q.brake.moveTo (s.homeTravel m) (-((s.lane m).val Key.homeBAirgap)) (s.stepStart m) }
    else s.effBrake m 0 false f)
  { s with hom := { s.hom with brake := 5, ps := ps } }

/-- BRAKE_STIFFNESS_POINT (R254 B3, B4). -/
def execBrakeStiffnessPoint (t : Nat) (s : State) : Host.Outcome State Fault Refusal :=
  let s := s.at_ t
  let n := s.scribe
  if s.hom.running = some Axis.b ∧ s.hom.brake = 3 ∧ forceUnits ((s.lane n).val Key.homeBStiffForce) ≤ s.measured n .b ∧
      s.hom.pk < s.homeCount then
    done (s.storeKiss n s.homeCount)
  else done s

/-- The 64-bit die identity of R382 from the serial messages, once all four are there. -/
def SentSt.identity (x : SentSt) : Option Dword :=
  let m := fun (i : Byte) => ((x.serial.find? (fun e => e.1 == i)).map (·.2.toNat)).getD 0
  if x.idSeen = 15 then
    some (BitVec.ofNat 64 (m 0x29 * 2 ^ 48 + m 0x2A * 2 ^ 32 + m 0x2B * 2 ^ 16 + m 0x2C))
  else none

/-- The identities of an axis's port in the Active lanes over those stored before (R382). -/
def State.identities (s : State) (p : SentPort) (old : List (Lane × Dword)) : List (Lane × Dword) :=
  let new := s.actives.filterMap (fun m => (((s.lane m).sent p).identity).map (fun d => (m, d)))
  new ++ old.filter (fun e => !new.any (fun d => d.1 == e.1))

/-- The identities of an axis's port are stored with the records of every Active lane; a port's value that a difference made invalid
counts again (R382). -/
def State.keepIdentities (s : State) (x : Axis) : State :=
  s.actives.foldl (fun s' m => s'.onLane m (fun l => match x with
    | .s => { l with cal := { l.cal with idA := s.identities .a l.cal.idA }, sentA := { l.sentA with idWrong := false } }
    | .b => { l with cal := { l.cal with idB := s.identities .b l.cal.idB }, sentB := { l.sentB with idWrong := false } })) s

/-- The records of the steer learn are stored in every Active lane (R251 S5, R91). -/
def State.storeSteer (s : State) : State :=
  let n := s.scribe
  let a := s.hom.eNeg
  let b := s.hom.ePos
  let p := s.measured n .s
  s.actives.foldl (fun s m => s.onLane m (fun l =>
    { l with cal := { l.cal with endNeg := some a, endPos := some b }, obsAngle := some p })) s

/-- The homing run ends (R73, R250, R257): a run that completed every axis it was asked for writes the new stamp to every Active lane;
sets energised in Ready float. -/
def State.endHoming (s : State) : State :=
  let s := if s.hom.spoiled then s
    else (s.actives.foldl (fun s m => s.onLane m (fun l => { l with stamp := some l.freshStamp })) s).onLanes
      (fun _ l => { l with stampBad := false })
  let s := if s.hom.inReady then s.floatAll else s
  { s with hom := { s.hom with inReady := false, spoiled := false } }

/-- HOMING_DONE (R251 S5, R254 B5, R257, R382): the last move of an axis has reached its target; the next axis begins, or the run
ends. -/
def execHomingDone (t : Nat) (x : Axis) (s : State) : Host.Outcome State Fault Refusal :=
  let s := s.at_ t
  let n := s.scribe
  let due := match x with
    | .s => s.hom.steer == 4 && (s.lane n).prof.steer.resting
    | .b => s.hom.brake == 5 && (s.lane n).prof.brake.resting
  if s.hom.running = some x ∧ due = true then
    let s := match x with
      | .s => s.storeSteer
      | .b => s
    let s := s.keepIdentities x
    let s := s.logLeader 0x0B09 (BitVec.ofNat 32 x.num)
    let s := match x with
      | .s => { s with hom := { s.hom with axS := false, steer := 6 } }
      | .b => { s with hom := { s.hom with axB := false, brake := 6, kept := [] } }
    if s.hom.axB then done s.launchHoming else done s.endHoming
  else done s

/-- HOMING_TIMEOUT (R256 reason 1). -/
def execHomingTimeout (t : Nat) (s : State) : Host.Outcome State Fault Refusal :=
  let s := s.at_ t
  if (s.hom.axS || s.hom.axB) && decide (s.hom.at_ + 1000000000 * (s.lane s.scribe).codeN Key.homeTimeout ≤ t) then
    done (s.abortHoming 1)
  else done s

/-! ### HOMING_START and HOMING_STATUS (R368) -/

/-- Some axis named by the request moves: its consensus speed is at or above HOLD.SPEED_BAND (R250; the manual gives homing no band of
its own). -/
def State.homingMoves (s : State) (n : Lane) (x : Axis) : Bool :=
  let l := s.lane n
  decide (l.rated x * l.val Key.holdSpeedBand / 100 ≤ absQ ((s.omega n x : Int) : Rat))

/-- HOMING_START with the abort bit (R256 reason 6): the named axes abort. An axis that only waits is dropped from the run; while the
other axis is still asked for, homing goes on with it. -/
def State.abortNamed (s : State) (steer brake : Bool) : State :=
  let drop := fun (s : State) (x : Axis) =>
    let s := { s with hom := { s.hom with
      axS := s.hom.axS && x != Axis.s, axB := s.hom.axB && x != Axis.b, reason := 6, spoiled := true, pushSince := none
      steer := if x = Axis.s then 7 else s.hom.steer, brake := if x = Axis.b then 7 else s.hom.brake } }
    s.logLeader 0x0B0A (BitVec.ofNat 32 x.num) (BitVec.ofNat 64 (6 * 2 ^ 56))
  let both := (s.hom.axS == (s.hom.axS && steer)) && (s.hom.axB == (s.hom.axB && brake))
  if both then s.abortHoming 6
  else
    let run := s.hom.running
    let s := if steer && s.hom.axS then
        let s := if run = some Axis.s then s.dropAxis .s else s
        (drop s .s)
      else s
    let s := if brake && s.hom.axB then
        let s := if run = some Axis.b then s.dropAxis .b else s
        (drop s .b)
      else s
    if s.m.runEntry = 0 then s.launchHoming else s

/-- A homing run begins on the named axes (R250): at once in Run, from Ready once the sets are energised. Position and force held
now are those that S4 and B5 return to; the caliper counts as released where the setpoint is released or no clamp force stands
(R251, R254). -/
def State.startHoming (s : State) (n : Lane) (steer brake : Bool) : State :=
  let s := s.takeEffect .homing
  let l := s.lane n
  let f := s.measured n .b
  let s := { s with hom := { s.hom with
    axS := steer, axB := brake, at_ := s.now, inReady := s.m.mode == Mode.ready, spoiled := false, ending := false, kept := []
    steer := if steer then 0 else s.hom.steer, brake := if brake then 0 else s.hom.brake
    startPos := roundAway (s.measured n .s), startForce := roundAway f
    released := l.prof.bMode == 2 || decide (f < forceUnits (l.val Key.homeBKissForce)) } }
  let s := s.motionApplied.endSteerHold.endBrakeHold
  if s.m.mode = .run then s.launchHoming else s.onM (fun m => { m with runEntry := 1, diag := [], acq := [] })

/-- The shadow of the Deputy takes up the move of the homing state in progress (R43, R251, R254). -/
def effHoming : MotionEffect := fun s n _ =>
  let p := (s.lane n).prof
  (if s.m.runEntry ≠ 0 then p
   else match s.hom.running with
     | some .s =>
       if s.hom.steer = 1 ∨ s.hom.steer = 2 then State.effSeek (s.hom.steer == 2) s n
       else if s.hom.steer = 4 then s.effSteer n (s.hom.startPos : Rat) else s.effSteerStop n
     | some .b =>
       if s.hom.brake = 1 then State.effHomeMove (-((s.lane n).val Key.homeBRetract)) s n
       else if s.hom.brake = 2 ∨ s.hom.brake = 3 then State.effHomeClose s n else p
     | none => if s.hom.steer = 7 ∨ s.hom.brake = 7 then s.effStop n else p, false)

/-- The Deputy's profile engine stands as it stood: it takes up a command at S2's report (R43). -/
def State.keepDeputy (s old : State) : State :=
  allLanes.foldl (fun s d => if (old.lane d).role = .deputy then s.onProf d (fun _ => (old.lane d).prof) else s) s

/-- The axes HOMING_START names (R368). -/
def Call.homes (c : Call) : Bool × Bool := (rd c.p 0 1 % 2 == 1, rd c.p 0 1 / 2 % 2 == 1)

/-- The abort bit of HOMING_START (R368). -/
def Call.aborts (c : Call) : Bool := decide (128 ≤ rd c.p 0 1)

/-- HOMING_START's checks (R250, R353, R368, R379, R437, R497). -/
def chkHomingStart : MotionCheck := fun s n c =>
  let axes := (if c.homes.1 then [Axis.s] else []) ++ (if c.homes.2 then [Axis.b] else [])
  if axes.isEmpty then some (0x12, c.opAddr)
  else if c.aborts then firstErr [((s.lane s.scribe).mapBit 3, 0x21, c.opAddr)]
  else
    firstErr ([(!s.somePermitted n || s.m.stopOn, 0x22, c.opAddr),
        (s.m.mode == .run && axes.any (s.homingMoves n), 0x20, c.opAddr),
        ((s.lane n).par.defaults || s.m.holdOnly || (s.lane s.scribe).mapBit 3, 0x21, c.opAddr)] ++
        axes.map (fun x => (s.usableCount n x == 0, 0x31, setAddr .l1 x)) ++
        [(s.hom.axS || s.hom.axB || s.hom.ending || s.meas.loadOn || s.m.pend != s.m.mode || s.m.runEntry != 0, 0x18, c.opAddr)])

/-- The Leader carries out HOMING_START; S2 then reports its sequence number (R37, R250, R256). -/
def State.applyHoming (s : State) (n : Lane) (c : Call) : State :=
  let s' := if c.aborts then (s.abortNamed c.homes.1 c.homes.2).motionApplied else s.startHoming n c.homes.1 c.homes.2
  (s'.keepDeputy s).onProf n (fun p => { p with lastSeq := c.r.seq })

/-- HOMING_START at the Leader (R250, R368): a started run is answered ACCEPTED_PENDING, an abort OK. The Leader of a module that
follows a twin Leader begins when TW2 reports the command (R76, R494). -/
def handleHomingStart : Handler := fun s n c =>
  match chkHomingStart s n c with
  | some e => .err e.1 e.2
  | none =>
    let s' := if s.twinFollows && !c.aborts then s.holdCommand n c else s.applyHoming n c
    if c.aborts then .ok s' [] else .pending s' []

/-- HOMING_START (R250). -/
def execHomingStart (r : Req) (s : State) : Host.Outcome State Fault Refusal :=
  done (s.fcp 0x0C01 (r.withByte 0 ((BitVec.ofNat 8 (rd r.params 0 1)) &&& 0x7F)) handleHomingStart (holdMotion chkHomingStart))

/-- HOMING_START_ABORT (R368): HOMING_START with the abort bit. -/
def execHomingStartAbort (r : Req) (s : State) : Host.Outcome State Fault Refusal :=
  done (s.fcp 0x0C01 (r.withByte 0 ((BitVec.ofNat 8 (rd r.params 0 1)) ||| 0x80)) handleHomingStart (holdMotion chkHomingStart))

/-- The 20 bytes of a compare slot in HOMING_STATUS (R368). -/
def SlotSt.bytes (c : SlotSt) : List Byte :=
  [BitVec.ofNat 8 c.state.toNat, BitVec.ofNat 8 (bit c.behind), c.fires, 0] ++ beBytes 8 c.latchT.toNat ++ beBytes 8 c.latchV.toNat

/-- The record of HOMING_STATUS for a lane (R368). -/
def State.homingRecord (s : State) (n : Lane) : List Byte :=
  let l := s.lane n
  [BitVec.ofNat 8 s.hom.steer.toNat, BitVec.ofNat 8 s.hom.brake.toNat, s.hom.reason,
   BitVec.ofNat 8 (pack [(0, 5), (bit l.cal.kiss.isSome, 1), (bit (l.cal.endNeg.isSome && l.cal.endPos.isSome), 1),
     (bit s.hom.fallback, 1)])] ++
  l.c0.bytes ++ l.c1.bytes ++ l.c2.bytes ++ l.c3.bytes

/-- HOMING_STATUS at the lane that answers, piecewise (R352, R368). -/
def handleHomingStatus : Handler := fun s n c => s.piecewise n c (rd c.p 0 2) (s.homingRecord n)

/-- HOMING_STATUS (R368). -/
def execHomingStatus (r : Req) (s : State) : Host.Outcome State Fault Refusal := done (s.fcp 0x0C02 r handleHomingStatus noPart)

/-! ### The Deputy's shadow (R43) -/

/-- The effect of a motion opcode on a profile engine; the others change no trajectory. -/
def motionEffect (op : Half) : MotionEffect :=
  if op = 0x0201 then effSteerAngle else if op = 0x0202 then effSteerTorque else if op = 0x0203 then effSteerMoveAt
  else if op = 0x0204 then effSteerHold else if op = 0x0301 then effBrakeForce else if op = 0x0302 then effBrakePosition
  else if op = 0x0303 then effBrakeRelease else if op = 0x0304 then effBrakePark else if op = 0x0402 then effVectorMove
  else if op = 0x0C01 then effHoming else if op = 0x0C03 then fun s n _ => ((s.lane n).prof, false) else effProfileLimits

/-- DEPUTY_SHADOW_APPLY (R40, R43): when the S2 that the Deputy takes from its Leader, or by way of the third lane, first reports
the sequence number of a command the Deputy holds, the Deputy applies it to its shadow; the commands held before it lapse. -/
def execDeputyShadowApply (t : Nat) (n : Lane) (s : State) : Host.Outcome State Fault Refusal :=
  let s := s.at_ t
  let l := s.lane n
  match l.role, s.leaderLink n with
  | .deputy, some k =>
    let seq : Half := BitVec.ofNat 16 (fld k.view.s2 0 16)
    match l.prof.held.find? (fun h => h.1 == seq) with
    | none => done s
    | some h =>
      let e := motionEffect h.2.2 s n (l.call h.2.2 h.2.1)
      let rest := (l.prof.held.dropWhile (fun x => x.1 != seq)).drop 1
      done (s.onProf n (fun _ => { e.1 with lastSeq := seq, held := rest }))
  | _, _ => done s

end Sys2Proof.Machine
end

