-- ==== Sys2Proof/Machine/Modes.lean ====
section
/-! DEFINITION. Mode requests, the Enable line, the safe stop, Service and the reaction to missing commands (Operating
Modes and the Enable Line; Behaviour After Faults R95). -/

namespace Sys2Proof.Machine

/-! ### MODE_REQUEST (R267, R273, R274, R354, R355) -/

/-- A transition the table of R267 gives to MODE_REQUEST. -/
def requestable (cur tgt : Mode) : Bool :=
  match cur, tgt with
  | .ready, .run | .ready, .service | .ready, .dormant => true
  | .run, .ready | .limp, .ready | .limp, .run | .service, .ready => true
  | _, _ => false

/-- Homing or a measurement runs, or the stop that ends an aborted homing run (R256, R267, R379). -/
def State.occupied (s : State) : Bool := s.hom.axS || s.hom.axB || s.hom.ending || s.meas.loadOn

/-- Every set of every Active lane has shown an induced peak below 0.5 V throughout the last 10 ms (R274). -/
def State.allStill (s : State) : Bool :=
  s.actives.all (fun m => [Axis.s, .b].all (fun x =>
    let a := ((s.lane m).set x).lastMove
    a == 0 || decide (a + ms 10 ≤ s.now)))

/-- Run from Ready (R73, R179, R267, R379, R437): permission, then health, then a running operation; the energising begins
with the off-state diagnostics. -/
def State.requestRun (s : State) (n : Lane) (op : Word) : Answer :=
  match firstErr [(!s.somePermitted n, 0x22, op), ((s.lane n).stampBad || (s.lane n).par.defaults, 0x21, op),
      (s.occupied, 0x18, op)] with
  | some e => .err e.1 e.2
  | none =>
    .pending ((s.onM (fun m => { m with pend := .run, runEntry := 1, diag := [], acq := [] })).takeEffect .runEntry) []

/-- Run from Limp (R92, R267): once none of the conditions holds. MODE_REQUEST Run is always answered with ACCEPTED_PENDING; the
energising is complete already. The vehicle-stop request drops unless something else keeps it. -/
def State.requestRunFromLimp (s : State) (n : Lane) (op : Word) : Answer :=
  if s.limpDue n then .err 0x21 op
  else .pending (s.enterRun.onM (fun m => { m with stopReq := m.loc || m.holdOnly })) []

/-- The module enters Service under a session (R274, R275); a lane that stayed Isolated until Service is released (R72). -/
def State.enterService (s : State) (session : Half) : State :=
  let s := (s.setMode .service).onM (fun m => { m with svcSess := session, svcAt := s.now, sleepAt := none })
  let s := s.takeEffect .serviceEntry
  s.forLanes (fun s m =>
    if (s.lane m).vote.stay then
      let s := (s.onVote m (fun v => { v with stay := false })).onLane m (fun l =>
        { l with rejoin := { l.rejoin with fails := [] } })
      if (s.lane m).state = .isolated then s.enterRejoin m else s
    else s)

/-- Service (R274): standstill, supply, no running operation. -/
def State.requestService (s : State) (c : Call) : Answer :=
  match firstErr [(!s.allStill, 0x20, c.opAddr), (s.serviceStopped, 0x21, c.opAddr), (s.occupied, 0x18, c.opAddr)] with
  | some e => .err e.1 e.2
  | none => .ok (s.enterService c.r.session) []

/-- Dormant (R267): only while every filtered ENA is inactive and nothing runs; the lanes sleep once the reply has left. -/
def State.requestDormant (s : State) (op : Word) : Answer :=
  match firstErr [(!s.allEnaOff, 0x22, op), (s.occupied, 0x18, op)] with
  | some e => .err e.1 e.2
  | none => .ok (s.onM (fun m => { m with dormReq := true, dormSent := false })) []

/-- Ready (R267, R272, R273, R275): a controlled stop first, or the end of Service; during a safe stop it goes on as
variant 1. -/
def State.requestReady (s : State) : Answer :=
  if s.m.mode = .service then
    let s' := s.endService
    if s'.m.mode = .ready then .ok s' [] else .pending s' []
  else if s.m.stopOn then .pending (s.onM (fun m => { m with pend := .ready, stopAs1 := true })) []
  else .pending (s.beginStop.onM (fun m => { m with pend := .ready, slowSince := none })) []

/-- MODE_REQUEST at the lane that answers (R267, R273, R353 to R355). -/
def handleModeRequest : Handler := fun s n c =>
  let code := rd c.p 0 1
  let cur := s.m.mode
  let run := cur = .run ∨ cur = .limp
  if 6 ≤ code then .err 0x12 (BitVec.ofNat 32 code)
  else if code = 1 ∨ code = 4 then .err 0x13 c.opAddr
  else
    let tgt : Mode := if code = 0 then .dormant else if code = 2 then .ready else if code = 3 then .run else .service
    if s.m.stopOn = true ∧ run ∧ tgt = .run then .err 0x22 c.opAddr
    else if s.m.stopOn = true ∧ run ∧ tgt = .service then .err 0x13 c.opAddr
    else if tgt ≠ cur ∧ requestable cur tgt = false then .err 0x13 c.opAddr
    else if s.m.pend ≠ cur ∧ tgt = s.m.pend then .pending (if s.m.stopOn then s.onM (fun m => { m with stopAs1 := true }) else s) []
    else if s.m.pend ≠ cur ∧ ¬ (tgt = .ready ∧ s.m.stopOn = true) then .err 0x18 c.opAddr
    else if tgt = cur then .ok s []
    else match tgt with
      | .run => if cur = .limp then s.requestRunFromLimp n c.opAddr else s.requestRun n c.opAddr
      | .service => s.requestService c
      | .dormant => s.requestDormant c.opAddr
      | _ => s.requestReady

/-- MODE_REQUEST with target Ready (R267). -/
def execModeRequestReady (r : Req) (s : State) : Host.Outcome State Fault Refusal :=
  done (s.fcp 0x0101 (r.withByte 0 2) handleModeRequest noPart)

/-- MODE_REQUEST with target Run (R179, R267). -/
def execModeRequestRun (r : Req) (s : State) : Host.Outcome State Fault Refusal :=
  done (s.fcp 0x0101 (r.withByte 0 3) handleModeRequest noPart)

/-- MODE_REQUEST with target Service (R274). -/
def execModeRequestService (r : Req) (s : State) : Host.Outcome State Fault Refusal :=
  done (s.fcp 0x0101 (r.withByte 0 5) handleModeRequest noPart)

/-- MODE_REQUEST with target Dormant (R267). -/
def execModeRequestDormant (r : Req) (s : State) : Host.Outcome State Fault Refusal :=
  done (s.fcp 0x0101 (r.withByte 0 0) handleModeRequest noPart)

/-- MODE_STATUS at the lane that answers: the mode status word (R276, R357). -/
def handleModeStatus : Handler := fun s _ _ => .ok s (beBytes 8 s.modeWord.toNat)

/-- MODE_STATUS (R357). -/
def execModeStatus (r : Req) (s : State) : Host.Outcome State Fault Refusal := done (s.fcp 0x0102 r handleModeStatus noPart)

/-- A lane's byte of ENABLE_TEST_STATUS, as lane n sees it (R357). -/
def State.enableByte (s : State) (n m : Lane) : Byte :=
  BitVec.ofNat 8 (pack [((s.lane m).ena.test.toNat, 2), (bit (s.seesEna n m), 1), (bit (s.lane m).ena.timeoutLogged, 1),
    (bit (s.seesPermitted n m), 1), (0, 3)])

/-- ENABLE_TEST_STATUS at the lane that answers (R357). -/
def handleEnableStatus : Handler := fun s n _ => .ok s (allLanes.map (s.enableByte n) ++ [0])

/-- ENABLE_TEST_STATUS (R357). -/
def execEnableTestStatus (r : Req) (s : State) : Host.Outcome State Fault Refusal :=
  done (s.fcp 0x0110 r handleEnableStatus noPart)

/-! ### The Enable line (R262 to R266, R271) -/

/-- The Enable test advances on a filtered level (R264). -/
def EnaSt.advance (e : EnaSt) (on : Bool) : EnaSt :=
  { e with test := if e.test = 0 ∧ on = false then 1 else if e.test = 1 ∧ on = true then 2 else e.test }

/-- A lane that becomes permitted in Run or Limp joins the torque through Rejoining (R266); what a lane holds only while
Active ends, and a Leader's role becomes vacant. -/
def State.joinTorque (s : State) (n : Lane) : State :=
  let lead := (s.lane n).role = .leader
  let s := s.onLane n (fun l => { l.disarm with
    leader := if lead then none else l.leader
    ena := { l.ena with withdrawn := false }
    vote := { l.vote with on1 := {}, on2 := {}, on3 := {} } })
  let s := if lead then s.onM (fun m => { m with lossAt := s.now }) else s
  (s.enterRejoin n).reform n

/-- ENA_FILTER_CHANGE (R262, R264, R266, R271): a level stable for 200 us becomes the filtered state; the test advances
after Boot, and the counts of R267 and R271 follow. -/
def execEnaFilterChange (t : Nat) (n : Lane) (on : Bool) (held : Nat) (s : State) : Host.Outcome State Fault Refusal :=
  let s := (s.at_ t).onLane n (fun l => { l with ena := { l.ena with pin := on } })
  let l := s.lane n
  if l.rst.inReset || l.state == .off || decide (held < us 200) || l.ena.filt == on then done s
  else
    let passed := l.ena.test == 2
    let s := s.onLane n (fun l =>
      let e := { l.ena with filt := on, lowAt := if on then l.ena.lowAt else t }
      { l with ena := if l.state = .starting then e else e.advance on })
    let l := s.lane n
    let join := on && l.state == .active && l.ena.test == 2 && (s.m.mode == .run || s.m.mode == .limp) &&
      (l.ena.withdrawn || !passed)
    let s := if join then s.joinTorque n else s
    let s := if on then s else (s.abortMeasure n .s).abortMeasure n .b
    let s := s.reviewStop
    done (if s.m.mode = .ready then s.noteSleep else s)

/-- ENA_TEST_TIMEOUT (R265): logged once; the test stays open. -/
def execEnaTestTimeout (t : Nat) (n : Lane) (s : State) : Host.Outcome State Fault Refusal :=
  let s := s.at_ t
  let l := s.lane n
  if l.state == .active && l.ena.test != 2 && !l.ena.timeoutLogged &&
      decide (l.activeAt + ms (100 * l.codeN Key.enaTestTimeout) ≤ t) then
    done ((s.onLane n (fun l => { l with ena := { l.ena with timeoutLogged := true } })).log n 0x0412 (laneAddr n))
  else done s

/-- ENA_WITHDRAWN (R271): a lone inactive ENA for ENA.DISAGREE_TIME withdraws the lane's permission; its shares re-form on
the others and the resource rules apply. -/
def execEnaWithdrawn (t : Nat) (n : Lane) (s : State) : Host.Outcome State Fault Refusal :=
  let s := s.at_ t
  let l := s.lane n
  if (s.m.mode == .run || s.m.mode == .limp) && s.inactiveLanes n == [n] && decide (2 ≤ (s.passedLanes n).length) &&
      !l.ena.withdrawn && decide (l.ena.lowAt + ms (l.codeN Key.enaDisagreeTime) ≤ t) then
    let s := s.onLane n (fun l => { l.floatLegs with ena := { l.ena with withdrawn := true } })
    done (((s.logModule n 0x0907 (laneAddr n)).reform n).checkLimp)
  else done s

/-- STOP_TO_READY (R267, R272): both axes below the speed band for 100 ms with Ready pending take the legs high-impedance
and the module to Ready. -/
def execStopToReady (t : Nat) (s : State) : Host.Outcome State Fault Refusal :=
  let s := s.at_ t
  if (s.m.mode == .run || s.m.mode == .limp) && s.m.pend == .ready &&
      (match s.m.slowSince with | some a => decide (a + ms 100 ≤ t) | none => false) then
    done s.enterReady
  else done s

/-- Every counted ENA has stayed inactive for a delay (R272). -/
def State.enaOffFor (s : State) (n : Lane) (d : Nat) : Bool :=
  (s.passedLanes n).all (fun m => !s.seesEna n m && decide ((s.lane m).ena.lowAt + d ≤ s.now))

/-- ENA_SLEEP_DELAY (R267, R272): in Ready every filtered ENA inactive for the delay takes the module to Dormant; after a
safe stop of variant 0 the module goes on as in variant 1. -/
def execEnaSleepDelay (t : Nat) (s : State) : Host.Outcome State Fault Refusal :=
  let s := s.at_ t
  let d := ms (1000 * (s.lane s.scribe).codeN Key.enaSleepDelay)
  if s.m.mode = .ready then
    let due := match s.m.sleepAt with
      | some a => decide (a + d ≤ t)
      | none => false
    if due && s.allEnaOff && !s.hom.axS && !s.hom.axB then done s.enterDormant else done s
  else if (s.m.mode == .run || s.m.mode == .limp) && s.m.stopOn && s.m.stopDone && s.stopMode == 0 &&
      decide (s.m.stopAt + d ≤ t) && s.enaOffFor s.scribe d then
    done (s.onM (fun m => { m with pend := .ready, slowSince := none }))
  else done s

/-- DORMANT_ENTRY (R267): once the Leader's status frame with the reply has left its window every lane enters Dormant. -/
def execDormantEntry (t : Nat) (s : State) : Host.Outcome State Fault Refusal :=
  let s := s.at_ t
  if s.m.mode == .ready && s.m.dormReq && s.m.dormSent then done s.enterDormant else done s

/-- SERVICE_TIMEOUT (R275). -/
def execServiceTimeout (t : Nat) (s : State) : Host.Outcome State Fault Refusal :=
  let s := s.at_ t
  if s.m.mode == .service && decide (s.m.svcAt + ms (60000 * (s.lane s.scribe).codeN Key.modeServiceTimeout) ≤ t) then
    done s.endService
  else done s

/-! ### Missing commands (R95) -/

/-- CMD_HOLD (R95 step 1): LOC.HOLD_CYCLES application cycles without a fresh command. -/
def execCmdHold (t : Nat) (s : State) : Host.Outcome State Fault Refusal :=
  let s := s.at_ t
  if (s.m.mode == .run || s.m.mode == .limp) && !s.m.stale &&
      decide ((s.lane s.scribe).codeN Key.locHoldCycles ≤ s.m.missed) then
    done ((s.onM (fun m => { m with stale := true })).logLeader 0x0503 0)
  else done s

/-- The brake under loss of command (R95 step 2): a force setpoint that ramps linearly over LOC.BRAKE_RAMP to
LOC.BRAKE_FORCE; a present setpoint above it is kept, park is never lowered and stays park (R356). -/
def State.effLocBrake (s : State) (n : Lane) : ProfSt :=
  let l := s.lane n
  let a := s.brakeBase n false
  let f := forceUnits (l.val Key.locBrakeForce)
  let d := l.val Key.locBrakeRamp / 1000
  let a' : AxisProf :=
    if f ≤ a.pos then { a with rate := 0, accel := 0, segs := [], target := a.pos, arrive := none, kind := 0,
                               stepAt := s.global n }
    else { a with rate := (f - a.pos) / d, accel := 0, segs := [{ jerk := 0, dur := d }], target := f, arrive := none,
                  kind := 0, stepAt := s.global n }
  { l.prof with bMode := if l.prof.bMode = 3 then 3 else 0, brake := a' }

/-- The steer part of loss of command (R95 step 2, R273): a stop first; a safe stop already runs one. -/
def State.effLoc (s : State) (n : Lane) : ProfSt :=
  if s.m.stopOn then s.effLocBrake n else { s.effSteerStop n with brake := (s.effLocBrake n).brake, bMode := (s.effLocBrake n).bMode }

/-- LOSS_OF_COMMAND (R95 step 2, R256): LOC.TIMEOUT without a fresh command; homing aborts with reason 6. -/
def execLossOfCommand (t : Nat) (s : State) : Host.Outcome State Fault Refusal :=
  let s := s.at_ t
  if (s.m.mode == .run || s.m.mode == .limp) && !s.m.loc &&
      decide (s.m.freshAt + ms ((s.lane s.scribe).codeN Key.locTimeout) ≤ t) then
    let s := (s.abortHoming 6).logLeader 0x0504 0
    let s := (s.onM (fun m => { m with loc := true, locAt := t })).requestStop
    done (s.endSteerHold.endBrakeHold.onEngines State.effLoc)
  else done s

end Sys2Proof.Machine
end

