-- ==== Sys2Proof/Machine/Sensors.lean ====
section
/-! DEFINITION. The sensor ports of the lanes: sensor supply, SENT, quadrature, switches and position compare (Position,
Force and Switch Inputs). -/

namespace Sys2Proof.Machine

/-! ### SENT (R214 to R219) -/

/-- The parameters of one SENT port (R237). -/
structure SentPar where
  tickNs  : Rat
  nibbles : Nat
  bits    : Nat
  crc     : Bool
  pause   : Nat
  frame   : Nat
  serial  : Nat
  lo      : Int
  hi      : Int
  mask    : Nat
  timeout : Nat
  deriving DecidableEq, Repr

/-- The parameters in force of a port. -/
def LaneSt.sentPar (l : LaneSt) (p : SentPort) : SentPar :=
  let k := fun (a b : Half) => match p with | .a => a | .b => b
  { tickNs := 1000 * l.val (k Key.sentTickA Key.sentTickB), nibbles := l.codeN (k Key.sentNibblesA Key.sentNibblesB),
    bits := (l.val (k Key.sentBitsA Key.sentBitsB)).floor.toNat, crc := l.code (k Key.sentCrcA Key.sentCrcB) == 1,
    pause := l.codeN (k Key.sentPauseA Key.sentPauseB), frame := l.codeN (k Key.sentFrameTicksA Key.sentFrameTicksB),
    serial := l.codeN (k Key.sentSerialA Key.sentSerialB), lo := l.code (k Key.sentLoA Key.sentLoB),
    hi := l.code (k Key.sentHiA Key.sentHiB), mask := l.codeN (k Key.sentStatusMaskA Key.sentStatusMaskB),
    timeout := l.codeN (k Key.sentTimeoutA Key.sentTimeoutB) }

end Sys2Proof.Machine

namespace Sys2Proof
open Machine

/-- A pulse in ticks, by the frame's calibration pulse of 56 ticks (R214). -/
def SentRaw.ticks (f : SentRaw) (x : Nat) : Rat := 56 * (x : Rat) / (f.cal : Rat)

/-- The nibble of a pulse: 12 ticks stand for 0. -/
def SentRaw.nibble (f : SentRaw) (x : Nat) : Nat := (roundAway (f.ticks x) - 12).toNat

/-- Check 1 of R215. -/
def SentRaw.calOk (f : SentRaw) (q : SentPar) (prev : Option Nat) : Bool :=
  let t : Rat := (f.cal : Rat) * 25 / 2 / 56
  decide (absQ (t - q.tickNs) ≤ q.tickNs / 5) &&
  match prev with
  | none => true
  | some c => decide (absQ ((f.cal : Rat) - c) ≤ (c : Rat) / 64)

/-- Check 2 of R215; a frame carries the configured number of data pulses. A pause where none is configured is no pulse of a frame
and fails (R214; DEDUCED). -/
def SentRaw.pulsesOk (f : SentRaw) (q : SentPar) : Bool :=
  let ok := fun x => decide ((23 / 2 : Rat) ≤ f.ticks x) && decide (f.ticks x ≤ 55 / 2)
  let total := f.cal + f.status + f.data.sum + f.crc + f.pause.getD 0
  f.data.length == q.nibbles && ok f.status && f.data.all ok && ok f.crc &&
  (match f.pause with
   | none => true
   | some x => q.pause != 0 && decide (12 ≤ f.ticks x) && decide (f.ticks x ≤ 768)) &&
  (q.pause != 2 || decide (absQ (f.ticks total - q.frame) ≤ 1))

/-- The data nibbles. -/
def SentRaw.nibbles (f : SentRaw) : List (BitVec 4) := f.data.map (fun x => BitVec.ofNat 4 (f.nibble x))

/-- D of R216: the first BITS / 4 nibbles, most significant first. -/
def SentRaw.value (f : SentRaw) (q : SentPar) : Nat :=
  (f.nibbles.take (q.bits / 4)).foldl (fun a x => a * 16 + x.toNat) 0

end Sys2Proof

namespace Sys2Proof.Machine

/-- A of R216 in axis units. -/
def SentPar.scale (q : SentPar) (d : Nat) : Int :=
  clamp32 (roundAway (((d : Rat) - (q.lo + q.hi : Int) / 2) * 4294967296 / (q.hi - q.lo : Int)))

/-- Check 5 of R215; with serial messages bits 3 and 2 of the status nibble are left out (R219). -/
def SentPar.statusOk (q : SentPar) (nib : Nat) : Bool :=
  (nib &&& (if q.serial = 0 then q.mask else q.mask &&& 3)) == 0

/-- A frame is discarded with the error bit of the check that failed (R215). -/
def SentSt.discard (x : SentSt) (k : Nat) : SentSt :=
  { x with errs := x.errs ||| (1#5 <<< k), cDiscard := satInc x.cDiscard }

/-- The port as every frame leaves it: the measured tick and the calibration pulse the next frame is compared with. -/
def SentSt.noteCal (x : SentSt) (f : SentRaw) : SentSt :=
  { x with tick := BitVec.ofNat 16 (roundAway ((f.cal : Rat) / 56)).toNat, prevCal := some f.cal }

/-- The port with the nibbles of a frame whose pulses passed check 2 (R235). -/
def SentSt.noteNibbles (x : SentSt) (f : SentRaw) : SentSt :=
  { x with nibble := BitVec.ofNat 4 (f.nibble f.status),
           raw := BitVec.ofNat 32 (f.nibbles.foldl (fun a y => a * 16 + y.toNat) 0) }

/-- Bits 3 and 2 of a status nibble join those of the serial message in progress (R219). -/
def SentSt.noteBits (x : SentSt) (q : SentPar) (nib : Nat) : SentSt :=
  if q.serial = 0 then x else { x with bits := ((nib.testBit 3, nib.testBit 2) :: x.bits).take 18 }

/-- The outcome of R215 for one frame: the port and whether a check failed. Error bits order: timing 4, CRC 3, range 2,
status nibble 1, timeout 0. -/
def SentSt.take (x : SentSt) (q : SentPar) (f : SentRaw) (stamp now : Nat) : SentSt × Bool :=
  let y := x.noteCal f
  if f.calOk q x.prevCal = false ∨ f.pulsesOk q = false then ({ y.discard 4 with bits := [] }, true)
  else
    let y := y.noteNibbles f
    if Config.sentCrc q.crc f.nibbles ≠ BitVec.ofNat 4 (f.nibble f.crc) then ({ y.discard 3 with bits := [] }, true)
    else
    let y := y.noteBits q (f.nibble f.status)
    if (f.value q : Int) < q.lo ∨ q.hi < (f.value q : Int) then (y.discard 2, true)
    else
      let ok := q.statusOk (f.nibble f.status)
      ({ y with errs := if ok then 0 else 2, value := q.scale (f.value q), accepted := true, okStatus := ok,
                stamp := stamp, last := now, cAccept := y.cAccept + 1 }, !ok)

/-- SENT_FRAME (R214 to R217, R231): the frame is checked and its value accepted or discarded; a failing check is logged; the
compare slots on SENTA see an accepted value; the agreement of R91 and the slots (R234) follow the port's validity. The stamp is the
instant at which the CRC nibble ended. -/
def execSentFrame (t : Nat) (n : Lane) (p : SentPort) (f : SentRaw) (s : State) : Host.Outcome State Fault Refusal :=
  let s := s.at_ t
  if !(s.lane n).sup.svccOn then done s
  else
    let l := s.lane n
    let end_ := t - (f.pause.getD 0) * 25 / 2
    let r := (l.sent p).take (l.sentPar p) f (l.time.reading end_).toNat t
    let s := s.onLane n (·.onSent p (fun _ => r.1))
    let s := if r.2 then s.log n 0x0401 (portAddr n p.num) else s
    let s := if p = .a ∧ r.1.cAccept ≠ (l.sent p).cAccept ∧ (l.sent p).accepted = true then
        s.onLane n (fun l' => l'.followSlots true (BitVec.ofNat 64 r.1.stamp) (l.sent p).value r.1.value) else s
    let s := if s.sentOut n p && !((s.lane n).sent p).aside then s.agreeSent n p false else s
    done (s.reslot n)

/-- The port with one more serial message: the newest per ID, at most 16 IDs, the oldest overwritten (R219). -/
def SentSt.putSerial (x : SentSt) (id : Byte) (data : Half) : SentSt :=
  { x with serial := ((id, data) :: x.serial.filter (fun e => e.1 != id)).take 16,
           idSeen := if 0x29 ≤ id ∧ id ≤ 0x2C then x.idSeen ||| (1#4 <<< (id.toNat - 0x29)) else x.idSeen }

/-- The stored die identity of a lane's port (R382). -/
def CalRec.id (c : CalRec) (n : Lane) (p : SentPort) : Option Dword :=
  let ids : List (Lane × Dword) := match p with
    | .a => c.idA
    | .b => c.idB
  (ids.find? (fun e => e.1 == n)).map (fun e => e.2)

/-- A die identity that differs from the stored one (R382): logged; in Ready a calibration-stamp mismatch, in Run or Limp
the port's value is invalid until the axis is homed again. -/
def State.checkIdentity (s : State) (n : Lane) (p : SentPort) : State :=
  let l := s.lane n
  match (l.sent p).identity, l.cal.id n p with
  | some a, some b =>
    if a = b then s
    else
      let s := s.log n 0x0413 (portAddr n p.num)
      match s.m.mode with
      | .ready => s.onLanes (fun _ l => { l with stampBad := true })
      | .run | .limp => (s.onLane n (·.onSent p (fun x => { x with idWrong := true }))).reslot n
      | _ => s
  | _, _ => s

/-- The number a list of bits spells, most significant first. -/
def bitsNat (b : List Bool) : Nat := b.foldl (fun a x => 2 * a + bit x) 0

/-- The serial message that the newest status bits complete, oldest first: its ID, its data and whether its CRC is right (R214,
R219). PRESUMED: the frames of both formats are those of SAE J2716, which the manual names and does not lay out. Short: 16 frames,
bit 3 set in the first alone, bit 2 carrying a 4-bit ID, 8 bits of data and a 4-bit CRC. Enhanced: 18 frames, bit 3 set in the
first six and clear in the 7th, 13th and 18th, the configuration bit in the 8th; bit 2 carries a 6-bit CRC and 12 bits of data;
bit 3 of frames 9 to 12 and 14 to 17 carries 8 bits of ID, or with the configuration bit set a 4-bit ID and the upper 4 of 16 bits
of data. -/
def serialOf (kind : Nat) (bits : List (Bool × Bool)) : Option (Byte × Half × Bool) :=
  if kind = 1 then
    let f := (bits.take 16).reverse
    let b3 := f.map (·.1)
    let b2 := f.map (·.2)
    if f.length = 16 ∧ b3 = true :: List.replicate 15 false then
      some (BitVec.ofNat 8 (bitsNat (b2.take 4)), BitVec.ofNat 16 (bitsNat ((b2.drop 4).take 8)),
        Config.serialCrc4 (b2.take 12) == BitVec.ofNat 4 (bitsNat (b2.drop 12)))
    else none
  else if kind = 2 then
    let f := (bits.take 18).reverse
    let b3 := f.map (·.1)
    let b2 := f.map (·.2)
    let at3 := fun k => b3.getD k false
    if f.length = 18 ∧ b3.take 7 = List.replicate 6 true ++ [false] ∧ at3 12 = false ∧ at3 17 = false then
      let hi := (b3.drop 8).take 4
      let lo := (b3.drop 13).take 4
      let data := b2.drop 6
      let crc := Config.serialCrc6 ((f.drop 6).flatMap (fun e => [e.2, e.1])) == BitVec.ofNat 6 (bitsNat (b2.take 6))
      some (if at3 7 then (BitVec.ofNat 8 (bitsNat hi), BitVec.ofNat 16 (bitsNat (lo ++ data)), crc)
        else (BitVec.ofNat 8 (bitsNat (hi ++ lo)), BitVec.ofNat 16 (bitsNat data), crc))
    else none
  else none

/-- SENT_SERIAL_MESSAGE (R219, R382): the status bits complete a message. One with a bad CRC counts; a good one is kept, and once
all four identity messages have come, the die identity is compared. -/
def execSentSerialMessage (t : Nat) (n : Lane) (p : SentPort) (id : Byte) (data : Half) (crcOk : Bool) (s : State) : Host.Outcome State Fault Refusal :=
  let s := s.at_ t
  let l := s.lane n
  let kind := (l.sentPar p).serial
  match serialOf kind (l.sent p).bits with
  | none => done s
  | some m =>
    if m ≠ (id, data, crcOk) then done s else
    let s := s.onLane n (·.onSent p (fun x => { x with bits := [] }))
    if !l.sup.svccOn then done s
    else if m.2.2 = false then done (s.onLane n (·.onSent p (fun x => { x with cSerial := satInc x.cSerial })))
    else
      let had := (l.sent p).idSeen
      let s := s.onLane n (·.onSent p (·.putSerial m.1 m.2.1))
      if kind = 2 ∧ had ≠ 15 ∧ ((s.lane n).sent p).idSeen = 15 then done (s.checkIdentity n p) else done s

/-- The instant from which a port's timeout runs: the newest accepted frame, and not before the end of the start-up
(R217, R218). -/
def LaneSt.timeoutFrom (l : LaneSt) (p : SentPort) : Nat :=
  let x := l.sent p
  let up := x.started + ms (l.codeN Key.sentStartup)
  if x.accepted then max x.last up else up

/-- The timeout of a port in ns (R217). -/
def LaneSt.timeoutNs (l : LaneSt) (p : SentPort) : Rat :=
  let q := l.sentPar p
  (q.timeout * q.frame : Nat) * q.tickNs

/-- SENT_TIMEOUT (R217): once the timeout has passed without an accepted frame, the timeout bit sets, the value is invalid
and SENT_TIMEOUT is logged. The next calibration pulse and the next identity start afresh (R215, R382). -/
def execSentTimeout (t : Nat) (n : Lane) (p : SentPort) (s : State) : Host.Outcome State Fault Refusal :=
  let s := s.at_ t
  let l := s.lane n
  if l.sup.svccOn && !(l.sent p).errs.getLsbD 0 && decide (l.timeoutNs p ≤ ((t - l.timeoutFrom p : Nat) : Rat)) &&
      decide (l.timeoutFrom p ≤ t) then
    let s := s.onLane n (·.onSent p (fun x => { x with
      errs := x.errs ||| 1, cTimeout := satInc x.cTimeout, prevCal := none, idSeen := 0, bits := [] }))
    done ((s.log n 0x0402 (portAddr n p.num)).reslot n)
  else done s

/-! ### The sensor supply (R212) -/

/-- SVCC_FAULT (R212): SVCC_n below 4.50 V for 1 ms sets the supply-fault bit of the five ports, whose values are invalid;
the output folds back. -/
def execSvccFault (t : Nat) (n : Lane) (mv : Nat) (held : Nat) (s : State) : Host.Outcome State Fault Refusal :=
  let s := s.at_ t
  let l := s.lane n
  if l.sup.svccOn && decide (mv < 4500) && decide (ms 1 ≤ held) then
    if l.sup.svccFault then done (s.onSup n (fun u => { u with svcc := mv, svccFold := true }))
    else
      let s := s.onLane n (fun l => { l with
        sup := { l.sup with svcc := mv, svccFault := true, svccFold := true, svccRetry := t }
        quad := { l.quad with valid := false, faultAt := t } })
      done ((s.log n 0x0410 (laneAddr n)).reslot n)
  else done s

/-- A SENT port as SVCC_n rises (R218): its start-up begins and it waits for its first accepted frame. -/
def SentSt.restart (x : SentSt) (t : Nat) : SentSt := { x with started := t, accepted := false, prevCal := none, idSeen := 0, bits := [] }

/-- SVCC_RECOVER (R212, R218): SVCC_n above 4.75 V for 1 ms clears the supply-fault bit; each port regains validity under
its own rules. -/
def execSvccRecover (t : Nat) (n : Lane) (mv : Nat) (held : Nat) (s : State) : Host.Outcome State Fault Refusal :=
  let s := s.at_ t
  let l := s.lane n
  if l.sup.svccOn && l.sup.svccFault && decide (4750 < mv) && decide (ms 1 ≤ held) then
    done ((s.onLane n (fun l => { l with
      sup := { l.sup with svcc := mv, svccFault := false, svccFold := false }
      sentA := l.sentA.restart (t - held)
      sentB := l.sentB.restart (t - held)
      quad := { l.quad with faultAt := t } })).reslot n)
  else done s

/-- SVCC_RETRY (R212): during an overload the output retries at full current every 100 ms. -/
def execSvccRetry (t : Nat) (n : Lane) (s : State) : Host.Outcome State Fault Refusal :=
  let s := s.at_ t
  let u := (s.lane n).sup
  if u.svccOn && u.svccFault && decide (u.svccRetry + ms 100 ≤ t) then
    done (s.onSup n (fun u => { u with svccRetry := t, svccFold := false }))
  else done s

/-! ### The quadrature port (R220 to R224) -/

/-- The place of a level pair in one quadrature turn: QA leads in the positive direction. -/
def quadPhase (a b : Bool) : Nat :=
  match a, b with
  | false, false => 0
  | true, false => 1
  | true, true => 2
  | false, true => 3

/-- The counter after a counted edge, and what the compare slots on the count see of it (R221, R231). -/
def LaneSt.countEdge (l : LaneSt) (stamp : Dword) (q : QuadSt) : LaneSt :=
  { l with quad := q }.followSlots false stamp l.quad.count q.count

/-- QUAD_EDGE (R220 to R222, R231): a level that has been stable for QUAD.FILTER_N samples passes the filter. One line changed
counts one edge in its direction, and the compare slots on the count see it; both changed at once is an illegal transition, which
is not counted. The 10 M edges a second that the decoder accepts are the 1,000 edges in 100 us of R222 (DEDUCED). -/
def execQuadEdge (t : Nat) (n : Lane) (v : QuadLevels) (stable : Nat) (s : State) : Host.Outcome State Fault Refusal :=
  let s := s.at_ t
  let l := s.lane n
  let q := l.quad
  let a := v.a
  let b := v.b
  if l.rst.inReset || decide (stable < l.codeN Key.quadFilterN) || (q.a == a && q.b == b) then done s
  else if q.a != a && q.b != b then
    let win := l.codeN Key.quadIllegalWindow * 100000
    done (s.onLane n (fun l => { l with quad := { q with
      a := a, b := b, qerr := satInc q.qerr, faultAt := t,
      illegal := t :: q.illegal.filter (fun i => decide (t < i + win)) } }))
  else
    let up := (quadPhase a b + 4 - quadPhase q.a q.b) % 4 == 1
    let pos := if l.code Key.quadDirection = 1 then !up else up
    done (s.onLane n (fun l => l.countEdge (s.stamp n) { q with
      a := a, b := b, raw := if pos then q.raw + 1 else q.raw - 1,
      edges := t :: q.edges.filter (fun i => decide (t < i + us 100)) }))

/-- A brake homing run aborts with the QUAD port of its Leader (R256). -/
def State.quadLost (s : State) (n : Lane) : State :=
  if s.hom.running = some Axis.b ∧ n = s.scribe then s.abortHoming 5 else s

/-- QUAD_INVALID (R221): QUAD.ILLEGAL_LIMIT illegal transitions within the window clear position-valid. -/
def execQuadInvalid (t : Nat) (n : Lane) (s : State) : Host.Outcome State Fault Refusal :=
  let s := s.at_ t
  let l := s.lane n
  let win := l.codeN Key.quadIllegalWindow * 100000
  if decide (l.codeN Key.quadIllegalLimit ≤ (l.quad.illegal.filter (fun i => decide (t < i + win))).length) then
    let s := s.onLane n (fun l => { l with quad := { l.quad with valid := false } })
    done (((s.log n 0x0403 (portAddr n 2)).reslot n).quadLost n)
  else done s

/-- QUAD_OVERRATE (R222): more than 1,000 edges in 100 us clear position-valid; the counter keeps counting. -/
def execQuadOverrate (t : Nat) (n : Lane) (s : State) : Host.Outcome State Fault Refusal :=
  let s := s.at_ t
  let l := s.lane n
  if decide (1000 < (l.quad.edges.filter (fun i => decide (t < i + us 100))).length) then
    let s := s.onLane n (fun l => { l with quad := { l.quad with valid := false, overRate := true, faultAt := t } })
    done (((s.log n 0x0411 (portAddr n 2)).reslot n).quadLost n)
  else done s

/-- The valid referenced positions of a lane's peers (R224). -/
def State.peerTravel (s : State) (n : Lane) : List (Lane × Rat) := (s.quadVals n).filter (fun v => v.1 != n)

/-- QUAD_RECOVER (R224): after QUAD.RECOVER without a fault the port takes its offset from the peers' positions and is
valid again; with no valid peer it waits for the next brake homing. -/
def execQuadRecover (t : Nat) (n : Lane) (s : State) : Host.Outcome State Fault Refusal :=
  let s := s.at_ t
  let l := s.lane n
  if !l.quad.valid && !l.sup.svccFault && !l.rst.inReset &&
      decide (l.quad.faultAt + ms (l.codeN Key.quadRecover) ≤ t) then
    match combine ((s.peerTravel n).map (·.2)) with
    | none => done s
    | some p =>
      done ((s.onLane n (fun l => { l with quad := { l.quad with
        offset := l.quad.ext - p.floor, valid := true, refd := true, overRate := false } })).reslot n)
  else done s

/-! ### Switch inputs (R226 to R229) -/

/-- A level is the active one (R226). -/
def LaneSt.swActive (l : LaneSt) (k : SwPort) (high : Bool) : Bool :=
  high == (l.code (match k with | .sw1 => Key.sw1Polarity | .sw2 => Key.sw2Polarity) == 1)

/-- SWx.FILTER in ns. -/
def LaneSt.swFilter (l : LaneSt) (k : SwPort) : Nat :=
  l.codeN (match k with | .sw1 => Key.sw1Filter | .sw2 => Key.sw2Filter) * 100000

/-- SWx.STUCK_TIME in ns, 0 for none. -/
def LaneSt.swStuck (l : LaneSt) (k : SwPort) : Nat :=
  l.codeN (match k with | .sw1 => Key.sw1StuckTime | .sw2 => Key.sw2StuckTime) * 100000000

/-- A filtered state taken at an instant: it starts being active now, or STUCK clears as it becomes inactive (R226,
R228). -/
def SwSt.takeState (x : SwSt) (on : Bool) (t : Nat) : SwSt :=
  { x with state := on, since := if on && !x.state then t else x.since, stuck := x.stuck && on }

/-- Changes of the sampled level at instants, oldest first: those after the newest one known are new, and each turns the level; as
many are kept as the longest window of 100 us samples can hold. -/
def SwSt.noteChanges (x : SwSt) (ats : List Nat) : SwSt :=
  let new := ats.filter (fun a => decide ((x.changes.headD 0) < a) || x.changes.isEmpty)
  { x with changes := (new.reverse ++ x.changes).take 16384, level := x.level != (new.length % 2 == 1) }

/-- SWITCH_CHANGE (R226): a level stable for SWx.FILTER becomes the filtered state, unless an episode of chatter has frozen
it. -/
def execSwitchChange (t : Nat) (n : Lane) (k : SwPort) (high : Bool) (held : Nat) (s : State) :
    Host.Outcome State Fault Refusal :=
  let s := s.at_ t
  let l := s.lane n
  if !l.fitted k || l.rst.inReset then done s
  else
    let s := s.onLane n (·.onSw k (fun x => if x.level = high then x else x.noteChanges [t - held]))
    if (l.sw k).chatter || decide (held < l.swFilter k) then done s
    else done (s.onLane n (·.onSw k (·.takeState (l.swActive k high) t)))

/-- CHATTER (R227): more than SW.CHATTER_K changes in the window set the input aside; its filtered state freezes; logged
once per episode. -/
def execChatter (t : Nat) (n : Lane) (k : SwPort) (ats : List Nat) (s : State) : Host.Outcome State Fault Refusal :=
  let s := s.at_ t
  if !(s.lane n).fitted k || (s.lane n).rst.inReset then done s
  else
    let s := s.onLane n (·.onSw k (·.noteChanges (ats.filter (fun a => decide (a ≤ t)))))
    let l := s.lane n
    if l.codeN Key.swChatterK < (l.sw k).inWindow t (ms (l.codeN Key.swChatterW)) ∧ (l.sw k).chatter = false then
      done ((s.onLane n (·.onSw k (fun x => { x with chatter := true }))).log n 0x0404 (portAddr n k.num))
    else done s

/-- CHATTER_END (R227): a whole window without a change ends the episode; the filtered state is taken from the present
level. -/
def execChatterEnd (t : Nat) (n : Lane) (k : SwPort) (high : Bool) (held : Nat) (s : State) :
    Host.Outcome State Fault Refusal :=
  let s := s.at_ t
  let l := s.lane n
  let w := ms (l.codeN Key.swChatterW)
  if l.fitted k && (l.sw k).chatter && decide (w ≤ held) && (l.sw k).inWindow t w == 0 then
    done (s.onLane n (·.onSw k (fun x => { x.takeState (l.swActive k high) t with chatter := false, level := high })))
  else done s

/-- SW1 active while the rack lies more than SW.END_BAND away from both learned end stops (R228). -/
def State.farFromEnds (s : State) (n : Lane) : Bool :=
  let l := s.lane n
  match l.cal.endNeg, l.cal.endPos with
  | some a, some b =>
    let x := s.measured n .s
    let band := pctUnits (l.val Key.swEndBand)
    decide (band < absQ (x - a)) && decide (band < absQ (x - b))
  | _, _ => false

/-- STUCK (R228): active beyond SWx.STUCK_TIME, or SW1 active far from both end stops; set aside and logged once per
episode; not while the input chatters. -/
def execStuck (t : Nat) (n : Lane) (k : SwPort) (s : State) : Host.Outcome State Fault Refusal :=
  let s := s.at_ t
  let l := s.lane n
  let x := l.sw k
  if l.fitted k && x.state && !x.chatter && !x.stuck &&
      ((l.swStuck k != 0 && decide (x.since + l.swStuck k < t)) || (k == .sw1 && s.farFromEnds n)) then
    done ((s.onLane n (·.onSw k (fun x => { x with stuck := true }))).log n 0x0405 (portAddr n k.num))
  else done s

/-! ### Position compare (R230 to R234) -/

/-- COMPARE_FIRE (R231, R232): the crossing that a slot has found in its sample or frame fires it. -/
def execCompareFire (t : Nat) (n : Lane) (k : BitVec 2) (stamp : Dword) (v : Int) (s : State) : Host.Outcome State Fault Refusal :=
  let s := s.at_ t
  if (s.lane n).state = .active ∧ ((s.lane n).slot k).hit = some (stamp, v) then done (s.onLane n (·.onSlot k SlotSt.fireHit)) else done s

/-- The fields of COMPARE_SET after the lane code lie in their ranges (R230, R368). -/
def compareFieldsOk (p : List Byte) : Bool :=
  decide (rd p 1 1 ≤ 3) && decide (rd p 2 1 ≤ 1) && decide (rd p 3 1 ≤ 1) && decide (rd p 4 1 ≤ 2) && decide (rd p 5 1 ≤ 1) &&
  (rd p 3 1 != 1 || clamp32 (rdI p 8 8) == rdI p 8 8)

/-- A slot takes a setting (R230, R232 to R234): a crossing of the old value found before fires first; then the slot is disarmed, or armed against the present source value; with fire-behind a
value that is behind fires at once. -/
def State.setSlot (s : State) (n : Lane) (p : List Byte) : State :=
  let k : BitVec 2 := BitVec.ofNat 2 (rd p 1 1)
  let s := s.onLane n (·.onSlot k (fun c => { c.fireHit with
    sentA := rd p 3 1 == 1, dir := BitVec.ofNat 2 (rd p 4 1), value := rdI p 8 8, behind := false, state := 0, hit := none }))
  if rd p 2 1 = 0 then s
  else
    let s := s.armSlot n k
    if rd p 5 1 = 1 ∧ ((s.lane n).slot k).state = 2 then
      let l := s.lane n
      s.onLane n (·.onSlot k (·.fire (s.stamp n) (l.slotSource (l.slot k)) true))
    else s

/-- The lane that COMPARE_SET names (R368). -/
def Call.slotLane (c : Call) : Lane := (Lane.ofCode? (BitVec.ofNat 8 (rd c.p 0 1))).getD .l1

/-- COMPARE_SET's checks (R4, R230, R356, R368, R386): a byte that is no lane code is itself the logged address; then the other
fields, the tests of a motion command, FAULT_LANE for a lane that is not Active and FAULT_SENSOR for a QUAD port marked unusable. -/
def chkCompareSet : MotionCheck := fun s n c =>
  let m := c.slotLane
  firstErr (((Lane.ofCode? (BitVec.ofNat 8 (rd c.p 0 1))).isNone, 0x12, BitVec.ofNat 32 (rd c.p 0 1)) ::
    (!compareFieldsOk c.p, 0x12, c.opAddr) :: s.motionTests n c.opAddr [] false false false false ++
    [((s.lane m).state != .active, 0x30, laneAddr m), ((s.lane m).mapBit 12, 0x32, portAddr m 2)])

/-- The relay item of a setting for another lane (R230, R234): the epoch and the parameter bytes. DESIGN CHOICE: type and layout. -/
def settingItem (epoch : Half) (p : List Byte) : List Byte := mkItem 0x62 (beBytes 2 epoch.toNat ++ p.take 16)

/-- A setting reaches the lane it names in the relay stream (R230); one of another epoch is discarded and counts as stale (R66,
R234). -/
def State.takeSetting (s : State) (src dst : Lane) : State :=
  s.onNext src dst 0x62 (fun s b =>
    if rd b 3 2 = (s.lane dst).epoch.toNat then s.setSlot dst (b.drop 5)
    else s.onCtr dst (fun c => { c with stale := satInc c.stale }))

/-- The Leader carries out COMPARE_SET: its own slot takes the setting, that of another lane by the relay stream; S2 then reports
the sequence number (R37, R230). -/
def State.applyCompareSet (s : State) (n : Lane) (c : Call) : State :=
  let s := if c.slotLane = n then s.setSlot n c.p else s.pushItem n c.slotLane (settingItem (s.lane n).epoch c.p)
  (s.onProf n (fun p => { p with lastSeq := c.r.seq })).motionApplied.endSteerHold

/-- COMPARE_SET at the Leader (R230). The Leader of a module that follows a twin Leader holds it (R76). -/
def handleCompareSet : Handler := fun s n c =>
  match chkCompareSet s n c with
  | some e => .err e.1 e.2
  | none => .ok (if s.twinFollows then s.holdCommand n c else s.applyCompareSet n c) []

/-- COMPARE_SET (R230): the Deputy checks and holds it as it does every motion command (R43, R67). -/
def execCompareSet (r : Req) (s : State) : Host.Outcome State Fault Refusal :=
  done (s.fcp 0x0C03 r handleCompareSet (holdMotion chkCompareSet))

end Sys2Proof.Machine
end

