-- ==== Sys2Proof/Machine/Supply.lean ====
section
/-! DEFINITION. Shedding levels, hold-only, self-quench and restart, the overvoltage stages, the Geyser and the active
short, and MEASURE_SUPPLY (Lane Supplies, Overvoltage and Load Shedding; Power Legs R127 to R133). -/

namespace Sys2Proof.Machine

/-! ### Shedding (R396 to R399) -/

/-- The falling threshold of a level in mV (R396, R397); levels 5 and 6 have commands of their own or depend on arming. -/
def shedFall (profile level : Nat) : Nat :=
  match level with
  | 1 => if profile = 1 then 30000 else if profile = 2 then 24000 else 26000
  | 2 => if profile = 1 then 28000 else if profile = 2 then 22000 else 24000
  | 3 => if profile = 1 then 24000 else if profile = 2 then 20000 else 22000
  | 4 => 16000
  | 6 => 12000
  | _ => 0

/-- The falling qualification of a level in ns (R396). -/
def LaneSt.shedTime (l : LaneSt) (level : Nat) : Nat :=
  if level ≤ 3 then l.codeN Key.shedQualify * 100000 else if level = 4 then us 100 else us 20

/-- The levels that a lane enters and leaves by comparators. -/
def shedLevels : List Nat := [1, 2, 3, 4, 6]

/-- The levels a comparison holds for, each with the instant since when it has. -/
def heldSince (old : List (Nat × Nat)) (hit : Nat → Bool) (now : Nat) : List (Nat × Nat) :=
  (shedLevels.filter hit).map (fun k => (k, ((old.find? (fun e => e.1 == k)).map (fun e => e.2)).getD now))

/-- Such a comparison has held for a time. -/
def heldFor (l : List (Nat × Nat)) (k d now : Nat) : Bool := l.any (fun e => e.1 == k && decide (e.2 + d ≤ now))

/-- The comparators of a lane's levels follow its effective supply; every level has its own timers (R395, R396). -/
def LaneSt.shedTrack (l : LaneSt) (now : Nat) : LaneSt :=
  let v := l.sup.eff
  let fall := shedFall (l.codeN Key.shedProfile)
  { l with sup := { l.sup with
    under := heldSince l.sup.under (fun k => decide (v < fall k)) now
    above := heldSince l.sup.above (fun k => decide (fall k + 1000 ≤ v)) now } }

/-- The levels a lane holds now (R396, R401): those whose falling qualification has passed, level 6 only while the self-quench is not
armed, and those it held whose rising threshold has not stood for SHED.RECOVER; out of level 6 comes level 4. -/
def LaneSt.shedHeld (l : LaneSt) (now : Nat) : List Nat :=
  let left := fun k => heldFor l.sup.above k (ms (l.codeN Key.shedRecover)) now
  shedLevels.filter (fun k =>
    (heldFor l.sup.under k (l.shedTime k) now && (k != 6 || !l.sup.armed)) || (l.sup.levels.contains k && !left k) ||
    (k == 4 && l.sup.levels.contains 6 && left 6))

/-- The deepest of some levels. -/
def deepest (ks : List Nat) : Nat := ks.foldl max 0

/-- The module enters or leaves hold-only (R399): steer stops, the brake holds, the vehicle-stop request rises, and the Leader
logs the entry. -/
def State.reviewHoldOnly (s : State) : State :=
  let due := s.holdOnlyDue s.scribe
  if s.m.mode.votes = false ∨ due = s.m.holdOnly then s
  else if due then
    let s := s.onM (fun m => { m with holdOnly := true })
    let s := if s.m.mode = .run ∨ s.m.mode = .limp then s.onEngines State.effStop else s
    s.requestStop.logLeader 0x090B 0
  else s.onM (fun m => { m with holdOnly := false })

/-- Service activity ends while an Active lane is at level 1 or deeper (R275, R379, R387, R398). -/
def State.stopServiceWork (s : State) : State :=
  if s.actives.any (fun n => (s.lane n).sup.level != 0) then
    let s := s.endTest.endLoad.endCable
    if s.m.mode = .service then s.endService else s
  else s

/-- A lane takes a shedding level (R396): logged with both levels by the lane and by the Leader (R97); level 6 suspends its sets
(R401); the shares re-form at the next 8 kHz step (R170). -/
def State.setLevel (s : State) (n : Lane) (new : Nat) : State :=
  let old := (s.lane n).sup.level.toNat
  if new = old then s
  else
    let s := s.onSup n (fun p => { p with level := BitVec.ofNat 8 new, resumed := p.resumed && new != 6 })
    let s := s.logModule n 0x0908 (laneAddr n) (BitVec.ofNat 64 (new * 2 ^ 56 + old * 2 ^ 48))
    let s := if new = 6 then (s.onLane n LaneSt.floatLegs).logModule n 0x090A (laneAddr n) else s
    let s := if old = 6 then (s.onSup n (fun p => { p with resumeAt := s.now })).onLane n (fun l => { l with
        s := { l.s with obs := { l.s.obs with caught := false, sweepFrom := none, region := 3 } }
        b := { l.b with obs := { l.b.obs with caught := false, sweepFrom := none, region := 3 } } }) else s
    s.stopServiceWork.reviewHoldOnly.checkLimp

/-- SUPPLY_SHED (R395, R396): the comparators see VSUP_n and the DC link, at a crossing of a threshold or at the end of a
qualification; the lane reports the deepest level it holds. In reset the supply may end causes 1 and 2 (R413). -/
def execSupplyShed (t : Nat) (n : Lane) (vsup : Nat) (link : Nat) (s : State) : Host.Outcome State Fault Refusal :=
  let s := (s.at_ t).seeSupply n vsup link
  let l := s.lane n
  if l.rst.inReset then done (s.supplyBack n l.sup.eff)
  else if l.state == .off || l.sup.level == 5 then done s
  else
    let s := s.onLane n (·.shedTrack t)
    let ks := (s.lane n).shedHeld t
    done ((s.onSup n (fun p => { p with levels := ks })).setLevel n (deepest ks))

/-- A lane quenches itself for want of supply (R400, R402): through the supply path only while no vote stands against it. -/
def State.supplyQuench (s : State) (n : Lane) : State :=
  let s := (s.log n 0x0804 (laneAddr n)).setLevel n 5
  let s := s.setCaldera n 2
  let s := s.onVote n (fun v => { v with supplyOnly := (s.voters n).isEmpty })
  s.checkLimp

/-- SUPPLY_QUENCH (R395, R400): the armed 14 V comparator sets the Caldera; the lane is quenched through the supply path only while
no vote stands against it. -/
def execSupplyQuench (t : Nat) (n : Lane) (v : SupplyMv) (held : Nat) (s : State) : Host.Outcome State Fault Refusal :=
  let s := (s.at_ t).seeSupply n v.vsup v.link
  let l := s.lane n
  if l.sup.armed && !l.vote.caldera && !l.rst.inReset && decide (l.sup.eff < 14000) && decide (us 20 ≤ held) then done (s.supplyQuench n)
  else done s

/-- SUPPLY_RESTART (R402): a lane quenched only through the supply path, with no vote against it, re-applies its internal
supplies; this counts as a power cycle. -/
def execSupplyRestart (t : Nat) (n : Lane) (v : SupplyMv) (held : Nat) (s : State) : Host.Outcome State Fault Refusal :=
  let s := (s.at_ t).seeSupply n v.vsup v.link
  let l := s.lane n
  let recent := l.sup.restarts.filter (fun a => decide (t < a + ms 600000))
  if l.vote.caldera && l.vote.supplyOnly && (s.voters n).isEmpty && decide (15000 ≤ l.sup.eff) &&
      decide (ms (l.codeN Key.supplyRestartDelay) ≤ held) && decide (recent.length < l.codeN Key.supplyRestartMax) then
    let s := s.log n 0x0B15 (laneAddr n)
    let s := (s.resetLane n 3).onSup n (fun p => { p with restarts := t :: recent })
    done (s.clearCause n 3)
  else done s

/-! ### The input disconnect under overvoltage (R133, R406) -/

/-- SUPPLY_OV_OPEN (R406). -/
def execSupplyOvOpen (t : Nat) (n : Lane) (mv : Nat) (s : State) : Host.Outcome State Fault Refusal :=
  let s := (s.at_ t).onSup n (fun p => { p with vsup := mv })
  if 61000 ≤ mv ∧ (s.lane n).sup.ovOpen = false ∧ ((s.lane n).sup.disc ≠ 0 ∨ (s.lane n).sup.linkOpen = true) then
    done ((s.onSup n (fun p => { p with disc := 0, ovOpen := true })).logModule n 0x0909 (laneAddr n))
  else done s

/-- SUPPLY_OV_CLOSE (R406): below 58.0 V for 1 ms; the disconnect closes unless the DC link keeps it open. -/
def execSupplyOvClose (t : Nat) (n : Lane) (mv : Nat) (held : Nat) (s : State) : Host.Outcome State Fault Refusal :=
  let s := (s.at_ t).onSup n (fun p => { p with vsup := mv })
  if (s.lane n).sup.ovOpen = true ∧ mv < 58000 ∧ ms 1 ≤ held then
    done (s.onSup n (fun p => { p with ovOpen := false, disc := if p.linkOpen || p.geyOpen then 0 else 2 }))
  else done s

/-- INPUT_DISCONNECT_OPEN (R133): also while R406 holds the disconnect open. -/
def execInputDisconnectOpen (t : Nat) (n : Lane) (mv : Nat) (s : State) : Host.Outcome State Fault Refusal :=
  let s := (s.at_ t).onSup n (fun p => { p with link := mv })
  if 68000 ≤ mv ∧ ((s.lane n).sup.disc ≠ 0 ∨ (s.lane n).sup.ovOpen = true) then
    done (s.onSup n (fun p => { p with disc := 0, linkOpen := true }))
  else done s

/-- INPUT_DISCONNECT_CLOSE (R133): both below 64.0 V for 100 us; it stays open under R406. -/
def execInputDisconnectClose (t : Nat) (n : Lane) (vsup : Nat) (mv : Nat) (held : Nat) (s : State) :
    Host.Outcome State Fault Refusal :=
  let s := (s.at_ t).onSup n (fun p => { p with vsup := vsup, link := mv })
  if (s.lane n).sup.linkOpen = true ∧ vsup < 64000 ∧ mv < 64000 ∧ us 100 ≤ held then
    done (s.onSup n (fun p => { p with linkOpen := false, disc := if p.ovOpen || p.geyOpen then 0 else 2 }))
  else done s

/-! ### The Geyser (R128 to R131) -/

/-- The Geyser of a lane changed. -/
def State.onGey (s : State) (n : Lane) (f : Gey → Gey) : State := s.onLane n (fun l => { l with gey := f l.gey })

/-- The switch is on: some path asks for it and its temperature comparator does not block it (R128, R131). -/
def Gey.on (g : Gey) : Bool := (g.fw || g.hw) && !g.hot

/-- A path asks or ceases to ask; the fault flag of R129 lasts as long as the event, and a blocked turn-on is logged while
the firmware runs (R131). DEDUCED: "each block" of R131 is the comparator's crossing (GEYSER_HOT) as well as every turn-on it
blocks; the manual does not say which of the two it counts. -/
def State.askGeyser (s : State) (n : Lane) (f : Gey → Gey) : State :=
  let g := (s.lane n).gey
  let s := s.onGey n (fun g => let g' := f g; { g' with fault := g'.fault && (g'.fw || g'.hw) })
  let g' := (s.lane n).gey
  if !(g.fw || g.hw) && (g'.fw || g'.hw) && g'.hot && !(s.lane n).rst.inReset then s.log n 0x0206 (geyserAddr n) else s

/-- FIRMWARE_GEYSER (R128, R406): on at 58.5 V rising, off at 57.5 V falling after at least 5 us, while the lane controller
runs in Ready, Run, Limp or Service, and not while the disconnect conducts forward. -/
def execFirmwareGeyser (t : Nat) (n : Lane) (mv : Nat) (s : State) : Host.Outcome State Fault Refusal :=
  let s := (s.at_ t).onSup n (fun p => { p with link := mv })
  let l := s.lane n
  let can := !l.rst.inReset && l.rst.bootFailed.isNone && s.m.mode.votes && l.sup.disc != 2
  if can && !l.gey.fw && decide (58500 ≤ mv) then done (s.askGeyser n (fun g => { g with fw := true, onAt := t }))
  else if l.gey.fw && decide (mv ≤ 57500) && decide (l.gey.onAt + us 5 ≤ t) then
    done (s.askGeyser n (fun g => { g with fw := false }))
  else done s

/-- HARDWARE_GEYSER (R128): on at 62.0 V rising, off at 61.0 V falling, always available. -/
def execHardwareGeyser (t : Nat) (n : Lane) (mv : Nat) (s : State) : Host.Outcome State Fault Refusal :=
  let s := (s.at_ t).onSup n (fun p => { p with link := mv })
  let g := (s.lane n).gey
  if !g.hw && decide (62000 ≤ mv) then done (s.askGeyser n (fun g => { g with hw := true }))
  else if g.hw && decide (mv ≤ 61000) then done (s.askGeyser n (fun g => { g with hw := false }))
  else done s

/-- A GEYSER_FAIL of a kind with the measured resistance in 0.01 ohm: logged, and the Geyser is unusable (R126, R129). -/
def State.failGeyser (s : State) (n : Lane) (kind r : Nat) : State :=
  (s.onGey n (fun g => { g with bad := true })).log n 0x0205 (geyserAddr n)
    (BitVec.ofNat 64 (kind * 2 ^ 56 + min 0xFFFF r * 2 ^ 32))

/-- GEYSER_CURRENT_CHECK (R129): below 25 % of the nominal current the switch is faulty for the rest of the event; the
firmware, while it runs, marks it unusable; the lane's regenerative shares follow at the next 8 kHz step (R171). A blocked turn-on
is not checked (R131). DESIGN CHOICE: the resistance field of this entry and of kind 2 (R130), where none is measured, is 0. -/
def execGeyserCurrentCheck (t : Nat) (n : Lane) (mv : Nat) (i : Nat) (s : State) : Host.Outcome State Fault Refusal :=
  let s := (s.at_ t).onSup n (fun p => { p with link := mv })
  let l := s.lane n
  if l.gey.on && decide (4 * (i : Rat) * l.val Key.geyserRNominal < mv) then
    let s := s.onGey n (fun g => { g with fault := true })
    done (if l.rst.inReset then s else s.failGeyser n 1 0)
  else done s

/-- GEYSER_NOT_BLOCKING (R130): more than 1 A for 10 us while neither path asks: the disconnect opens for good and the lane
requests its quench. -/
def execGeyserNotBlocking (t : Nat) (n : Lane) (i : Nat) (held : Nat) (s : State) : Host.Outcome State Fault Refusal :=
  let s := s.at_ t
  let l := s.lane n
  if !l.gey.fw && !l.gey.hw && decide (1000 < i) && decide (us 10 ≤ held) && !l.rst.inReset then
    let s := (s.failGeyser n 2 0).onSup n (fun p => { p with disc := 0, geyOpen := true })
    done (s.quenchRequest n).checkLimp
  else done s

/-- GEYSER_HOT (R131): above 150 C both paths are blocked; logged while the firmware runs. -/
def execGeyserHot (t : Nat) (n : Lane) (temp : Int) (s : State) : Host.Outcome State Fault Refusal :=
  let s := (s.at_ t).onGey n (fun g => { g with temp := temp })
  if 2400 < temp ∧ (s.lane n).gey.hot = false then
    let s := s.onGey n (fun g => { g with hot := true })
    done (if (s.lane n).rst.inReset then s else s.log n 0x0206 (geyserAddr n))
  else done s

/-- GEYSER_HOT_RELEASE (R131): below 130 C. -/
def execGeyserHotRelease (t : Nat) (n : Lane) (temp : Int) (s : State) : Host.Outcome State Fault Refusal :=
  let s := (s.at_ t).onGey n (fun g => { g with temp := temp })
  if temp < 2080 then done (s.onGey n (fun g => { g with hot := false })) else done s

/-! ### The active short (R132) -/

/-- A set that the active short takes: it fed power into the link, and nothing but an open leg holds it high-impedance. -/
def State.shortable (s : State) (n : Lane) (x : Axis) : Bool :=
  let l := s.lane n
  let c := l.set x
  c.flowIn && !c.short && !l.mapBit x.mapBit && !l.vote.caldera && (s.counting n).isEmpty

/-- ACTIVE_SHORT (R132): at 62.0 V with the Geyser unusable, faulty or blocked, in Ready, Run, Limp and Service, in an Active
or Rejoining lane; the lane's own shares re-form at once, its peers' from the share of zero in its next frame (R172). -/
def execActiveShort (t : Nat) (n : Lane) (mv : Nat) (s : State) : Host.Outcome State Fault Refusal :=
  let s := (s.at_ t).onSup n (fun p => { p with link := mv })
  let l := s.lane n
  if decide (62000 ≤ mv) && (l.geyserBad || l.gey.fault) && s.m.mode.votes &&
      (l.state == .active || l.state == .rejoining) then
    let s := [Axis.s, Axis.b].foldl (fun s x =>
      if s.shortable n x then
        (s.onSet n x (fun c => { c with short := true, shortAt := t, share := 0 })).log n 0x0304 (setAddr n x)
      else s) s
    done (s.reform n)
  else done s

/-- The peak line-to-line back-EMF of a set in mV at the consensus speed: sqrt 3 times the electrical speed times the flux
measured in catch-spin, or the parameter before one (R132, R200). -/
def State.emfPeak (s : State) (n : Lane) (x : Axis) : Rat :=
  let l := s.lane n
  let psi : Rat := match ((l.set x).obs.psi : Option Nat) with
    | some p => (p : Rat) / 100
    | none => l.val (match x with | .s => Key.steerPsi | .b => Key.brakePsi)
  Config.sqrt 3 * 2 * Config.pi * (absQ (s.omega n x) / 10) * psi

/-- ACTIVE_SHORT_END (R132): after 10 ms, with the link below 58.5 V and the back-EMF below 90 % of it, the set returns to
field control; its share follows at the next 8 kHz step (R171). -/
def execActiveShortEnd (t : Nat) (n : Lane) (x : Axis) (mv : Nat) (s : State) : Host.Outcome State Fault Refusal :=
  let s := (s.at_ t).onSup n (fun p => { p with link := mv })
  let c := (s.lane n).set x
  if c.short && decide (c.shortAt + ms 10 ≤ t) && decide (mv < 58500) && decide (s.emfPeak n x < (mv : Rat) * 9 / 10) then
    done (s.onSet n x (fun c => { c with short := false }))
  else done s

/-! ### MEASURE_SUPPLY (R362, R374, R375) -/

/-- SUPPLY_ITEM (R374): a peer's entry is kept with its instant. -/
def execSupplyItem (t : Nat) (src : Lane) (dst : Lane) (e : SupplyEntry) (s : State) : Host.Outcome State Fault Refusal :=
  done ((s.at_ t).onItem src dst 0x40 (supplyItemBytes e) (fun s b =>
    s.onLink src dst (fun k => { k with supply := some (supplyOf b), supplyAt := s.now })))

end Sys2Proof.Machine

namespace Sys2Proof
open Machine

/-- A lane's entry as bytes (R362). -/
def SupplyEntry.bytes (e : SupplyEntry) (flags : Nat) : List Byte :=
  beBytes 2 e.vsup.toNat ++ beBytes 2 e.link.toNat ++ beBytes 2 e.svcc.toNat ++
  [e.level, BitVec.ofNat 8 (bit e.discOpen + flags)]

end Sys2Proof

namespace Sys2Proof.Machine

/-- A lane's own entry (R374): the means of its supply and link over the last completed basic cycle. DESIGN CHOICE: SVCC_n as its
monitor last showed it; no event of the table carries the samples of its own mean. -/
def LaneSt.supplyEntry (l : LaneSt) : SupplyEntry :=
  { discOpen := l.sup.disc == 0, vsup := BitVec.ofNat 16 (l.sup.means.1 / 20), link := BitVec.ofNat 16 (l.sup.means.2 / 20),
    svcc := BitVec.ofNat 16 l.sup.svcc, level := l.sup.level }

/-- The entry of lane m as lane n reports it (R375). -/
def State.supplyBytes (s : State) (n m : Lane) : List Byte :=
  let none_ : SupplyEntry := { discOpen := false, vsup := 0, link := 0, svcc := 0, level := 0 }
  if n = m then (s.lane n).supplyEntry.bytes 0
  else
    let k := s.link m n
    match k.supply with
    | some e => if !k.absent && decide (s.now ≤ k.supplyAt + ms 3) then e.bytes 2 else none_.bytes 4
    | none => none_.bytes 4

/-- MEASURE_SUPPLY at the lane that answers, read piecewise (R352, R375). -/
def handleMeasureSupply : Handler := fun s n c =>
  s.piecewise n c (rd c.p 0 2) ((allLanes.map (s.supplyBytes n)).flatten)

/-- MEASURE_SUPPLY (R375). -/
def execMeasureSupply (r : Req) (s : State) : Host.Outcome State Fault Refusal :=
  done (s.fcp 0x0603 r handleMeasureSupply noPart)

end Sys2Proof.Machine
end

