-- ==== Sys2Proof/Machine/Links.lean ====
section
/-! DEFINITION. Cross-lane links (Lanes, Votes and Leadership R34 to R45, R65, R66; Behaviour After Faults R89, R90, R96):
frames, link directions down and up, what a lane takes from a frame, the comparison of its own work with the Leader's, and the
Enable items of the relay stream. -/

namespace Sys2Proof.Machine

/-! ### What a lane takes from the Leader (R38, R40, R60) -/

/-- A vote of lane m against the Leader of lane n, as n holds or sees it (R37 S4, R60). -/
def State.seesVote (s : State) (n : Lane) : Bool :=
  match (s.lane n).leader with
  | none => false
  | some k =>
    ((s.lane n).vote.on k).reason != 0 ||
    allLanes.any (fun m => m != n && m != k && (s.link m n).speaks &&
      fld (s.link m n).view.s4 (if k = n then 48 else 44) 4 != 0) ||
    (k == n && [n.lower, n.upper].any (fun m => (s.link m n).speaks && fld (s.link m n).view.s4 48 4 != 0))

/-- Lane n observes a condition of R59 for its Leader: the Leader reports that it is not Active, its link has lost signal, or
that link is down and the present third lane's newest frame does not show it hearing the Leader. -/
def State.lossObserved (s : State) (n : Lane) : Bool :=
  match (s.lane n).leader with
  | none => true
  | some k =>
    let f := k.third n
    if k = n then (s.lane n).role != .leader
    else !(s.link k n).signal || (s.link k n).absent || (!(s.link k n).down && s.sees n k != .active) ||
      ((s.link k n).down && (s.link f n).speaks && !(s.link f n).hearsThird)

/-- Lane n notes the instant of its observation (R59, R66). -/
def State.observeLoss (s : State) (n : Lane) : State :=
  if s.m.mode.votes = true ∧ s.lossObserved n = true ∧ (s.lane n).rejoin.lossSeen = none then
    s.onLane n (fun l => { l with rejoin := { l.rejoin with lossSeen := some s.now } })
  else s

/-- Lane n's field engines use the last agreed reference (R60). -/
def State.holding (s : State) (n : Lane) : Bool := s.seesVote n || (s.lane n).rejoin.lossSeen.isSome

/-- The torque reference of an axis that lane n's field engine uses (R38, R60). -/
def State.refOf (s : State) (n : Lane) (x : Axis) : Int :=
  let p := (s.lane n).prof
  match x with
  | .s => if s.holding n then p.okS else p.useS
  | .b => if s.holding n then p.okB else p.useB

/-! ### Shadow comparison (R44, R45) -/

/-- SHADOW.TORQUE_LIMIT of an axis in mA (R44). -/
def LaneSt.torqueLimit (l : LaneSt) (x : Axis) : Rat := l.val Key.shadowTorqueLimit / 100 * l.axisPeak x

/-- The signed halves of a frame word. -/
def hi32 (w : Dword) : Int := (w.extractLsb' 32 32).toInt
/-- Low half. -/
def lo32 (w : Dword) : Int := (w.extractLsb' 0 32).toInt

/-- Lane n takes the Leader's T word from its frame, and compares it with its own output for the same step index once: the
consecutive mismatches count, the deviation is published, and a matching reference is the last agreed one (R44, R60). -/
def State.compareTorque (s : State) (n : Lane) : State :=
  let l := s.lane n
  match s.leaderLink n with
  | none => s
  | some k =>
    if l.state ≠ .active ∨ (l.role ≠ .deputy ∧ l.role ≠ .member) then s
    else
      let hold := s.holding n
      let tS := hi32 k.view.tq
      let tB := lo32 k.view.tq
      let s := if hold then s else s.onProf n (fun p => { p with useS := tS, useB := tB })
      let idx : Half := BitVec.ofNat 16 (fld k.view.s1 0 16)
      if idx ≠ l.prof.step ∨ l.prof.cmpStep = some idx then s
      else
        let bad := decide (l.torqueLimit .s < absQ ((l.prof.tS - tS : Int) : Rat)) ||
          decide (l.torqueLimit .b < absQ ((l.prof.tB - tB : Int) : Rat))
        s.onProf n (fun p => { p with
          cmpStep := some idx
          torqueRun := if bad then p.torqueRun + 1 else 0
          devS := roundAway (((p.tS - tS : Int) : Rat) / 10), devB := roundAway (((p.tB - tB : Int) : Rat) / 10)
          okS := if bad || hold then p.okS else tS, okB := if bad || hold then p.okB else tB })

/-- The full scale a setpoint is compared against (R45): of the axis, or of the travel for a brake position. -/
def LaneSt.fullScale (l : LaneSt) (x : Axis) (isPos : Bool) : Rat :=
  if x = Axis.b ∧ isPos = true then l.val Key.homeBMaxTravel else 4294967296

/-- The Deputy's shadow setpoints differ from the Leader's, or the Leader reports a command the Deputy has not checked (R45).
DESIGN CHOICE: a differing brake setpoint mode also counts as a mismatch; the manual does not say how setpoints of unlike modes,
which stand in unlike units, compare. -/
def State.profileBad (s : State) (n : Lane) (k : LinkIn) : Bool :=
  let l := s.lane n
  let p := l.prof
  let lim := l.val Key.shadowSetpointLimit / 100
  let seq : Half := BitVec.ofNat 16 (fld k.view.s2 0 16)
  decide (lim * l.fullScale .s false < absQ (p.steer.pos - (hi32 k.view.s1 : Rat))) ||
  decide (lim * l.fullScale .b p.brakeIsPos < absQ (p.brake.pos - (hi32 k.view.s2 : Rat))) ||
  fld k.view.s2 30 2 != p.bMode.toNat ||
  (seq != p.lastSeq && !p.held.any (fun h => h.1 == seq))

/-- The Deputy compares its shadow profile with the Leader's for the same step index (R45, R62). DEDUCED: not while its setpoints hold the
Leader's last values (R60), which leave nothing of its own to compare. -/
def State.compareProfile (s : State) (n : Lane) : State :=
  let l := s.lane n
  match s.leaderLink n with
  | none => s
  | some k =>
    let idx : Half := BitVec.ofNat 16 (fld k.view.s1 0 16)
    if l.role ≠ .deputy ∨ l.prof.snapshot = false ∨ s.holding n = true ∨ idx ≠ l.prof.step ∨ l.prof.cmpStep = some idx then s
    else
      let bad := s.profileBad n k
      s.onProf n (fun p => { p with profRun := if bad then p.profRun + 1 else 0, matched := !bad })

/-- Both comparisons of one step (R44, R45). -/
def State.compareStep (s : State) (n : Lane) : State := (s.compareProfile n).compareTorque n

/-! ### Epochs (R65, R66) -/

/-- Lane dst takes the epoch and the Leader that a frame of src claims; a former Leader becomes Member (R66, R497). -/
def State.follow (s : State) (src dst : Lane) : State :=
  let e := (s.link src dst).epoch
  let s := s.adopt dst e
  let s := s.onLane dst (fun l => { l with leader := some src, rejoin := { l.rejoin with lossSeen := none } })
  if (s.lane dst).role = .leader then s.setRole dst .member (some src) else s

/-- An observation within two 8 kHz steps of an instant (R66). -/
def State.sawLoss (s : State) (n : Lane) : Bool :=
  match (s.lane n).rejoin.lossSeen with
  | some a => decide (s.now ≤ a + 250000)
  | none => false

/-- What a frame's epoch does (R38, R66, R72): a newer one claimed by a Leader is adopted by an
Isolated or Quenched lane, by an Active lane that observed the loss of its Leader, and restarts a rejoin at step 1. -/
def State.takeEpoch (s : State) (src dst : Lane) : State :=
  let k := s.link src dst
  let l := s.lane dst
  if k.epoch = l.epoch then
    if k.role = .leader ∧ l.role ≠ .leader then
      s.onLane dst (fun l => { l with leader := some src,
                                      rejoin := { l.rejoin with lossSeen := if l.leader = some src then l.rejoin.lossSeen else none } })
    else s
  else if newer k.epoch l.epoch = true then
    if k.role ≠ .leader then s
    else match l.state with
      | .isolated | .quenched => s.follow src dst
      | .active => if s.sawLoss dst then s.follow src dst else s
      | .rejoining =>
        (s.follow src dst).onLane dst (fun l => { l.floatLegs with
          rejoin := { l.rejoin with step := 1, at_ := s.now, copy := false, due := false } })
      | _ => s
  else s

/-- A committed frame of an older epoch counts, from any lane in any state (R66). -/
def State.countStale (s : State) (src dst : Lane) : State :=
  let e := (s.link src dst).epoch
  if e ≠ (s.lane dst).epoch ∧ newer e (s.lane dst).epoch = false then s.onCtr dst (fun c => { c with stale := satInc c.stale })
  else s

/-! ### Rejoin attempts that end (R72) -/

/-- A lane stops rejoining and stands Isolated; the failure counts, and REJOIN.MAX_ATTEMPTS of them within 600 s keep it
there until Service or a power cycle. `again`: the lane retries on its own after 1 s. -/
def State.endAttempt (s : State) (n : Lane) (again : Bool) : State :=
  let now := s.now
  let s := s.leaveActive n .isolated
  let fails := now :: (s.lane n).rejoin.fails.filter (fun a => decide (now < a + 600000000000))
  let limit := decide ((s.lane n).codeN Key.rejoinMaxAttempts ≤ fails.length)
  let s := s.onLane n (fun l => { l with
    rejoin := { l.rejoin with fails := fails, retry := if again && !limit then some now else none }
    vote := { l.vote with stay := l.vote.stay || limit } })
  if limit then s.log n 0x0705 (laneAddr n) else s

/-! ### Lost links (R40, R90) -/

/-- The link of lane n with a peer has at least one direction down: n has declared its incoming direction down, or the peer's
S6 shows that it no longer hears n (R40). -/
def State.linkBroken (s : State) (n p : Lane) : Bool :=
  let k := s.link p n
  k.down || (k.signal && k.heard && k.heardMe && !k.hearsMe)

/-- Lane n loses to its peer p when the third lane is absent and their link is broken (R90), by the roles held when the third
lane became absent. -/
def State.losesPair (s : State) (n p : Lane) : Bool :=
  if s.sees n p != .active then false
  else if s.m.prevLead == some n then false
  else if s.m.prevLead == some p then true
  else if s.m.prevDep == some n then false
  else if s.m.prevDep == some p then true
  else ((s.order n).find? (fun m => m == n || m == p)) == some p

/-- A lane leaves the torque for want of links: Active to Isolated, Rejoining to a failed attempt (R40, R90). -/
def State.linkIsolate (s : State) (n : Lane) : State :=
  if (s.lane n).state = .rejoining then (s.log n 0x0702 (laneAddr n)).endAttempt n false else s.isolate n 0x0702

/-- Lane n judges its links (R40, R90). -/
def State.checkLinks (s : State) (n : Lane) : State :=
  let st := (s.lane n).state
  if st ≠ .active ∧ st ≠ .rejoining then s
  else
    match [n.lower, n.upper].filter (fun p => !s.absentFor n p) with
    | [p, q] => if s.linkBroken n p && s.linkBroken n q then s.linkIsolate n else s
    | [p] => if s.linkBroken n p && (st == .rejoining || s.losesPair n p) then s.linkIsolate n else s
    | _ => s

/-- A lane becomes absent for a peer (R17, R90, R496): the roles of the remaining pair are kept, and the peer's vote against
it and dispute over it end. -/
def State.noteAbsent (s : State) (src dst : Lane) : State :=
  let third := src.third dst
  let s := if s.absentFor third src then s
    else
      let hold := fun (r : Role) => [dst, third].find? (fun m => (s.lane m).role == r)
      s.onM (fun m => { m with prevLead := hold .leader, prevDep := hold .deputy })
  s.withdrawFor dst src

/-! ### Common derating (R96) -/

/-- Lane n judges its own baseplate reading and reports common derating and hold-only as they start and end (R96, R399). -/
def State.reviewTemp (s : State) (n : Lane) : State :=
  let l := s.lane n
  let out := match s.allPlates n, s.plateOf n n with
    | [a, b, c], some own => decide (10 < absQ (own - median3 a b c))
    | _, _ => false
  let s := s.onLane n (fun l => { l with tempAside := out })
  let s := if out && !l.tempAside then s.log n 0x0409 (laneAddr n) else s
  let t := s.baseTemp n
  let der := decide (fComOf gradeMax t < 1)
  let ho := decide (gradeMax + 5 < t)
  if l.state ≠ .active then s
  else
    let s := s.onLane n (fun l => { l with derated := der, holdOnlyT := ho })
    let s := if der = l.derated then s else s.log n 0x0904 (laneAddr n)
    let s := if ho = l.holdOnlyT then s else s.log n 0x0904 (laneAddr n)
    s.reviewHoldOnly

/-! ### Frames (R34, R37) -/

/-- The map bit of a lane's link end toward a peer (R385). -/
def linkEndBit (self peer : Lane) : Nat := if peer = self.lower then 4 else 5

/-- The fields of a committed frame with n relay words (R34); from a lane that reports Off only H is used (R17). -/
def viewOf (old : XView) (ds : List Dword) : XView :=
  let n := ds.length - 9
  let g := fun i => ds.getD i 0
  if fld (g 0) 53 3 = 0 then { old with h := g 0 }
  else { h := g 0, s1 := g (n + 1), s2 := g (n + 2), s3 := g (n + 3), s4 := g (n + 4), s5 := g (n + 5), s6 := g (n + 6),
         s7 := g (n + 7), tq := g (n + 8) }

/-- Which sets take part in the shares of lane n (R172). -/
def State.shareKey (s : State) (n : Lane) : List Bool :=
  allLanes.flatMap (fun m => [s.carries n m .s && !s.noShare n m .s, s.carries n m .b && !s.noShare n m .b])

/-- An Active lane re-forms its shares at once when a set that took part no longer does (R172). -/
def State.reformIfLost (s old : State) (n : Lane) : State :=
  if (s.lane n).state = .active ∧ ((old.shareKey n).zip (s.shareKey n)).any (fun k => k.1 && !k.2) = true then s.reform n else s

/-- A lane logs each peer that it has seen Active and now sees in another state than Rejoining (R83, R97). -/
def State.noteLost (s old : State) (dst : Lane) : State :=
  [dst.lower, dst.upper].foldl (fun s p =>
    if (s.lane dst).state = .active ∧ old.sees dst p = .active ∧ s.sees dst p ≠ .active ∧ s.sees dst p ≠ .rejoining then
      s.log dst 0x0901 (laneAddr p)
    else s) s

/-- Lane dst learns from S5 of lane src that its set takes no share although this lane gave it one, or that it stands at level 6
(R132, R172, R401); a share above zero ends it. -/
def State.noteShare (s : State) (src dst : Lane) : State :=
  [Axis.s, Axis.b].foldl (fun s x =>
    let zero := fld (s.link src dst).view.s5 (match x with | .s => 48 | .b => 32) 16 == 0
    let c := (s.lane dst).term src x
    let on := zero && s.sees dst src == .active &&
      (s.seesLevel dst src == 6 || (s.carries dst src x && (c.noShare || c.share != 0)))
    s.onTerm dst src x (fun c => { c with noShare := on })) s

/-- What lane dst does once its view has changed by a frame, a signal or a link direction of src (R40, R53, R59, R66, R92, R97,
R172, R262): lanes lost are logged, absence and epochs are handled, a quench request draws a vote, and shares, links, the sleep
delay and Limp are judged. `old`: the state before. -/
def State.viewChanged (s old : State) (src dst : Lane) : State :=
  let s := s.noteLost old dst
  let s := if s.absentFor dst src && !old.absentFor dst src then s.noteAbsent src dst else s
  let s := if (s.link src dst).speaks then s.takeEpoch src dst else s
  let s := if (s.link src dst).speaks && fld (s.link src dst).view.s4 55 1 == 1 then s.cast dst src 5 else s
  let s := (s.checkLinks dst).observeLoss dst
  let s := s.reformIfLost old dst
  let s := if s.m.mode = .ready then s.noteSleep else s
  s.checkLimp

/-- A lane that fills T with the Leader's value takes the newest one into the frame on the line (R34, R40). -/
def State.latchT (s : State) (n : Lane) : State :=
  [n.lower, n.upper].foldl (fun s p =>
    let w := (s.frameTo n p).tq
    s.onLink p n (fun k => { k with out := { k.out with tq := w } })) s

/-- A frame that brings a time item notes the receiver's Meridian at its end delimiter (R322). -/
def State.stampTime (s old : State) (src dst : Lane) : State :=
  let new := s.nextItem src dst 0x20
  if new.isSome ∧ new ≠ old.nextItem src dst 0x20 then
    let at_ := s.meridian dst
    s.onLink src dst (fun k => { k with timeRx := at_ })
  else s

/-- CROSS_LANE_FRAME_COMMIT (R26, R29, R33, R34, R36, R38): every word is checked with the identity of the link and its index; a
frame with an uncorrectable word is discarded and counted; otherwise all its fields come into use at one moment, and its relay words
continue the stream. DEDUCED: the relay words of a lane that reports Off are used as well, since R440 repairs it by its boot
reports. -/
def execCrossLaneFrameCommit (t : Nat) (src : Lane) (dst : Lane) (ws : List XWord) (s : State) :
    Host.Outcome State Fault Refusal :=
  let s := s.at_ t
  let l := s.lane dst
  if src = dst ∨ l.rst.inReset = true ∨ ws.length < 10 ∨ l.mapBit (linkEndBit dst src) = true then done s
  else match checkWords (linkId src dst) 0 ws with
    | none =>
      done (s.onCtr dst (fun c =>
        if src = dst.lower then { c with linkLo := satInc c.linkLo } else { c with linkHi := satInc c.linkHi }))
    | some (ds, fixed) =>
      let s1 := s.onCtr dst (fun c => { c with ecLink := (List.range fixed).foldl (fun a _ => satInc a) c.ecLink })
      let s1 := s1.onLink src dst (fun k =>
        let v := viewOf k.view ds
        { k with view := v, heard := true, signal := true, got := true, lost := 0,
                 good := if k.down then k.good + 1 else 0, heardMe := k.heardMe || fld v.s6 31 1 == 1 })
      let s1 := (s1.onLink src dst (fun k => k.feedFrame ((ds.drop 1).take (ds.length - 9)))).stampTime s src dst
      let s1 := s1.countStale src dst
      let s1 := if (s1.link src dst).speaks then s1.noteShare src dst else s1
      let s2 := (s1.viewChanged s src dst).takeSetting src dst
      done (((s2.compareStep dst).reviewTemp dst).latchT dst)

/-- LINK_LOSS_OF_SIGNAL (R17, R59, R172): the link carries no values any more and its sender is absent. -/
def execLinkLossOfSignal (t : Nat) (src : Lane) (dst : Lane) (s : State) : Host.Outcome State Fault Refusal :=
  let s := s.at_ t
  if src = dst ∨ (s.lane dst).rst.inReset = true ∨ (s.link src dst).signal = false then done s
  else
    let s1 := s.onLink src dst (fun k => { ({} : LinkIn) with
      out := k.out, outRelay := k.outRelay, txPart := k.txPart, txq := k.txq
      overIn := k.overIn, overOut := k.overOut, relayOut := k.relayOut })
    done (s1.viewChanged s src dst)

/-- LINK_DOWN (R39, R40, R90): LINK.LOSS_PERIODS consecutive lost frames; logged, and the view is judged. -/
def execLinkDown (t : Nat) (src : Lane) (dst : Lane) (s : State) : Host.Outcome State Fault Refusal :=
  let s := s.at_ t
  let k := s.link src dst
  if src = dst ∨ (s.lane dst).rst.inReset = true ∨ k.down = true ∨ k.signal = false ∨
      k.lost < (s.lane dst).codeN Key.linkLossPeriods then done s
  else
    let s1 := (s.onLink src dst (fun k => { k with down := true, downSince := t, good := 0 })).log dst 0x0601
      (BitVec.ofNat 32 (linkId src dst))
    done (s1.viewChanged s src dst)

/-- LINK_UP (R39): 16 consecutive committed frames; no vote is withdrawn by it. -/
def execLinkUp (t : Nat) (src : Lane) (dst : Lane) (s : State) : Host.Outcome State Fault Refusal :=
  let s := s.at_ t
  let k := s.link src dst
  if src = dst ∨ k.down = false ∨ k.good < 16 ∨ (s.lane dst).mapBit (linkEndBit dst src) = true then done s
  else
    let s1 := s.onLink src dst (fun k => { k with down := false, good := 0, lost := 0 })
    done (s1.viewChanged s src dst)

/-- ENABLE_STATE_ITEM (R262, R271): a peer's filtered ENA; the counts of the safe stop and of the sleep delay follow. -/
def execEnableStateItem (t : Nat) (src : Lane) (dst : Lane) (on : Bool) (s : State) : Host.Outcome State Fault Refusal :=
  done ((s.at_ t).onItem src dst 0x01 (enableItem on) (fun s b =>
    let s := (s.onLink src dst (fun k => { k with ena := rd b 3 1 == 1 })).reviewStop
    if s.m.mode = .ready then s.noteSleep else s))

end Sys2Proof.Machine
end

