-- ==== Sys2Proof/Machine/Modulator.lean ====
section
/-! DEFINITION. Motor parameters, angles and transforms, duty order, and the shaping of leg duties into switching edges (Power
Legs R113 to R115; Single-Shunt Current Reconstruction R140 to R147; Field Control R161 to R166). -/

namespace Sys2Proof.Machine

/-! ### Motor parameters -/

/-- The parameters of one motor in SI units, as its field engines and observers use them (R161, R162, R185, R186). -/
structure Motor where
  r    : Rat
  ld   : Rat
  lq   : Rat
  psi  : Rat
  km   : Rat
  bw   : Rat
  modL : Rat
  modW : Rat
  fwBw : Rat
  idMax : Rat
  dtc  : Rat
  amp  : Rat
  deriving DecidableEq, Repr

/-- The motor of an axis from the parameters in force. -/
def LaneSt.motor (l : LaneSt) (x : Axis) : Motor :=
  match x with
  | .s =>
    { r := l.val Key.steerRPhase / 1000, ld := l.val Key.steerLD / 1000000, lq := l.val Key.steerLQ / 1000000
      psi := l.val Key.steerPsi / 1000, km := l.val Key.steerMSet / 100, bw := l.val Key.steerCurBw
      modL := l.val Key.steerModLimit / 100, modW := l.val Key.steerWindowModLimit / 100, fwBw := l.val Key.steerFwBw
      idMax := l.val Key.steerIdMax / 100 * l.iPeak .s, dtc := l.val Key.steerDtcBand, amp := l.val Key.obsInjAmpS }
  | .b =>
    { r := l.val Key.brakeRPhase / 1000, ld := l.val Key.brakeLD / 1000000, lq := l.val Key.brakeLQ / 1000000
      psi := l.val Key.brakePsi / 1000, km := l.val Key.brakeMSet / 100, bw := l.val Key.brakeCurBw
      modL := l.val Key.brakeModLimit / 100, modW := l.val Key.brakeWindowModLimit / 100, fwBw := l.val Key.brakeFwBw
      idMax := l.val Key.brakeIdMax / 100 * l.iPeak .b, dtc := l.val Key.brakeDtcBand, amp := l.val Key.obsInjAmpB }

/-- Double update (R167). -/
def LaneSt.double (l : LaneSt) : Bool := l.code Key.pwmUpdate == 1

/-- The update interval T_u in s (R162, R167). -/
def LaneSt.tUpdate (l : LaneSt) : Rat := l.periodNs / 1000000000 / (if l.double then 2 else 1)

/-- Updates in one injection cycle (R193). -/
def LaneSt.injUpdates (l : LaneSt) : Nat := (roundAway (1 / l.tUpdate / l.val Key.obsInjFreq)).toNat

/-- The actual injection frequency (R193). -/
def LaneSt.injHz (l : LaneSt) : Rat := 1 / l.tUpdate / (l.injUpdates : Rat)

/-- The injection sensitivity S_inj in A per rad (R196). -/
def LaneSt.sInj (l : LaneSt) (x : Axis) : Rat :=
  let p := l.motor x
  p.amp * absQ (p.lq - p.ld) / (2 * Config.pi * l.injHz * p.ld * p.lq)

/-! ### Angles and transforms -/

/-- The code of an angle in degrees, 360/65,536 degrees per code (R203). -/
def degCode (d : Rat) : Half := BitVec.ofInt 16 (roundAway (d * 65536 / 360))

/-- The code of an angle in radians. -/
def radCode (r : Rat) : Half := BitVec.ofInt 16 (roundAway (r * 32768 / Config.pi))

/-- The wrapped difference of two angles in radians (R192). -/
def radOf (a : Half) : Rat := (a.toInt : Rat) * Config.pi / 32768

/-- An angle turned on at a speed of 0.1 Hz for some ns (R190). -/
def turned (a : Half) (om : Int) (ns : Rat) : Half := a + BitVec.ofInt 16 (roundAway ((om : Rat) / 10 * ns / 1000000000 * 65536))

/-- A speed of 0.1 Hz electrical in rad/s. -/
def radPerS (om : Int) : Rat := 2 * Config.pi * (om : Rat) / 10

/-- The set offset of a set (R19). -/
def LaneSt.setOffset (l : LaneSt) (n : Lane) (x : Axis) : Half :=
  degCode (match x, n with
    | .s, .l1 => l.val Key.steerOffset1
    | .s, .l2 => l.val Key.steerOffset2
    | .s, .l3 => l.val Key.steerOffset3
    | .b, .l1 => l.val Key.brakeOffset1
    | .b, .l2 => l.val Key.brakeOffset2
    | .b, .l3 => l.val Key.brakeOffset3)

/-- Clarke transform of three values that sum to zero, amplitude kept. -/
def clarke (u v w : Rat) : Rat × Rat := ((2 * u - v - w) / 3, (v - w) / Config.sqrt 3)

/-- Park transform at an angle. -/
def park (a : Half) (v : Rat × Rat) : Rat × Rat :=
  (v.1 * Config.cos a + v.2 * Config.sin a, v.2 * Config.cos a - v.1 * Config.sin a)

/-- Inverse Park transform. -/
def unpark (a : Half) (v : Rat × Rat) : Rat × Rat :=
  (v.1 * Config.cos a - v.2 * Config.sin a, v.1 * Config.sin a + v.2 * Config.cos a)

/-- Inverse Clarke transform: the three phases of a stationary vector. -/
def phasesOf (v : Rat × Rat) : Phase → Rat
  | .u => v.1
  | .v => -v.1 / 2 + Config.sqrt 3 / 2 * v.2
  | .w => -v.1 / 2 - Config.sqrt 3 / 2 * v.2

/-! ### Duty order (R140) -/

/-- All three phases. -/
def allPhases : List Phase := [.u, .v, .w]

/-- Leg p ranks before leg q: a higher duty, or an equal one with U before V before W. -/
def ranksBefore (d : Phase → Rat) (p q : Phase) : Bool := decide (d q < d p) || (decide (d p = d q) && decide (p.num < q.num))

/-- The leg of the highest duty. -/
def topLeg (d : Phase → Rat) : Phase := (allPhases.find? (fun p => allPhases.all (fun q => p == q || ranksBefore d p q))).getD .u

/-- The leg of the lowest duty. -/
def lowLeg (d : Phase → Rat) : Phase := (allPhases.find? (fun p => allPhases.all (fun q => p == q || ranksBefore d q p))).getD .w

/-- The leg that is neither of two different legs. -/
def otherLeg (p q : Phase) : Phase := (allPhases.find? (fun r => r != p && r != q)).getD .v

/-- The leg of the middle duty. -/
def midLeg (d : Phase → Rat) : Phase := otherLeg (topLeg d) (lowLeg d)

/-! ### Leg duties (R113, R114) -/

/-- E_MIN in counter steps: 50 ns and two dead times (R143). -/
def SetSt.eMin (c : SetSt) : Int := 40 + 2 * (c.dead : Int)

/-- The highest high time of a period in counter steps: D_MAX of R113, rounded down. -/
def SetSt.maxHigh (c : SetSt) (half : Nat) : Int :=
  (min ((2 * half : Nat) * (985 : Rat) / 1000) (((2 * half : Nat) : Rat) - (c.eMin : Rat))).floor

/-- D_MAX as a fraction (R113). -/
def SetSt.dMax (c : SetSt) (half : Nat) : Rat := if half = 0 then 0 else (c.maxHigh half : Rat) / ((2 * half : Nat) : Rat)

/-- The duty a leg delivers for a requested one over an update that covers `span` counter steps, with the remainder it carries (R113,
R114): with GATE.OVERMOD a request beyond D_MAX runs the period at D_MAX or 100 %, whichever brings the running sum closest to zero;
the choice is made for the whole period, in double update at its first half. -/
def SetSt.deliver (c : SetSt) (half span : Nat) (ovm first : Bool) (g : LegSt) (d : Rat) : Rat × LegSt :=
  let m := c.dMax half
  let steps : Rat := ((2 * half : Nat) : Rat)
  if ovm ∧ m < d then
    let q := min 1 d
    let want := g.carry + q * steps
    let full := if first then decide (absQ (want - steps) < absQ (want - m * steps)) else g.full
    let out := if full then 1 else m
    (out, { g with full := full, carry := g.carry + (q - out) * (span : Rat) })
  else (clampQ (1 - m) m d, { g with full := false })

/-- The highest edge of a half (R113): the two halves of a period share D_MAX, the odd step falling to the one that counts down. -/
def SetSt.maxEdge (c : SetSt) (half : Nat) (up : Bool) : Int := (c.maxHigh half + (if up then 0 else 1)) / 2

/-- The nominal edge of a leg in a half (R139): duty times half-period on the counter step, never beyond D_MAX nor below 1 - D_MAX over
a period. -/
def SetSt.nominal (c : SetSt) (half : Nat) (up : Bool) (d : Rat) : Int :=
  if d = 1 then half
  else clampI ((half : Int) - c.maxEdge half (!up)) (c.maxEdge half up) (roundAway (d * (half : Rat)))

/-! ### Edges of one half (R142 to R147) -/

/-- A window of some length in ns, in counter steps. -/
def stepsOf (ns : Rat) : Int := (ns * 4 / 5).ceil

/-- The limits that R145 sets to a leg's edge in a half: within the half, and no high pulse across a peak and no low pulse across a
valley shorter than E_MIN, against the edge before it and, for the pulse that follows, against an edge at the same duty. `up`: the half
counts up, so the low pulse across the valley lies before it and the high pulse across the peak after it. A leg at 100 % that was on
before the valley has no low pulse. -/
def SetSt.pulseRange (c : SetSt) (half : Nat) (d : Rat) (up : Bool) (before : Int) : Int × Int :=
  let nom := c.nominal half up d
  let h : Int := (half : Int)
  let room := 2 * h - c.eMin
  if up then
    (max 0 (min nom (c.eMin - nom)), if d = 1 ∧ before = h then h else max 0 (min h (room - before)))
  else (max 0 (c.eMin - before), if d = 1 then h else min h (max nom (room - nom)))

/-- The edge a leg takes before windows are opened (R145): the nominal edge with residue and refresh loss, kept within its limits; a
leg at 100 % does not switch. -/
def SetSt.owedEdge (c : SetSt) (half : Nat) (g : LegSt) (d : Rat) (up : Bool) (before : Int) : Int :=
  let nom := c.nominal half up d
  let r := c.pulseRange half d up before
  max r.1 (min r.2 (if d = 1 then nom else nom + g.residue + g.lossSteps))

/-- The permitted range of a leg's edge in a sampling half (R143), within the limits of R145; a leg at 100 % has its nominal edge alone,
a blocked one keeps its edge. -/
def SetSt.edgeRange (c : SetSt) (half : Nat) (g : LegSt) (d : Rat) (up : Bool) (before e : Int) : Int × Int :=
  let nom := c.nominal half up d
  let r := c.pulseRange half d up before
  if d = 1 ∨ g.blocked = true then (e, e) else (max r.1 (min c.eMin nom), min r.2 (max ((half : Int) - c.eMin) nom))

/-- The edges of the legs in duty order moved so that both windows are long enough (R142): highest, middle, lowest. `moveMid`
is false for a leg that is not shifted. -/
def openWindows (w : Int) (hi lo : Int) (moveMid : Bool) (tMax tMid tMin : Int) : Int × Int × Int :=
  let tMax' := max tMax (min (tMid + w) hi)
  let tMin' := min tMin (max (tMid - w) lo)
  (tMax', if moveMid then min (max tMid (tMin' + w)) (tMax' - w) else tMid, tMin')

/-- The edges of a sampling half for given duties and edges (R142 to R146); a middle leg at 100 % moves as well (R144); with one leg held
high-impedance only the window between the other two is opened (R141). -/
def SetSt.windowEdges (c : SetSt) (half : Nat) (w : Int) (up : Bool) (d : Phase → Rat) (before e : Phase → Int) : Phase → Int :=
  let a := topLeg d
  let z := lowLeg d
  let m := otherLeg a z
  let range := fun (p : Phase) => c.edgeRange half (c.leg p) (d p) up (before p) (e p)
  match allPhases.find? (fun p => (c.leg p).tripped) with
  | none =>
    let t := openWindows w (range a).2 (range z).1 (!(c.leg m).blocked) (e a) (e m) (e z)
    fun p => if p = a then t.1 else if p = m then t.2.1 else t.2.2
  | some p0 =>
    let h := if a = p0 then m else a
    let l := if z = p0 then m else z
    let eh := max (e h) (min (e l + w) (range h).2)
    let el := min (e l) (max (eh - w) (range l).1)
    fun p => if p = h then eh else if p = l then el else e p

/-- The edges of one half for given duties (R142 to R146); `sample`: the half is a sampling half. A shift that would take a leg's
residue out of the range of one window ends at that range. -/
def SetSt.halfEdges (c : SetSt) (half : Nat) (w : Int) (sample up : Bool) (d : Phase → Rat) (before : Phase → Int) : Phase → Int :=
  let e0 := fun p => c.owedEdge half (c.leg p) (d p) up (before p)
  let e1 := if sample then c.windowEdges half w up d before e0 else e0
  fun p => max (e0 p - w) (min (e0 p + w) (e1 p))

/-- How far a refresh pulse takes the edge of a leg at 100 % from the valley: half of 50 ns and a dead time (R115). -/
def SetSt.cut (c : SetSt) : Int := 20 + (c.dead : Int)

/-- The edge of a leg with the refresh pulse at the valley (R115). -/
def SetSt.pulsed (c : SetSt) (half : Nat) (e : Phase → Int) (p : Phase) : Int :=
  if (c.leg p).pulse then (half : Int) - c.cut else e p

/-- What a leg owes after a half: the high time it was to deliver less what it delivered, held within a window (R145); one whose
residue would leave that range is not shifted in the next sampling half (R146). -/
def LegSt.settle (g : LegSt) (sample : Bool) (nom e w : Int) : LegSt :=
  let r := nom + g.residue + g.lossSteps - e
  { g with residue := clampI (-w) w r, lossSteps := 0, blocked := (!sample && g.blocked) || decide (w < (r.natAbs : Int)) }

/-- Every leg settles a half with its edges; a refresh pulse is no shift. A sampling half with a blocked leg is noted, to count once its
values act. -/
def SetSt.settleHalf (c : SetSt) (half : Nat) (w : Int) (sample up : Bool) (d : Phase → Rat) (e : Phase → Int) : SetSt :=
  let go := fun (p : Phase) =>
    (c.leg p).settle sample (c.nominal half up (d p) - (if (c.leg p).pulse then c.cut else 0)) (e p) w
  { c with u := go .u, v := go .v, w := go .w
           nextBlocked := c.nextBlocked || (sample && (c.u.blocked || c.v.blocked || c.w.blocked)) }

/-- The refresh pulse of a leg would fall inside window V of a half with these edges (R147). -/
def SetSt.refreshClash (c : SetSt) (half : Nat) (d : Phase → Rat) (e : Phase → Int) (p : Phase) : Bool :=
  decide ((half : Int) - c.cut < e (topLeg d)) && e (topLeg d) == e p

/-- A refresh of a leg at the coming valley (R115, R147): moved twice while its pulse would lie inside window V, then placed,
which closes that window. A leg below 100 % conducts low across the valley for 50 ns and more by itself (R113). -/
def SetSt.placeRefresh (c : SetSt) (half : Nat) (d : Phase → Rat) (e : Phase → Int) (p : Phase) : SetSt :=
  let clash := c.refreshClash half d e p
  if (c.leg p).refresh = false then c
  else if clash ∧ (c.leg p).moved < 2 then c.onLeg p (fun g => { g with moved := g.moved + 1 })
  else
    let c := c.onLeg p (fun g => { g with refresh := false, moved := 0, pulse := decide (d p = 1) })
    if clash then { c with nextShut := true } else c

/-- The refresh of a period has passed: the high time it has lost is owed to the following period (R115). -/
def SetSt.endRefresh (c : SetSt) : SetSt :=
  let loss := c.eMin
  c.onLegs (fun g => if g.pulse then { g with pulse := false, lossSteps := loss } else g)

/-- The half that counts down (R115, R142 to R147): its edges, with a refresh at the valley that ends it. -/
def SetSt.shapeDown (c : SetSt) (half : Nat) (w : Int) (d : Phase → Rat) : SetSt × (Phase → Int) :=
  let e1 := c.halfEdges half w true false d (fun p => (c.leg p).edgeUp)
  let c := allPhases.foldl (fun c p => c.placeRefresh half d e1 p) c
  let e := c.pulsed half e1
  (c.settleHalf half w true false d e, e)

/-- The half that counts up, after given edges of the half before it: in double update a sampling half as well. -/
def SetSt.shapeUp (c : SetSt) (half : Nat) (w : Int) (sample : Bool) (d : Phase → Rat) (before : Phase → Int) : SetSt × (Phase → Int) :=
  let e1 := c.halfEdges half w sample true d before
  let shut := sample && allPhases.any (fun p => (c.leg p).pulse && c.refreshClash half d e1 p)
  let e := c.pulsed half e1
  let c := (c.settleHalf half w sample true d e).endRefresh
  ({ c with nextShut := c.nextShut || shut }, e)

/-- What a leg owes and has been given. -/
def LegSt.acct (g : LegSt) : LegAcct :=
  { residue := g.residue, lossSteps := g.lossSteps, carry := g.carry, full := g.full, pulse := g.pulse, blocked := g.blocked
    refresh := g.refresh, moved := g.moved }

/-- Values that never acted give back what they took (R145, R158); a refresh that has become due since stays due. -/
def LegSt.takeBack (g : LegSt) : LegSt :=
  let a := g.undo
  { g with
    residue := a.residue, lossSteps := a.lossSteps, carry := a.carry, full := a.full, pulse := a.pulse, blocked := a.blocked
    refresh := g.refresh || a.refresh, moved := a.moved }

/-- The values that are ready are discarded (R158). -/
def SetSt.discard (c : SetSt) : SetSt := { c.onLegs LegSt.takeBack with pending := false, cLate := satInc c.cLate }

/-- The duties of an update become the edges of the halves in which they act (R139, R145, R158). In double update one half is
planned; in single update the sampling half and the compensation half. -/
def SetSt.shape (c : SetSt) (l : LaneSt) (down : Bool) (req : Phase → Rat) : SetSt :=
  let half := l.halfSteps
  let ovm := l.code Key.gateOvermod == 1
  let w := stepsOf (l.val Key.csWindow)
  let span := if l.double then half else 2 * half
  let c := { c.onLegs (fun g => { g with undo := g.acct }) with nextBlocked := false }
  let dl := fun p => c.deliver half span ovm (down || !l.double) (c.leg p) (req p)
  let d := fun p => (dl p).1
  let c := { c with u := { (dl .u).2 with next := d .u }, v := { (dl .v).2 with next := d .v }, w := { (dl .w).2 with next := d .w }
                    nextShut := false }
  let store := fun (c : SetSt) (upHalf : Bool) (e : Phase → Int) =>
    let put := fun (g : LegSt) (v : Int) => if upHalf then { g with nextUp := v } else { g with nextEdge := v }
    { c with u := put c.u (e .u), v := put c.v (e .v), w := put c.w (e .w) }
  if l.double && !down then
    let r := c.shapeUp half w true d (fun p => (c.leg p).edge)
    store r.1 true r.2
  else
    let a := c.shapeDown half w d
    if l.double then store a.1 false a.2
    else
      let b := a.1.shapeUp half w false d a.2
      store (store b.1 false a.2) true b.2

/-- Values that are ready come into force at an update point (R146, R158). -/
def SetSt.takeDuty (c : SetSt) (at_ : Nat) : SetSt :=
  let go := fun (g : LegSt) => { g with duty := g.next, edge := g.nextEdge, edgeUp := g.nextUp }
  { c.onLegs go with
    pending := false, shut := c.nextShut, cBlock := if c.nextBlocked then satInc c.cBlock else c.cBlock
    vPast := c.vdq, vdq := c.vNext, vAt := at_ }

/-- The values in force change at an update point where those that are ready have been so for 20 ns (R158). -/
def SetSt.updatePoint (c : SetSt) (at_ : Nat) : SetSt := if c.pending && decide (c.ready + 20 ≤ at_) then c.takeDuty at_ else c

end Sys2Proof.Machine
end

