-- ==== Sys2Proof/Machine/Measure.lean ====
section
/-! DEFINITION. Measurements and the on-demand self-test: MEASURE_LOAD, MEASURE_CABLE, SELFTEST (Measuring the Surroundings
and Self-Test; Command Reference R362, R363). -/

namespace Sys2Proof.Machine

/-! ### MEASURE_LOAD (R362, R376, R377) -/

/-- The sets byte 1 of MEASURE_LOAD names on lane m: none for a byte that is no set code of that lane (R362, R376). -/
def loadSets (m : Lane) (b : Nat) : Option (List Axis) :=
  if b = 0xFF then some [.s, .b]
  else if b = m.num * 16 + 3 then some [.s]
  else if b = m.num * 16 + 7 then some [.b]
  else none

/-- A set of a lane fails the standstill criterion (R274, R362). -/
def State.moving (s : State) (m : Lane) (x : Axis) : Bool :=
  let a := ((s.lane m).set x).lastMove
  a != 0 && decide (s.now < a + ms 10)

/-- The measured load record of a set (R362). -/
def SetSt.loadRecord (c : SetSt) (n : Lane) (x : Axis) : List Byte :=
  let l := c.load
  [BitVec.ofNat 8 (n.num * 16 + x.num * 4 + 3), l.valid.setWidth 8] ++
  ([l.ru, l.rv, l.rw, l.ld, l.lq, l.psi, l.lead].map (fun h => beBytes 2 h.toNat)).flatten

/-- A load measurement begins on some sets of a lane: their valid masks clear, and the sequence of R376 energises the sets. -/
def State.beginLoad (s : State) (n : Lane) (xs : List Axis) (q : BitVec 4) : State :=
  let s := xs.foldl (fun (s : State) x => s.onSet n x (fun c => { c with load := { c.load with valid := 0 } })) s
  let s := { s with meas := { s.meas with
    loadOn := true, loadLane := n, loadS := xs.contains .s, loadB := xs.contains .b, loadQ := q } }
  s.onM (fun m => { m with runEntry := 1, diag := [], acq := [] })

/-- MEASURE_LOAD start at the lane that answers (R362, R376, R379, R398). -/
def State.startLoad (s : State) (n : Lane) (c : Call) : Answer :=
  let b := rd c.p 1 1
  match loadSets n b with
  | none => .err 0x12 (BitVec.ofNat 32 b)
  | some xs =>
    match firstErr ([(!s.seesPermitted n n, 0x22, c.opAddr), (xs.any (s.moving n), 0x20, c.opAddr),
        (s.serviceStopped, 0x21, c.opAddr)] ++
        xs.map (fun x => ((s.lane n).setBad x, 0x31, setAddr n x)) ++
        [(s.occupied || s.m.runEntry != 0, 0x18, c.opAddr)]) with
    | some e => .err e.1 e.2
    | none => .pending (s.beginLoad n xs (BitVec.ofNat 4 (rd c.p 2 1))) []

/-- MEASURE_LOAD at the lane that answers: action 0 starts, action 1 reads both sets from offset 0 (R352, R362). -/
def handleMeasureLoad : Handler := fun s n c =>
  let a := rd c.p 0 1
  if a = 0 then s.startLoad n c
  else if a = 1 then
    match loadSets n (rd c.p 1 1) with
    | none => .err 0x12 (BitVec.ofNat 32 (rd c.p 1 1))
    | some xs =>
      if s.serviceStopped then .err 0x21 c.opAddr
      else s.piecewise n c 0 ((xs.map (fun x => ((s.lane n).set x).loadRecord n x)).flatten)
  else .err 0x12 c.opAddr

/-- MEASURE_LOAD start (R376). -/
def execMeasureLoadStart (r : Req) (s : State) : Host.Outcome State Fault Refusal :=
  done (s.fcp 0x0601 (r.withByte 0 0) handleMeasureLoad noPart)

/-- MEASURE_LOAD read (R362). -/
def execMeasureLoadRead (r : Req) (s : State) : Host.Outcome State Fault Refusal :=
  done (s.fcp 0x0601 (r.withByte 0 1) handleMeasureLoad noPart)

/-- A number kept in an unsigned 16-bit field. -/
def h16 (x : Int) : Half := BitVec.ofNat 16 (clampI 0 65535 x).toNat

/-- The mean of some numbers, none of no number. -/
def meanOf (l : List Rat) : Option Rat := if l.isEmpty then none else some (l.foldl (· + ·) 0 / l.length)

/-- A pair resistance in ohm (R377): the difference of the mean voltages at +I and -I over that of the mean currents. -/
def pairOhm (p : PairReadings) : Option Rat :=
  let v := fun (l : List (Int × Int)) => meanOf (l.map (fun e => (e.1 : Rat) * 20))
  let i := fun (l : List (Int × Int)) => meanOf (l.map (fun e => (e.2 : Rat)))
  match v p.plus, v p.minus, i p.plus, i p.minus with
  | some a, some b, some c, some d => if c = d then none else some ((a - b) / (c - d))
  | _, _, _, _ => none

/-- R_U, R_V and R_W in ohm from the pair resistances (R377). -/
def phaseOhms (m : LoadSample) : Option (Rat × Rat × Rat) :=
  match pairOhm m.uv, pairOhm m.vw, pairOhm m.wu with
  | some uv, some vw, some wu => some ((uv + wu - vw) / 2, (uv + vw - wu) / 2, (vw + wu - uv) / 2)
  | _, _, _ => none

/-- An inductance in uH from the 32 pulses along its axis (R376, R377): the mean of (v - R i) dt / di; none of an axis with fewer
pulses or with one whose current did not change. -/
def pulseHenry (r : Rat) (l : List LoadPulse) : Option Rat :=
  if l.length = 32 ∧ l.all (fun p => p.di != 0) = true then
    meanOf (l.map (fun p => ((p.v : Rat) - r * p.i) * p.dt / p.di / 1000))
  else none

/-- A leg's edges give a lead length (R377). DEDUCED: every one of them rings with three crossings or more. -/
def ringsOk (l : List Ringing) : Bool := !l.isEmpty && l.all (fun e => 3 ≤ e.crossings)

/-- The lead length in m (R377): 45.0 m MHz over the ringing frequency, three periods over their span, as the mean over the edges of
the legs that contribute. -/
def leadLength (m : LoadSample) : Option Rat :=
  meanOf ((([m.ringU, m.ringV, m.ringW].filter ringsOk).flatten).map (fun e => 45 * (e.span : Rat) / 3000000))

/-- The record a measured set ends with (R362, R376, R377), from its readings, the flux that its observer last found and the resistance
R of the inductance rule; what did not complete keeps its bit clear. -/
def loadResult (old : LoadRec) (q : BitVec 4) (m : LoadSample) (r : Rat) (psi : Option Nat) : LoadRec :=
  let put := fun (x : Rat) (k : Rat) => h16 (roundAway (x * k))
  let a := phaseOhms m
  let mean := match a with | some v => if q.getLsbD 0 then (v.1 + v.2.1 + v.2.2) / 3 else r | none => r
  let old := { old with valid := 0 }
  let old := match a with
    | some v => if q.getLsbD 0 then
        { old with valid := old.valid ||| 1, ru := put v.1 10000, rv := put v.2.1 10000, rw := put v.2.2 10000 } else old
    | none => old
  let old := match pulseHenry mean m.pulseD, pulseHenry mean m.pulseQ with
    | some d, some k => if q.getLsbD 1 then { old with valid := old.valid ||| 2, ld := put d 10, lq := put k 10 } else old
    | _, _ => old
  let old := match psi with
    | some f => if q.getLsbD 2 then { old with valid := old.valid ||| 4, psi := h16 f } else old
    | none => old
  match leadLength m with
  | some d => if q.getLsbD 3 then { old with valid := old.valid ||| 8, lead := put d 10 } else old
  | none => old

/-- MEASURE_LOAD_COMPLETE (R376, R377): the sequence of a named set that switches has ended, the S set before the B set; with the last
set every set returns to high-impedance. -/
def execMeasureLoadComplete (t : Nat) (n : Lane) (x : Axis) (m : LoadSample) (s : State) :
    Host.Outcome State Fault Refusal :=
  let s := s.at_ t
  if s.meas.names n x && ((s.lane n).set x).switching && !(x == .b && s.meas.loadS) then
    let q := s.meas.loadQ
    let r := ((s.lane n).motor x).r
    let s := s.onSet n x (fun c => { c with load := loadResult c.load q m r c.obs.psi })
    let s := { s with meas := { s.meas with
      loadS := s.meas.loadS && x != Axis.s, loadB := s.meas.loadB && x != Axis.b } }
    done (if s.meas.loadS || s.meas.loadB then s else State.floatAll { s with meas := { s.meas with loadOn := false } })
  else done s

/-! ### MEASURE_CABLE (R362, R380) -/

/-- The cable result of a lane's channel: state, finding, distance; state 0 before any start. -/
def MeasSt.cable (m : MeasSt) (n : Lane) (c : Chan) : Byte × Byte × Half :=
  ((m.cableRes.find? (fun r => r.1 == n && r.2.1 == c)).map (·.2.2)).getD (0, 0, 0)

/-- The results with one put in place. -/
def MeasSt.putCable (m : MeasSt) (n : Lane) (c : Chan) (v : Byte × Byte × Half) : MeasSt :=
  { m with cableRes := (n, c, v) :: m.cableRes.filter (fun r => !(r.1 == n && r.2.1 == c)) }

/-- A cable measurement begins on a channel (R380). -/
def State.beginCable (s : State) (n : Lane) (ch : Chan) : State :=
  let s := s.onChan n ch (fun k => { k with tdrPulses := 0 })
  { s with meas := { s.meas.putCable n ch (1, 0, 0) with cableOn := true, cableLane := n, cableChan := ch } }

/-- MEASURE_CABLE at the lane that answers (R362, R380, R398). -/
def handleMeasureCable : Handler := fun s n c =>
  let a := rd c.p 0 1
  let ch : Chan := if rd c.p 1 1 = 0 then .x else .y
  if 1 < a ∨ 1 < rd c.p 1 1 then .err 0x12 c.opAddr
  else if s.serviceStopped then .err 0x21 c.opAddr
  else if a = 0 then
    if ((s.lane n).net.chan ch.other).state ≠ 3 then .err 0x21 c.opAddr
    else if s.meas.cableOn then .err 0x18 c.opAddr
    else .pending (s.beginCable n ch) []
  else
    let v := s.meas.cable n ch
    .ok s ([v.1, v.2.1] ++ beBytes 2 v.2.2.toNat)

/-- MEASURE_CABLE start (R380). -/
def execMeasureCableStart (r : Req) (s : State) : Host.Outcome State Fault Refusal :=
  done (s.fcp 0x0602 (r.withByte 0 0) handleMeasureCable noPart)

/-- MEASURE_CABLE read (R362). -/
def execMeasureCableRead (r : Req) (s : State) : Host.Outcome State Fault Refusal :=
  done (s.fcp 0x0602 (r.withByte 0 1) handleMeasureCable noPart)

/-- The distance of an echo in 0.1 m: d = 0.66 * 299.8 m/us * t / 2 (R380). -/
def echoDistance (delay : Nat) : Int := roundAway (66 / 100 * (2998 / 10) * (delay / 1000) / 2 * 10)

/-- MEASURE_CABLE_COMPLETE (R380): after 64 pulses a reflection beyond 25 % within 25 m is an open or a short. -/
def execMeasureCableComplete (t : Nat) (n : Lane) (refl : Int) (delay : Nat) (s : State) :
    Host.Outcome State Fault Refusal :=
  let s := s.at_ t
  let ch := s.meas.cableChan
  if s.meas.cableOn = true ∧ s.meas.cableLane = n ∧ 64 ≤ ((s.lane n).net.chan ch).tdrPulses then
    let d := echoDistance delay
    let fault := decide (25 < absQ refl) && decide (d ≤ 250)
    let v : Byte × Byte × Half := (2, if fault then (if 0 < refl then 1 else 2) else 0, if fault then h16 d else 0)
    done { s with meas := { s.meas.putCable n ch v with cableOn := false } }
  else done s

/-! ### The on-demand self-test (R363, R385, R387) -/

/-- A self-test is armed on some lanes, one after the other (R387): their results read as running. -/
def State.beginTest (s : State) (ls : List Lane) (mask : Half) : State :=
  { s with meas := { s.meas with
    testOn := true, testLanes := ls, testMask := mask
    testRes := ls.map (fun m => (m, 1, 0, 0)) ++ s.meas.testRes.filter (fun r => !ls.contains r.1) } }

/-- SELFTEST_RUN at the lane that answers (R363, R387, R398). -/
def handleSelftestRun : Handler := fun s n c =>
  let mask : Half := BitVec.ofNat 16 (rd c.p 0 2)
  match firstErr [(mask &&& 0x3F == 0, 0x12, c.opAddr), (s.serviceStopped, 0x21, c.opAddr), (s.meas.testOn, 0x18, c.opAddr)] with
  | some e => .err e.1 e.2
  | none => .pending (s.beginTest (if c.r.target = 0 then s.actives else [n]) (mask &&& 0x3F)) []

/-- SELFTEST_RUN (R387). -/
def execSelftestRun (r : Req) (s : State) : Host.Outcome State Fault Refusal := done (s.fcp 0x0701 r handleSelftestRun noPart)

/-- The tests that all have to pass to clear a map bit (R385). -/
def clearingTests (k : Nat) : List Nat := if k ≤ 1 then [0, 1, 2] else [mapTest k]

/-- The channels that a run tests: those whose other channel is integrated (R387). -/
def LaneSt.testable (l : LaneSt) (k : Nat) : Bool := if k = 6 then l.net.y.state == 3 else if k = 7 then l.net.x.state == 3 else true

/-- A passing Service BIST clears the bits it covers, each logged as BIST_CLEARED; a channel so cleared listens again. -/
def State.clearBits (s : State) (n : Lane) (done_ bad : Byte) (badBits : Dword) : State :=
  let was := s.lane n
  (List.range 16).foldl (fun s k =>
    if (s.lane n).mapBit k && was.testable k && !badBits.getLsbD k && (clearingTests k).all (fun j => done_.getLsbD j && !bad.getLsbD j) then
      let s := s.onCtr n (fun c => { c with map := clearMapBit c.map k })
      let s := if k = 6 then s.onChan n .x (fun c => { c with state := if c.state = 0 then 1 else c.state })
        else if k = 7 then s.onChan n .y (fun c => { c with state := if c.state = 0 then 1 else c.state }) else s
      s.log n 0x0B12 (BitVec.ofNat 32 k) (BitVec.ofNat 64 (2 ^ mapTest k * 2 ^ 56))
    else s) s

/-- A set after the test of its legs or of its field engine (R384): its registers as a reset leaves them, the gate-servo codes from the
factory table; counters stay. -/
def LaneSt.retested (l : LaneSt) (c : SetSt) : SetSt :=
  let leg := fun (g : LegSt) => { ({} : LegSt) with
    tripped := g.tripped, temp := g.temp, satCount := g.satCount
    kHsOn := Config.gateTable g.temp l.sup.auxLink 0, kHsOff := Config.gateTable g.temp l.sup.auxLink 1
    kLsOn := Config.gateTable g.temp l.sup.auxLink 2, kLsOff := Config.gateTable g.temp l.sup.auxLink 3 }
  { c.afterReset with
    u := leg c.u, v := leg c.v, w := leg c.w, cDefer := c.cDefer, cBlock := c.cBlock, cPred := c.cPred, cCross := c.cCross
    cLate := c.cLate, cClamp := c.cClamp, cWin := c.cWin, lastMove := c.lastMove }

/-- A SENT receiver after its test (R384): its registers as a reset leaves them; counters stay. -/
def SentSt.retested (x : SentSt) (t : Nat) : SentSt :=
  { ({} : SentSt) with
    started := t, cDiscard := x.cDiscard, cTimeout := x.cTimeout, cAccept := x.cAccept, cSerial := x.cSerial }

/-- The blocks a run has tested are re-initialised (R384): sets and profile engine, converters and input samplers, Shutters. DESIGN CHOICE:
of two channels tested one after the other, X has joined again before Y's turn, so the run leaves Y in Listen. -/
def LaneSt.reinit (l : LaneSt) (ran : Byte) (t : Nat) : LaneSt :=
  let l := if ran.getLsbD 0 || ran.getLsbD 1 then { l with s := l.retested l.s, b := l.retested l.b } else l
  let l := if ran.getLsbD 1 then { l with prof := {} } else l
  let l := if ran.getLsbD 2 then { l with
      s := { l.s with offs := [], offTick := 0 }, b := { l.b with offs := [], offTick := 0 }
      sentA := l.sentA.retested t, sentB := l.sentB.retested t
      quad := { ({} : QuadSt) with a := l.quad.a, b := l.quad.b, qerr := l.quad.qerr, faultAt := t } } else l
  if ran.getLsbD 5 then
    let again := fun (k : ChanSt) => { k with state := 1, agree := 0, big := 0, kTicks := 0, kSum := 0, kCount := 0, phaseOk := true }
    if l.testable 7 then { l with net := { l.net with y := again l.net.y } }
    else if l.testable 6 then { l with net := { l.net with x := again l.net.x } } else l
  else l

/-- The mask bits a run on a lane counts as tested (R387): not the sets' while one of them turns, and the Shutters' only with a channel
whose other one is integrated. -/
def State.countedTests (s : State) (n : Lane) (ran : Byte) : Byte :=
  let l := s.lane n
  let ran := if s.moving n .s || s.moving n .b then ran &&& 0xFC else ran
  if l.testable 6 || l.testable 7 then ran else ran &&& 0xDF

/-- SELFTEST_COMPLETE (R384, R385, R387): the run on a lane ends; the tested blocks are re-initialised, bits are set and cleared, the next
lane follows. -/
def execSelftestComplete (t : Nat) (n : Lane) (done_ : Byte) (bad : Byte) (badBits : Dword) (s : State) :
    Host.Outcome State Fault Refusal :=
  let s := s.at_ t
  if s.meas.testOn = true ∧ s.meas.testLanes.head? = some n then
    let ran := s.countedTests n (done_ &&& s.meas.testMask.setWidth 8)
    let failed := bad &&& ran
    let ks := (List.range 16).filter (fun k => badBits.getLsbD k && (s.lane n).testable k && (clearingTests k).any (fun j => failed.getLsbD j))
    let s := s.failBits n ks (fun k => BitVec.ofNat 64 (2 ^ mapTest k * 2 ^ 56))
    let s := s.onLane n (·.reinit ran t)
    let s := (s.clearBits n ran failed badBits).onLane n LaneSt.obeyMap
    let rest := s.meas.testLanes.drop 1
    let s := { s with meas := { s.meas with
      testLanes := rest, testOn := !rest.isEmpty
      testRes := (n, 2, ran.setWidth 16, failed.setWidth 16) :: s.meas.testRes.filter (fun r => r.1 != n) } }
    done (s.lostSet n)
  else done s

/-- The record of SELFTEST_RESULT of a lane (R363). -/
def State.testRecord (s : State) (n : Lane) : List Byte :=
  let r := ((s.meas.testRes.find? (fun r => r.1 == n)).map (·.2)).getD (0, 0, 0)
  [r.1, 0] ++ beBytes 2 r.2.1.toNat ++ beBytes 2 r.2.2.toNat ++ [0, 0] ++ beBytes 8 (s.lane n).ctr.map.toNat

/-- SELFTEST_RESULT at the lane that answers, read piecewise (R352, R363). -/
def handleSelftestResult : Handler := fun s n c => s.piecewise n c (rd c.p 0 2) (s.testRecord n)

/-- SELFTEST_RESULT (R363). -/
def execSelftestResult (r : Req) (s : State) : Host.Outcome State Fault Refusal :=
  done (s.fcp 0x0702 r handleSelftestResult noPart)

end Sys2Proof.Machine
end

