-- ==== Sys2Proof/Machine/ParamCmds.lean ====
section
/-! DEFINITION. The parameter commands: key and memory reads, writes, the commit rules and the commit, image information
(Command Reference R358 to R361 and the commit rules of every chapter). -/

namespace Sys2Proof.Machine

/-- A key as a logged address. -/
def keyAddr (k : Half) : Word := k.setWidth 32

/-! ### Reading -/

/-- The key form's reply (R359). -/
def ParamImg.keyReply (p : ParamImg) (row : ParamRow) : List Byte :=
  let k := row.key
  beBytes 2 k.toNat ++
  [BitVec.ofNat 8 (bit row.expert),
   BitVec.ofNat 8 (bit (p.workingCode k != p.committedCode k) + 2 * bit (p.workingCode k != p.code k))] ++
  beInt 8 (p.workingCode k) ++ beInt 8 (p.committedCode k)

/-- The first address of a range with a property. -/
def firstAddr (a len : Nat) (f : Nat → Bool) : Option Nat := ((List.range len).map (a + ·)).find? f

/-- PARAM_READ at the lane that answers (R28, R359, R398): form 0 a key, form 1 memory read with its checks. -/
def handleParamRead : Handler := fun s n c =>
  let form := rd c.p 0 1
  if form = 0 then
    match paramRow (BitVec.ofNat 16 (rd c.p 2 2)) with
    | some row => .ok s ((s.lane n).par.keyReply row)
    | none => .err 0x12 (BitVec.ofNat 32 (rd c.p 2 2))
  else if form = 1 then
    let len := rd c.p 2 2
    let a := rd c.p 4 4
    if len < 1 ∨ 1024 < len then .err 0x12 c.opAddr
    else match firstAddr a len (fun x => !mapped x) with
      | some x => .err 0x12 (BitVec.ofNat 32 x)
      | none => match firstAddr a len inKeyStore with
        | some x => .err 0x14 (BitVec.ofNat 32 x)
        | none =>
          if s.serviceStopped then .err 0x21 c.opAddr
          else
            let q := s.readBytes n a (min len (s.maxData n c.r.carriage - 4))
            match q.2 with
            | some b => .ok q.1 (beBytes 4 a ++ b)
            | none => faultedRead q.1 n
  else .err 0x12 c.opAddr

/-- PARAM_READ, key form (R359). -/
def execParamReadKey (r : Req) (s : State) : Host.Outcome State Fault Refusal :=
  done (s.fcp 0x0501 (r.withByte 0 0) handleParamRead noPart)

/-- PARAM_READ, memory form (R359). -/
def execParamReadMemory (r : Req) (s : State) : Host.Outcome State Fault Refusal :=
  done (s.fcp 0x0501 (r.withByte 0 1) handleParamRead noPart)

/-! ### Writing (R360) -/

/-- The pairs of a PARAM_WRITE. -/
def pairsOf (p : List Byte) : List (Half × Int) :=
  (List.range (rd p 0 1)).map (fun i => (BitVec.ofNat 16 (rd p (4 + 12 * i) 2), rdI p (8 + 12 * i) 8))

/-- A key that Run and Limp do not let a write touch (R360). -/
def frozenInRun (k : Takes) : Bool := k == .runEntry || k == .readyEntry || k == .boot

/-- The four steps of R360 for one pair after those before it. -/
def checkPair (md : Mode) (expert : Bool) (before : List (Half × Int)) (q : Half × Int) : Option (Byte × Word) :=
  match paramRow q.1 with
  | none => some (0x12, keyAddr q.1)
  | some row =>
    if before.any (fun b => b.1 == q.1) then some (0x12, keyAddr q.1)
    else if row.expert && !expert then some (0x14, keyAddr q.1)
    else if (md == .run || md == .limp) && frozenInRun row.takes then some (0x13, keyAddr q.1)
    else if row.valid q.2 = false then some (0x12, keyAddr q.1)
    else none

/-- The first pair that fails a step (R360). -/
def checkPairs (md : Mode) (expert : Bool) : List (Half × Int) → List (Half × Int) → Option (Byte × Word)
  | _, [] => none
  | before, q :: r => (checkPair md expert before q).or (checkPairs md expert (before ++ [q]) r)

/-- An image with a list of writes in its working image. -/
def ParamImg.writeAll (p : ParamImg) (qs : List (Half × Int)) : ParamImg :=
  { p with working := qs.foldl (fun w q => putWrite w q.1 q.2) p.working }

/-- Pairs enter the working image of every Active lane; keys marked "At once" come into force (R360). -/
def State.writePairs (s : State) (qs : List (Half × Int)) : State :=
  (s.onLanes (fun _ l =>
    if l.state = .active ∨ l.state = .rejoining then { l with par := l.par.writeAll qs } else l)).takeEffect .atOnce

/-- PARAM_WRITE at the lane that answers (R360): all pairs or none; they enter the working image of every Active lane, and
keys marked "At once" come into force. -/
def handleParamWrite : Handler := fun s _ c =>
  let n := rd c.p 0 1
  if n < 1 ∨ 32 < n then .err 0x12 c.opAddr
  else
    let qs := pairsOf c.p
    match checkPairs s.m.mode c.expert [] qs with
    | some e => .err e.1 e.2
    | none => .ok (s.writePairs qs) []

/-- PARAM_WRITE (R360). -/
def execParamWrite (r : Req) (s : State) : Host.Outcome State Fault Refusal := done (s.fcp 0x0502 r handleParamWrite noPart)

/-! ### The commit rules -/

/-- The actual PWM frequency in Hz of a frequency in kHz (R166). -/
def actualPwm (khz : Nat) : Rat := 400000000 / (halfSteps khz : Rat)

/-- The offsets of a motor break R20: exactly two of them equal; the key of the later of the two. -/
def offsetRule (p : ParamImg) (k1 k2 k3 : Half) : Option Word :=
  let a := p.workingCode k1
  let b := p.workingCode k2
  let c := p.workingCode k3
  if a = b ∧ b = c then none
  else if a = b then some (keyAddr k2)
  else if a = c ∨ b = c then some (keyAddr k3)
  else none

/-- The update rate in Hz (R193). -/
def ParamImg.updateRate (p : ParamImg) : Rat :=
  actualPwm (p.workingCode Key.pwmFreq).toNat * (1 + p.workingVal Key.pwmUpdate)

/-- The actual injection frequency in Hz (R193). -/
def ParamImg.injFreq (p : ParamImg) : Rat :=
  let m := roundAway (p.updateRate / p.workingVal Key.obsInjFreq)
  if m = 0 then p.updateRate else p.updateRate / m

/-- S_inj in mA per degree electrical (R196): inductances in uH, so V / (Hz * uH) gives A per 10^-6. -/
def ParamImg.sInj (p : ParamImg) (amp ld lq : Half) : Rat :=
  let d := p.workingVal ld
  let q := p.workingVal lq
  if d = 0 ∨ q = 0 then 0
  else p.workingVal amp * absQ (q - d) * 1000000000 / (360 * p.injFreq * d * q)

/-- Rules of Legs and loss of command: R101, R110, R121, R136, each broken or not with its logged address. -/
def commitRulesA (p : ParamImg) : List (Bool × Word) :=
  let v := p.workingVal
  [(decide (v Key.locTimeout < v Key.locHoldCycles + 5), 0x8042),
   (decide (v Key.gateDeadtimeS < v Key.gateSlewTarget + 5 / 2), 0x7010),
   (decide (v Key.gateDeadtimeB < v Key.gateSlewTarget + 5 / 2), 0x7011),
   (decide (v Key.setOcS < v Key.steerIlimPeak + 10), 0x7040),
   (decide (v Key.setOcB < v Key.brakeIlimPeak + 10), 0x7041),
   (decide (v Key.legDidtEdge ≤ v Key.legDidtLimit), 0x7031)]

/-- Rules of current sensing and field control: R155, R188. -/
def commitRulesB (p : ParamImg) : List (Bool × Word) :=
  let v := p.workingVal
  let dead := max (v Key.gateDeadtimeS) (v Key.gateDeadtimeB)
  let half := (halfSteps (p.workingCode Key.pwmFreq).toNat : Rat) * 5 / 4
  let bw := p.updateRate / 20
  [(decide (v Key.csWindow < dead + v Key.gateSlewTarget + v Key.csSettle + 35) ||
      decide (half < 2 * v Key.csWindow + 2 * (50 + 2 * dead)), 0x6050),
   (decide (v Key.steerIlimPeak ≤ v Key.steerIlimCont), 0x2011),
   (decide (v Key.brakeIlimPeak ≤ v Key.brakeIlimCont), 0x3011),
   (decide (bw < v Key.steerCurBw), 0x2030), (decide (bw < v Key.brakeCurBw), 0x3030),
   (decide (v Key.steerModLimit < v Key.steerWindowModLimit), 0x2032),
   (decide (v Key.brakeModLimit < v Key.brakeWindowModLimit), 0x3032),
   (decide (100 < v Key.holdBFloor + v Key.holdBStep), 0x4037)]

/-- Rules of the observer: R211. -/
def commitRulesC (p : ParamImg) : List (Bool × Word) :=
  let v := p.workingVal
  [(decide (v Key.obsEmfSpeed ≤ v Key.obsBlendWidth), 0x2043),
   (decide (p.updateRate < v Key.obsInjFreq * 8), 0x2044),
   (decide (p.sInj Key.obsInjAmpS Key.steerLD Key.steerLQ < 2), 0x2045),
   (decide (p.sInj Key.obsInjAmpB Key.brakeLD Key.brakeLQ < 2), 0x2046),
   (decide (p.injFreq / 10 < v Key.obsPllBw), 0x2047),
   (decide (v Key.rejoinConvergeTimeout ≤ v Key.obsAcqTime), 0x204B)]

/-- The rules of one SENT port: R239. -/
def sentRules (v : Half → Rat) (lo hi bits nib ticks : Half) : List (Bool × Word) :=
  let top : Rat := (2 ^ (v bits).floor.toNat : Nat)
  [(decide (4 * v nib < v bits), keyAddr bits),
   (decide (v hi ≤ v lo) || decide (top - 1 < v hi), keyAddr hi),
   (decide (v ticks < 56 + 27 * (v nib + 2)), keyAddr ticks)]

/-- Rules of the ports and of profiles and homing: R239, R260. -/
def commitRulesD (p : ParamImg) : List (Bool × Word) :=
  let v := p.workingVal
  sentRules v Key.sentLoA Key.sentHiA Key.sentBitsA Key.sentNibblesA Key.sentFrameTicksA ++
  sentRules v Key.sentLoB Key.sentHiB Key.sentBitsB Key.sentNibblesB Key.sentFrameTicksB ++
  [(decide (v Key.swChatterW ≤ v Key.sw1Filter) || decide (v Key.swChatterW ≤ v Key.sw2Filter), 0x603D),
   (decide (v Key.profSStopAmax < v Key.profSAmax), 0x4004),
   (decide (v Key.homeBStiffForce ≤ v Key.homeBKissForce), 0x404B),
   (decide (v Key.homeSMinTravel ≤ v Key.homeSSwitchClear), 0x4044)]

/-- Rules of the network and the host port: R304, R326, R348. -/
def commitRulesE (p : ParamImg) : List (Bool × Word) :=
  let v := p.workingVal
  let a := p.workingCode Key.netNodeId1
  let b := p.workingCode Key.netNodeId2
  let c := p.workingCode Key.netNodeId3
  [(a == b, keyAddr Key.netNodeId2), (a != b && (a == c || b == c), keyAddr Key.netNodeId3),
   (decide (v Key.netAcceptHalf ≤ v Key.netMaxCorrection), 0x5022),
   (decide (v Key.hostDataRate * 1000 < v Key.hostArbRate), 0x1033)]

/-- The logged address of R361: the lowest of those of the broken rules. -/
def brokenRule (p : ParamImg) : Option Word :=
  let off := (offsetRule p Key.steerOffset1 Key.steerOffset2 Key.steerOffset3).toList ++
    (offsetRule p Key.brakeOffset1 Key.brakeOffset2 Key.brakeOffset3).toList
  let bad := off ++ ((commitRulesA p ++ commitRulesB p ++ commitRulesC p ++ commitRulesD p ++ commitRulesE p).filter
    (·.1)).map (·.2)
  bad.foldl (fun a x => match a with
    | none => some x
    | some y => if x.toNat < y.toNat then some x else some y) none

/-- Every Active lane begins to write its image (R361); the request waits for its reply. -/
def State.beginCommit (s : State) (r : Req) : State :=
  (s.onLanes (fun _ l =>
    if l.state = .active then { l with par := { l.par with commitAt := some s.now } } else l)).onM
      (fun m => { m with commitDue := some r })

/-- PARAM_COMMIT at the lane that answers (R354, R361): every Active lane begins to write; the reply follows. -/
def handleParamCommit : Handler := fun s n c =>
  match brokenRule (s.lane n).par with
  | some a => .err 0x12 a
  | none =>
    if s.m.commitDue.isSome then .err 0x18 c.opAddr
    else .later (s.beginCommit c.r)

/-- PARAM_COMMIT (R361). -/
def execParamCommit (r : Req) (s : State) : Host.Outcome State Fault Refusal := done (s.fcp 0x0503 r handleParamCommit noPart)

/-- An image whose working writes stand in both MRAM copies (R361). -/
def ParamImg.commit (p : ParamImg) : ParamImg := { p with committed := p.working, commitAt := none }

/-- PARAM_COMMIT_DONE (R361): every Active lane has written the image; the Leader replies OK. -/
def execParamCommitDone (t : Nat) (s : State) : Host.Outcome State Fault Refusal :=
  let s := s.at_ t
  match s.m.commitDue with
  | none => done s
  | some r =>
    let s := (s.onLanes (fun _ l => if l.par.commitAt.isSome then { l with par := l.par.commit } else l)).onM
      (fun m => { m with commitDue := none })
    done (s.reply s.scribe 0x0503 r (.ok s []))

/-! ### Image information (R359) -/

/-- The committed image as bytes: every key with its committed code. -/
def ParamImg.imageBytes (p : ParamImg) : List Byte :=
  (paramRows.map (fun r => beBytes 2 r.key.toNat ++ beInt 8 (p.committedCode r.key))).flatten

/-- The record of PARAM_IMAGE_INFO (R359, R437). -/
def LaneSt.imageInfo (l : LaneSt) : List Byte :=
  let p := l.par
  (if p.defaults then beBytes 4 0 ++ beBytes 8 0 else beBytes 4 p.base.toNat ++ beBytes 8 p.vehicle.toNat) ++
  beBytes 2 p.changed ++ [BitVec.ofNat 8 (bit p.differs + 2 * bit (!l.stampBad)), 0] ++
  (beBytes 32 (Config.hash p.imageBytes).toNat).take 8

/-- PARAM_IMAGE_INFO at the lane that answers, read piecewise (R352, R359). -/
def handleImageInfo : Handler := fun s n c => s.piecewise n c (rd c.p 0 2) (s.lane n).imageInfo

/-- PARAM_IMAGE_INFO (R359). -/
def execParamImageInfo (r : Req) (s : State) : Host.Outcome State Fault Refusal :=
  done (s.fcp 0x0504 r handleImageInfo noPart)

end Sys2Proof.Machine
end

