-- ==== Sys2Proof/Machine/Packages.lean ====
section
/-! DEFINITION. Signed packages: their layout, the checks of R434 in their order, and transfers in segments (Boot, Signed
Images and Attestation R431 to R435; Command Reference R366). -/

namespace Sys2Proof.Machine

/-! ### Layout (R431) -/

/-- Body length B. -/
def pkgBody (b : List Byte) : Nat := rd b 12 4
/-- Package kind. -/
def pkgKind (b : List Byte) : Nat := rd b 5 1
/-- Signer. -/
def pkgSigner (b : List Byte) : Nat := rd b 6 1
/-- Package ID. -/
def pkgId (b : List Byte) : Word := BitVec.ofNat 32 (rd b 8 4)
/-- Security version. -/
def pkgVersion (b : List Byte) : Byte := BitVec.ofNat 8 (rd b 24 1)
/-- Issue number. -/
def pkgIssue (b : List Byte) : Word := BitVec.ofNat 32 (rd b 28 4)
/-- The body's bytes. -/
def pkgBodyBytes (b : List Byte) : List Byte := (b.drop 64).take (pkgBody b)

/-- The largest package of a kind (R432). -/
def pkgMax (kind : Nat) : Nat :=
  if kind = 1 then 3670016 else if kind = 2 then 131072 else if kind = 3 then 4685 else 16384

/-- Product code of the module (R434). -/
def productCode : Nat := 0x0318

/-! ### The checks (R434) -/

/-- The signer a kind accepts (R432): the release root for kinds 1 and 5; for the others the owner root whose slot is fused
and not retired. -/
def SecSt.signerOk (x : SecSt) (kind signer : Nat) : Bool :=
  if kind = 1 ∨ kind = 5 then signer == 0
  else (signer == 1 && x.owner0.isSome && !x.retired) || (signer == 2 && x.owner1.isSome)

/-- The keys of a signer: the release root, or the stored owner keys. -/
def SecSt.signerKeys (x : SecSt) (signer : Nat) : List Byte × List Byte :=
  if signer = 0 then (Config.releaseEd, Config.releaseMl) else (x.ownEd, x.ownMl)

/-- Both signatures of a package (R433): Ed25519 and ML-DSA-65 over bytes 0 to 63 + B. -/
def SecSt.sigs (x : SecSt) (b : List Byte) : Bool × Bool :=
  let m := b.take (64 + pkgBody b)
  let k := x.signerKeys (pkgSigner b)
  (Config.ed25519Ok k.1 m ((b.drop (64 + pkgBody b)).take 64), Config.mlDsaOk k.2 m ((b.drop (128 + pkgBody b)).take 3309))

/-- The stored issue number of a kind (R434). -/
def LaneSt.issueOf (l : LaneSt) (kind : Nat) : Word :=
  if kind = 2 then l.par.issue else if kind = 3 then l.sec.almIssue else if kind = 4 then l.sec.keyIssue else l.sec.ownIssue

/-- Orders 1 to 5 of R434: what fails, with the order and the offset of the offending field. `kinds` are the kinds the
carrying command names. -/
def LaneSt.pkgForm (l : LaneSt) (kinds : List Nat) (b : List Byte) : List (Bool × Nat × Nat) :=
  let kind := pkgKind b
  let sg := l.sec.sigs b
  [
    (rd b 0 4 != 0x44545850, 1, 0), (rd b 4 1 / 16 != 1, 1, 4), (!kinds.contains kind, 1, 5),
    (b.length != 3437 + pkgBody b || decide (pkgMax kind < b.length), 1, 12),
    (rd b 16 2 != productCode, 2, 16),
    (!(rd b 18 6 == l.serial.toNat || (rd b 18 6 == 0 && !(kind == 4 || kind == 5))), 2, 18),
    (!l.sec.signerOk kind (pkgSigner b), 3, 6),
    (!sg.1, 4, 64 + pkgBody b), (!sg.2, 5, 128 + pkgBody b)]

/-- Orders 1 to 6 of R434 at transfer: the order and the offset of the first offending field. -/
def LaneSt.pkgOrders (l : LaneSt) (kinds : List Nat) (b : List Byte) : Option (Nat × Nat) :=
  let kind := pkgKind b
  let last := [
    (kind == 1 && decide ((pkgVersion b).toNat < l.counter), 6, 24),
    ((kind == 2 || kind == 3) && decide ((pkgIssue b).toNat < (l.issueOf kind).toNat), 6, 28),
    ((kind == 4 || kind == 5) && decide ((pkgIssue b).toNat ≤ (l.issueOf kind).toNat), 6, 28)]
  ((l.pkgForm kinds b ++ last).find? (·.1)).map (·.2)

/-- The same at Boot, where kinds 2 to 5 need the issue number recorded when the copy was stored: the offset alone. -/
def LaneSt.bootOrders (l : LaneSt) (kind : Nat) (b : List Byte) : Option Nat :=
  let last := [
    (kind == 1 && decide ((pkgVersion b).toNat < l.counter), 6, 24), (kind != 1 && pkgIssue b != l.issueOf kind, 6, 28)]
  ((l.pkgForm [kind] b ++ last).find? (·.1)).map (fun e => e.2.2)

/-- A lane logs PKG_REJECTED with kind, order and the two signature results (R435). -/
def State.logRejected (s : State) (n : Lane) (b : List Byte) (order : Nat) (addr : Word) : State :=
  let sg := if order < 4 then (false, false) else (s.lane n).sec.sigs b
  s.log n 0x0A01 addr (BitVec.ofNat 64 (pkgKind b * 2 ^ 56 + order * 2 ^ 48 + bit sg.1 * 2 ^ 47 + bit sg.2 * 2 ^ 46))

/-! ### Transfers (R366) -/

/-- What a segment does to a transfer. -/
inductive SegStep where
  /-- Refused, with the logged address. -/
  | bad (addr : Word)
  /-- It repeats the previous segment. -/
  | again
  /-- Written; the transfer as it stands. -/
  | go (x : Xfer)
  deriving DecidableEq, Repr

/-- One segment (R366): offset 0 begins a new transfer of `total` bytes where the command names one; the next offset
appends; the previous offset repeats; any other is refused with the expected offset. -/
def segStep (x : Option Xfer) (fresh : Option Nat) (off : Nat) (data : List Byte) : SegStep :=
  match fresh, x with
  | some total, none => if off = 0 then .go { total := total, lastOff := some 0, got := data } else .bad 0
  | some total, some x =>
    if off = 0 then .go { total := total, lastOff := some 0, got := data }
    else if x.lastOff = some off then .again
    else if off = x.got.length then .go { x with lastOff := some off, got := x.got ++ data }
    else .bad (BitVec.ofNat 32 x.got.length)
  | none, none => .bad 0
  | none, some x =>
    if x.lastOff = some off then .again
    else if off = x.got.length then .go { x with lastOff := some off, got := x.got ++ data }
    else .bad (BitVec.ofNat 32 x.got.length)

end Sys2Proof.Machine
end

