-- ==== Sys2Proof/Machine/Security.lean ====
section
/-! DEFINITION. Sessions, attestation, key provisioning and owner enrolment (Fertevo Command Protocol R332 to R334; Boot,
Signed Images and Attestation R445 to R451; Command Reference R365, R366). -/

namespace Sys2Proof.Machine

/-! ### Sessions -/

/-- A key slot; the store starts with eight empty ones (R448). -/
def SecSt.slot (x : SecSt) (k : Nat) : KeySlot := x.slots.getD k {}

/-- The session number after the last one, skipping 0 and the numbers of open sessions (R448); with at most four open, one
of five candidates is free. -/
def nextNumber (last : Half) (used : List Half) : Half :=
  ((List.range 8).map (fun i => last + 1 + BitVec.ofNat 16 i)).find? (fun h => h != 0 && !used.contains h) |>.getD 1

/-- The binding byte of a sender (R448). -/
def bindingOf (c : Carriage) : Byte := BitVec.ofNat 8 c.code

/-- The context C of the key derivation (R448). -/
def kdfContext (nr nm : List Byte) (num : Half) (tag : Nat) (binding : Byte) : List Byte :=
  nr ++ nm ++ beBytes 2 num.toNat ++ [BitVec.ofNat 8 tag, binding]

/-- The seven ASCII bytes of the labels FCP-REQ and FCP-REP (R448). -/
def labelReq : List Byte := [0x46, 0x43, 0x50, 0x2D, 0x52, 0x45, 0x51]
/-- FCP-REP. -/
def labelRep : List Byte := [0x46, 0x43, 0x50, 0x2D, 0x52, 0x45, 0x50]

/-- One key of the counter-mode KDF (R448). -/
def kdf (k : BitVec 128) (label c : List Byte) : BitVec 128 := Config.cmac k ([1] ++ label ++ [0] ++ c ++ [0x00, 0x80])

/-- The nonce the module draws for a new session (R448). -/
def State.moduleNonce (s : State) : List Byte := beBytes 16 (Config.nonce s.free).toNat

/-- The session a SESSION_OPEN makes (R332, R448): its number, level, binding, keys and idle time. -/
def State.newSession (s : State) (n : Lane) (c : Call) : SessionEntry :=
  let l := s.lane n
  let expert := rd c.p 0 1 == 1
  let k := rd c.p 1 1
  let num := nextNumber s.m.lastNum (l.sec.sessions.map (·.num))
  let ctx := kdfContext ((c.p.drop 4).take 16) s.moduleNonce num l.tag (bindingOf c.r.carriage)
  { num := num, expert := expert, binding := bindingOf c.r.carriage, slot := BitVec.ofNat 3 k, mark := none
    kReq := kdf (l.sec.slot k).key labelReq ctx, kRep := kdf (l.sec.slot k).key labelRep ctx, opened := s.now
    lastUsed := s.now, idleNs := ms (1000 * l.codeN (if expert then Key.fcpExpertIdle else Key.fcpSessionIdle))
    proven := false, macFails := [] }

/-- A new session enters the Leader's table. -/
def State.addSession (s : State) (n : Lane) (e : SessionEntry) : State :=
  (({ s with free := s.free + 1 } : State).onM (fun m => { m with lastNum := e.num })).onSec n
    (fun x => { x with sessions := x.sessions ++ [e] })

/-- SESSION_OPEN at the Leader (R332, R365, R448): the session enters the Leader's table, and an item of type 0x30 goes to each peer (R449). -/
def handleSessionOpen : Handler := fun s n c =>
  let l := s.lane n
  let lv := rd c.p 0 1
  let k := rd c.p 1 1
  let slot := l.sec.slot k
  let open_ := l.sec.sessions
  let host := c.r.carriage == Carriage.host
  if 1 < lv ∨ 7 < k then .err 0x12 c.opAddr
  else if slot.filled = false ∨ (lv = 1 ∧ slot.expert = false) then .err 0x14 c.opAddr
  else if (if host then slot.mask.getLsbD 1 else slot.mask.getLsbD 0) = false then .err 0x14 c.opAddr
  else if 4 ≤ open_.length ∨ (lv = 1 ∧ open_.any (·.expert) = true) then .err 0x18 c.opAddr
  else
    let s := s.takeEffectIn n .sessionOpen
    let e := s.newSession n c
    .ok ((s.addSession n e).pushBoth n (sessionItemBytes true e)) (beBytes 2 e.num.toNat ++ [0, 0] ++ s.moduleNonce)

/-- SESSION_OPEN (R448). -/
def execSessionOpen (r : Req) (s : State) : Host.Outcome State Fault Refusal := done (s.fcp 0x0802 r handleSessionOpen noPart)

/-- A session leaves a lane's table, with its snapshots (R332, R352). -/
def SecSt.dropSession (x : SecSt) (num : Half) : SecSt :=
  { x with sessions := x.sessions.filter (fun e => e.num != num), snaps := x.snaps.filter (fun e => e.1 != num) }

/-- The Leader closes a session and tells its peers (R449); closing the Service session ends Service (R275, R332). -/
def State.closeSession (s : State) (n : Lane) (num : Half) : State :=
  let s := match (s.lane n).sec.session num with
    | some e => s.pushBoth n (sessionItemBytes false e)
    | none => s
  let s := s.onSec n (·.dropSession num)
  if s.m.mode = .service ∧ s.m.svcSess = num then s.endService else s

/-- SESSION_CLOSE at the Leader (R365): the request's own session, or in an expert session another one. -/
def handleSessionClose : Handler := fun s n c =>
  let want : Half := BitVec.ofNat 16 (rd c.p 0 2)
  let num := if want = 0 then c.r.session else want
  if num ≠ c.r.session ∧ c.expert = false then .err 0x14 c.opAddr
  else if (s.lane n).sec.session num = none then .err 0x12 (num.setWidth 32)
  else .ok (s.closeSession n num) []

/-- SESSION_CLOSE (R365). -/
def execSessionClose (r : Req) (s : State) : Host.Outcome State Fault Refusal := done (s.fcp 0x0803 r handleSessionClose noPart)

/-- The entry of a session item at a lane (R449), its idle time by the lane's own parameters. DESIGN CHOICE: a sequence mark of 0 says
that no request has been accepted yet; the layout has no other place for it. -/
def LaneSt.sessionOf_item (l : LaneSt) (b : List Byte) (now : Nat) : SessionEntry :=
  let expert := rd b 6 1 % 2 == 1
  let mark : Half := BitVec.ofNat 16 (rd b 10 2)
  { num := BitVec.ofNat 16 (rd b 4 2), expert := expert, binding := BitVec.ofNat 8 (rd b 7 1), slot := BitVec.ofNat 3 (rd b 8 1)
    mark := if mark = 0 then none else some mark, kReq := BitVec.ofNat 128 (rd b 12 16), kRep := BitVec.ofNat 128 (rd b 28 16)
    opened := now, lastUsed := now
    idleNs := ms (1000 * l.codeN (if expert then Key.fcpExpertIdle else Key.fcpSessionIdle)), proven := mark != 0, macFails := [] }

/-- SESSION_ITEM (R332, R449): a change of the Leader's table arrives at a lane. -/
def execSessionItem (t : Nat) (src : Lane) (dst : Lane) (c : SessionChange) (s : State) : Host.Outcome State Fault Refusal :=
  done ((s.at_ t).onItem src dst 0x30 (sessionItemBytes c.isOpen c.entry) (fun s b =>
    let e := (s.lane dst).sessionOf_item b s.now
    if rd b 3 1 % 2 = 1 then
      s.onSec dst (fun x => { x with sessions := x.sessions.filter (fun k => k.num != e.num) ++ [e] })
    else s.onSec dst (·.dropSession e.num)))

/-- SESSION_IDLE_TIMEOUT (R332). -/
def execSessionIdleTimeout (t : Nat) (num : Half) (s : State) : Host.Outcome State Fault Refusal :=
  let s := s.at_ t
  let n := s.scribe
  match (s.lane n).sec.session num with
  | some e => if e.lastUsed + e.idleNs ≤ t then done (s.closeSession n num) else done s
  | none => done s

/-- Why a session is dropped now (R449): 1 no valid MAC within SEC.OPEN_PROOF, 2 too many MAC failures within 1 s. -/
def LaneSt.dropCause (l : LaneSt) (e : SessionEntry) (now : Nat) : Option Nat :=
  if e.proven = false ∧ e.opened + ms (100 * l.codeN Key.secOpenProof) ≤ now then some 1
  else if l.codeN Key.secMacFailLimit ≤ (e.macFails.filter (fun a => decide (now < a + 1000000000))).length then some 2
  else none

/-- The Leader drops a session for a cause and logs it (R449). -/
def State.dropSession (s : State) (n : Lane) (num : Half) (cause : Nat) : State :=
  (s.log n 0x0A06 (num.setWidth 32) (BitVec.ofNat 64 (cause * 2 ^ 56))).closeSession n num

/-- SESSION_DROPPED (R449). -/
def execSessionDropped (t : Nat) (num : Half) (s : State) : Host.Outcome State Fault Refusal :=
  let s := s.at_ t
  let n := s.scribe
  match (s.lane n).sec.session num with
  | some e => match (s.lane n).dropCause e t with
    | some k => done (s.dropSession n num k)
    | none => done s
  | none => done s

/-- PIECEWISE_SNAPSHOT_EXPIRY (R352): snapshots of a session older than 1 s lapse. -/
def execPiecewiseSnapshotExpiry (t : Nat) (n : Lane) (session : Half) (s : State) : Host.Outcome State Fault Refusal :=
  let s := s.at_ t
  done (s.onSec n (fun x => { x with
    snaps := x.snaps.filter (fun e => !(e.1 == session && decide (e.2.2.1 + 1000000000 ≤ t))) }))

/-! ### Attestation (R446) -/

/-- The package that runs: ID and security version. -/
def SecSt.runningPkg (x : SecSt) : Word × Byte := (x.bank x.running).getD (0, 0)

/-- The bytes of the running firmware package as its bank holds them. -/
def LaneSt.runningBytes (l : LaneSt) (n : Lane) : List Byte :=
  let base := (bankBase l.sec.running).toNat
  let B := beNat (l.bytesAt n (base + 12) 4)
  l.bytesAt n base (3437 + B)

/-- Bytes 0 to 1,423 of the report (R446). -/
def State.attestBody (s : State) (n : Lane) (nonce : List Byte) : List Byte :=
  let l := s.lane n
  let x := l.sec
  [1, BitVec.ofNat 8 (n.num * 16)] ++ beBytes 6 l.serial.toNat ++ beInt 8 (s.meridian n) ++ nonce ++
  beBytes 4 x.runningPkg.1.toNat ++ [x.runningPkg.2, BitVec.ofNat 8 l.counter,
    BitVec.ofNat 8 (x.running.toNat + 4 * bit x.trial.isSome + 8 * bit x.otherOk + 16 * bit l.time.synced),
    BitVec.ofNat 8 l.state.code] ++
  beBytes 32 (Config.hash (l.runningBytes n)).toNat ++
  beBytes 4 (if l.par.defaults then 0 else l.par.base.toNat) ++
  beBytes 32 (Config.hash l.par.imageBytes).toNat ++ beBytes 4 (almId l.net.almanac).toNat ++
  beBytes 4 x.keyIssue.toNat ++ ownerBytes x.owner0 ++ ownerBytes x.owner1 ++
  [BitVec.ofNat 8 (bit x.retired + 2 * bit l.par.defaults), 0, 0, 0] ++ beBytes 8 l.ctr.map.toNat ++ Config.encapKeys n

/-- The 16 ASCII bytes DTX3L18-ATTEST-1. -/
def attestLabel : List Byte :=
  [0x44, 0x54, 0x58, 0x33, 0x4C, 0x31, 0x38, 0x2D, 0x41, 0x54, 0x54, 0x45, 0x53, 0x54, 0x2D, 0x31]

/-- The whole report: body, both signatures, both certificates (R446). -/
def State.attestReport (s : State) (n : Lane) (nonce : List Byte) : List Byte :=
  let b := s.attestBody n nonce
  b ++ Config.identitySign n (attestLabel ++ b) ++ Config.identityChain n

/-- ATTEST_CHALLENGE at the lane that answers (R352, R437, R446): offset 0 makes a new report, whose reply follows once it
is made; later offsets read it. -/
def handleAttest : Handler := fun s n c =>
  let l := s.lane n
  let off := rd c.p 32 2
  if l.sec.idBad then .err 0x30 (laneAddr n)
  else if off = 0 then
    match l.sec.attestAt with
    | some a => if s.now < a + ms 100 then .err 0x18 c.opAddr
      else .later (s.onSec n (fun x => { x with
        attest := s.attestReport n (c.p.take 32), attestAt := some s.now, attestReady := false, attestReq := some c.r }))
    | none => .later (s.onSec n (fun x => { x with
        attest := s.attestReport n (c.p.take 32), attestAt := some s.now, attestReady := false, attestReq := some c.r }))
  else s.piecewise n c off l.sec.attest

/-- ATTEST_CHALLENGE (R446). -/
def execAttestChallenge (r : Req) (s : State) : Host.Outcome State Fault Refusal := done (s.fcp 0x0801 r handleAttest noPart)

/-- ATTEST_REPORT_DONE (R446): the report is readable, and the challenge is answered with its first piece. -/
def execAttestReportDone (t : Nat) (n : Lane) (s : State) : Host.Outcome State Fault Refusal :=
  let s := s.at_ t
  match (s.lane n).sec.attestReq with
  | none => done s
  | some r =>
    let s := s.onSec n (fun x => { x with attestReady := true, attestReq := none })
    done (s.reply n 0x0801 r (s.piecewise n ((s.lane n).call 0x0801 r) 0 (s.lane n).sec.attest))

/-! ### KEY_PROVISION (R366, R450, R451) -/

/-- Offset of slot record i in a kind-4 body (R450). -/
def slotRecord (i : Nat) : Nat := 3436 + 32 * i

/-- The first body field of a key package that is out of range: count, slot, level or mask (R450). -/
def keyBodyBad (b : List Byte) : Option Nat :=
  let n := rd b 0 1
  if n < 1 ∨ 8 < n then some 0
  else
    let bad := fun i =>
      let o := slotRecord i
      let slot := rd b o 1
      let lv := rd b (o + 1) 1
      if 7 < slot ∨ (List.range i).any (fun j => rd b (slotRecord j) 1 == slot) = true then some o
      else if 1 < lv ∧ lv ≠ 0xFF then some (o + 1)
      else if 3 < rd b (o + 2) 1 then some (o + 2)
      else none
    (List.range n).findSome? bad

/-- The slots after the records of a key package with the unwrapped keys (R450). -/
def putSlots (x : SecSt) (b keys : List Byte) : List KeySlot :=
  (List.range (rd b 0 1)).foldl (fun ss i =>
    let o := slotRecord i
    let k : KeySlot := if rd b (o + 1) 1 = 0xFF then {} else
      { filled := true, expert := rd b (o + 1) 1 == 1, mask := BitVec.ofNat 2 (rd b (o + 2) 1),
        key := BitVec.ofNat 128 (rd keys (16 * i) 16) }
    ss.set (rd b o 1) k) ((List.range 8).map x.slot)

/-- The slots a key package names. -/
def namedSlots (b : List Byte) : List Nat := (List.range (rd b 0 1)).map (fun i => rd b (slotRecord i) 1)

/-- A package is rejected at an order (R435): logged, and answered with its status and address. -/
def State.reject (s : State) (n : Lane) (pkg : List Byte) (order : Nat) (st : Byte) (addr : Nat) : Answer :=
  .fail (s.logRejected n pkg order (BitVec.ofNat 32 addr)) st (BitVec.ofNat 32 addr)

/-- Every Active lane unwraps its block and stores the keys; sessions of a named slot close with cause 3 (R449, R450). -/
def State.putKeys (s : State) (n : Lane) (pkg : List Byte) : State :=
  let b := pkgBodyBytes pkg
  let s := s.actives.foldl (fun (s : State) m =>
    (s.onSec m (fun x => { x with slots := putSlots x b ((Config.unwrapKeys m pkg).getD []), keyIssue := pkgIssue pkg, keyPkg := pkg })).log m
      0x0B1B (pkgIssue pkg)) s
  let dead := ((s.lane n).sec.sessions.filter (fun e => (namedSlots b).contains e.slot.toNat)).map (·.num)
  dead.foldl (fun (s : State) k => s.dropSession n k 3) s

/-- A key package that passed orders 1 to 6 (R449, R450); `base` is the address of the copy being written. -/
def State.storeKeys (s : State) (n : Lane) (pkg : List Byte) (base : Nat) : Answer :=
  match keyBodyBad (pkgBodyBytes pkg) with
  | some o => s.reject n pkg 7 0x12 (base + 64 + o)
  | none =>
    match s.actives.find? (fun m => (Config.unwrapKeys m pkg).isNone) with
    | some m => s.reject n pkg 7 0x15 (base + 64 + 4 + 1144 * (m.num - 1))
    | none => .ok (s.putKeys n pkg) []

/-- A key package passes orders 1 to 6 of R434 at Boot: every order but the issue number's, which is not below the one the
lane recorded. -/
def LaneSt.keysOk (l : LaneSt) (pkg : List Byte) : Bool :=
  (({ l with sec := { l.sec with keyIssue := 0 } } : LaneSt).pkgOrders [4] pkg).isNone &&
  decide (l.sec.keyIssue.toNat ≤ (pkgIssue pkg).toNat)

/-- The first failing check of an enrolment body against a lane's OTP (R451): status and offset in the body. Slot 0 only
while it is unfused; slot 1 once, with slot 0's countersignatures. -/
def enrolBad (x : SecSt) (b : List Byte) : Option (Byte × Nat) :=
  let slot := rd b 0 1
  let m := b.take 1988
  if 1 < slot then some (0x12, 0)
  else if slot = 0 ∧ x.owner0.isSome = true then some (0x15, 0)
  else if slot = 1 ∧ (x.owner0.isNone = true ∨ x.owner1.isSome = true) then some (0x15, 0)
  else if slot = 1 ∧ Config.ed25519Ok x.ownEd m ((b.drop 1988).take 64) = false then some (0x15, 1988)
  else if slot = 1 ∧ Config.mlDsaOk x.ownMl m ((b.drop 2052).take 3309) = false then some (0x15, 2052)
  else none

/-- A lane fuses the hash of an owner slot, for slot 1 also the retire word, and stores the keys (R429, R451); a fused slot
keeps its hash. -/
def SecSt.fuse (x : SecSt) (pkg : List Byte) : SecSt :=
  let b := pkgBodyBytes pkg
  let slot := rd b 0 1
  let ed := (b.drop 4).take 32
  let ml := (b.drop 36).take 1952
  let hash := Config.hash (ed ++ ml)
  { x with
    owner0 := if slot = 0 then x.owner0.or (some hash) else x.owner0
    owner1 := if slot = 1 then x.owner1.or (some hash) else x.owner1
    retired := x.retired || slot == 1, ownEd := ed, ownMl := ml, ownIssue := pkgIssue pkg, ownPkg := pkg }

/-- Every Active lane fuses an owner and logs it (R451). -/
def State.fuseAll (s : State) (pkg : List Byte) : State :=
  let b := pkgBodyBytes pkg
  s.actives.foldl (fun (s : State) k =>
    (s.onSec k (·.fuse pkg)).log k 0x0B1A (BitVec.ofNat 32 (rd b 0 1))) s

/-- Owner enrolment that passed orders 1 to 6 (R451). -/
def State.enrol (s : State) (n : Lane) (pkg : List Byte) (base : Nat) : Answer :=
  match enrolBad (s.lane n).sec (pkgBodyBytes pkg) with
  | some e => s.reject n pkg 7 e.1 (base + 64 + e.2)
  | none => .ok (s.fuseAll pkg) []

/-- The key store as the copy being written (R25, R434). -/
def keyStoreBase : Nat := 0x007A0000

/-- A complete KEY_PROVISION package (R434, R435). -/
def State.finishKeys (s : State) (n : Lane) (pkg : List Byte) : Answer :=
  match (s.lane n).pkgOrders [4, 5] pkg with
  | some (order, off) => s.reject n pkg order 0x15 (keyStoreBase + off)
  | none => if pkgKind pkg = 4 then s.storeKeys n pkg keyStoreBase else s.enrol n pkg keyStoreBase

/-- KEY_PROVISION at the Leader (R366): one segment; the completing one runs the checks. -/
def handleKeyProvision : Handler := fun s n c =>
  let off := rd c.p 0 4
  let total := rd c.p 4 4
  let len := rd c.p 8 2
  if 16384 < total ∨ len < 1 ∨ 1024 < len then .err 0x12 c.opAddr
  else match segStep s.m.keyX (some total) off ((c.p.drop 12).take len) with
    | .bad a => .err 0x12 a
    | .again => .ok s []
    | .go x =>
      if x.got.length < x.total then .ok (s.onM (fun m => { m with keyX := some x })) []
      else (s.onM (fun m => { m with keyX := none })).finishKeys n (x.got.take x.total)

/-- KEY_PROVISION (R366, R450, R451). -/
def execKeyProvision (r : Req) (s : State) : Host.Outcome State Fault Refusal := done (s.fcp 0x0804 r handleKeyProvision noPart)

end Sys2Proof.Machine
end

