-- ==== Sys2Proof/Machine/Firmware.lean ====
section
/-! DEFINITION. Firmware and parameter-image transfers, their verification and activation, the anti-rollback raise, and the
Almanac load (Boot, Signed Images and Attestation R441 to R443; Command Reference R366, R367; Hiolo R292). -/

namespace Sys2Proof.Machine

/-! ### FW_BEGIN and FW_CHUNK (R367, R441) -/

/-- The bank a lane does not run (R441). -/
def SecSt.otherBank (x : SecSt) : BitVec 2 :=
  if x.running = 1 then 2 else if x.running = 2 then 1 else if x.active = 1 then 2 else 1

/-- The lane's transfer bank is unusable (R441). -/
def LaneSt.bankBad (l : LaneSt) : Bool := if l.sec.otherBank = 1 then l.mapBit 14 else l.mapBit 15

/-- Every Active lane opens a transfer of a kind, length and package ID; any open one is abandoned (R367, R441). -/
def State.openTransfer (s : State) (kind total : Nat) (id : Word) : State :=
  (s.onLanes (fun _ l => { l with sec := { l.sec with
    fw := if l.state = .active then some { total := total, lastOff := none, got := [] } else none
    fwHave := l.state == .active, fwKind := BitVec.ofNat 2 kind, fwId := id } })).onM
      (fun m => { m with fwState := 0, fwErr := (0, 0) })

/-- FW_BEGIN at the Leader (R367, R441): any open transfer is abandoned, and every Active lane opens the new one. -/
def handleFwBegin : Handler := fun s _ c =>
  let kind := rd c.p 0 1
  let total := rd c.p 4 4
  if (kind ≠ 1 ∧ kind ≠ 2) ∨ pkgMax kind < total then .err 0x12 c.opAddr
  else match (if kind = 1 then s.actives.find? (fun m => (s.lane m).bankBad) else none) with
    | some m => .err 0x30 (laneAddr m)
    | none => .ok (s.openTransfer kind total (BitVec.ofNat 32 (rd c.p 8 4))) []

/-- FW_BEGIN (R367). -/
def execFwBegin (r : Req) (s : State) : Host.Outcome State Fault Refusal := done (s.fcp 0x0901 r handleFwBegin noPart)

/-- Where a lane's copy of the transfer stands (R25, R441). -/
def SecSt.fwBase (x : SecSt) : Nat := if x.fwKind = 1 then (bankBase x.otherBank).toNat else 0x007E0000

/-- A segment written in one lane: the transfer as it stands, and the bytes in its memory; the image a bank held is gone. -/
def LaneSt.putChunk (l : LaneSt) (x : Xfer) (off : Nat) (data : List Byte) : LaneSt :=
  let k := l.sec.otherBank
  let wipe := l.sec.fwKind == 1
  { l with
    mem := Memory.writeBytes l.mem (l.sec.fwBase + off) data
    sec := { l.sec with
      fw := some x
      bankA := if wipe && k == 1 then none else l.sec.bankA
      bankB := if wipe && k == 2 then none else l.sec.bankB } }

/-- FW_CHUNK at the Leader (R366, R367, R398): every Active lane that holds the transfer writes the segment. -/
def handleFwChunk : Handler := fun s n c =>
  let off := rd c.p 0 4
  let len := rd c.p 4 2
  let data := (c.p.drop 8).take len
  match (s.lane n).sec.fw with
  | none => .err 0x12 c.opAddr
  | some x =>
    if len < 1 ∨ 1024 < len ∨ x.total < off + len then .err 0x12 c.opAddr
    else match segStep (some x) none off data with
      | .bad a => .err 0x12 a
      | .again => if s.serviceStopped then .err 0x21 c.opAddr else .ok s []
      | .go x' =>
        if s.serviceStopped then .err 0x21 c.opAddr
        else .ok (s.onLanes (fun _ l =>
          if l.state = .active ∧ l.sec.fwHave = true then l.putChunk x' off data else l)) []

/-- FW_CHUNK (R367). -/
def execFwChunk (r : Req) (s : State) : Host.Outcome State Fault Refusal := done (s.fcp 0x0902 r handleFwChunk noPart)

/-! ### FW_VERIFY (R367, R441) -/

/-- FW_VERIFY at the Leader: action 0 starts once the last byte has arrived, 1 reads. -/
def handleFwVerify : Handler := fun s n c =>
  let a := rd c.p 0 1
  if 1 < a then .err 0x12 c.opAddr
  else if a = 0 then
    let (have_, got, total) := match (s.lane n).sec.fw with
      | some x => (true, x.got.length, x.total)
      | none => (false, 0, 0)
    if have_ = false ∨ got < total then .err 0x12 (BitVec.ofNat 32 got)
    else if s.m.fwState = 1 then .err 0x18 c.opAddr
    else .pending (s.onM (fun m => { m with fwState := 1 })) []
  else if s.m.fwState = 3 then .err s.m.fwErr.1 s.m.fwErr.2
  else .ok s [s.m.fwState.setWidth 8]

/-- FW_VERIFY start (R441). -/
def execFwVerifyStart (r : Req) (s : State) : Host.Outcome State Fault Refusal :=
  done (s.fcp 0x0903 (r.withByte 0 0) handleFwVerify noPart)

/-- FW_VERIFY read (R367). -/
def execFwVerifyRead (r : Req) (s : State) : Host.Outcome State Fault Refusal :=
  done (s.fcp 0x0903 (r.withByte 0 1) handleFwVerify noPart)

/-- Order 7 for a parameter image (R358, R361, R434): every code valid, then the commit rules. -/
def imageBad (vals : List (Half × Int)) : Option Word :=
  match vals.find? (fun v => match paramRow v.1 with
    | some row => !row.valid v.2
    | none => true) with
  | some v => some (keyAddr v.1)
  | none => brokenRule { baseVals := vals }

/-- The checks of R434 on a lane's copy: the order, the status and the logged address of the first that fails. -/
def LaneSt.verify (l : LaneSt) : Option (Nat × Byte × Word) :=
  match l.sec.fw with
  | none => some (1, 0x15, BitVec.ofNat 32 l.sec.fwBase)
  | some x =>
    let pkg := x.got.take x.total
    match l.pkgOrders [l.sec.fwKind.toNat] pkg with
    | some (order, off) => some (order, 0x15, BitVec.ofNat 32 (l.sec.fwBase + off))
    | none =>
      if l.sec.fwKind = 2 then (imageBad (Config.imageOf (pkgBodyBytes pkg)).2).map (fun a => (7, 0x12, a)) else none

/-- FW_VERIFY_COMPLETE (R435, R441): every Active lane has checked its copy; a lane without the transfer, or the
lowest-numbered failing lane, decides a failure. -/
def execFwVerifyComplete (t : Nat) (s : State) : Host.Outcome State Fault Refusal :=
  let s := s.at_ t
  if s.m.fwState ≠ 1 then done s
  else
    let res := s.actives.filterMap (fun m =>
      if (s.lane m).sec.fwHave = false then some (m, none) else ((s.lane m).verify).map (fun v => (m, some v)))
    let s := res.foldl (fun s r => match r.2 with
      | some v => s.logRejected r.1 (((s.lane r.1).sec.fw.map (·.got)).getD []) v.1 v.2.2
      | none => s) s
    done (s.onM (fun m => match res.head? with
      | none => { m with fwState := 2, fwErr := (0, 0) }
      | some (k, none) => { m with fwState := 3, fwErr := (0x30, laneAddr k) }
      | some (_, some v) => { m with fwState := 3, fwErr := v.2 }))

/-! ### FW_ACTIVATE (R441) -/

/-- What activation makes of a lane's stored content: the trial bank, or the new base image with an empty journal. -/
def LaneSt.activate (l : LaneSt) : LaneSt :=
  let pkg := (l.sec.fw.map (fun x => x.got.take x.total)).getD []
  let k := l.sec.otherBank
  let id := some (pkgId pkg, pkgVersion pkg)
  if l.sec.fwKind = 1 then
    { l with sec := { l.sec with
      trial := some k, trialBad := false, bankA := if k = 1 then id else l.sec.bankA
      bankB := if k = 2 then id else l.sec.bankB } }
  else
    let im := Config.imageOf (pkgBodyBytes pkg)
    { l with par := { l.par with
      pkg := pkg, base := pkgId pkg, vehicle := im.1, issue := pkgIssue pkg, baseVals := im.2, committed := [], working := []
      defaults := false, commitAt := none } }

/-- FW_ACTIVATE at the Leader (R367, R441): OK; the lanes restart once the reply has left. -/
def handleFwActivate : Handler := fun s _ c =>
  if s.m.fwState ≠ 2 then .err 0x21 c.opAddr
  else
    let s := s.takeEffect .fwActivate
    let s := s.onLanes (fun _ l => if l.state = .active ∧ l.sec.fwHave = true then l.activate else l)
    .ok (s.onM (fun m => { m with fwReq := true, fwState := 0 })) []

/-- After the Leader's reply to FW_ACTIVATE has been sent, every Active lane restarts with cause 8, the module enters Boot,
and every session closes (R267, R332, R441). -/
def State.restartModule (s : State) : State :=
  let now := s.now
  let lanes := s.actives
  let s := s.setMode .boot
  let lost := s.m.lostLane
  let s := lanes.foldl (fun s n => (s.restart n 8).onSec n (fun x => { x with trialAt := now })) s
  let s := s.onLanes (fun _ l => { l with sec := { l.sec with sessions := [], snaps := [] } })
  s.onM (fun m => { ({} : ModSt) with mode := .boot, pend := .boot, lastNum := m.lastNum, wake0 := some now, lostLane := lost })

/-- FW_ACTIVATE (R441): over the host port the reply has left at once. -/
def execFwActivate (r : Req) (s : State) : Host.Outcome State Fault Refusal :=
  let s := s.fcp 0x0904 r handleFwActivate noPart
  done (if s.m.fwReq = true ∧ r.carriage = .host then s.restartModule else s)

/-- A lane raises its anti-rollback counter to a version, if that is higher: the lowest unwritten word, or none once all 64
are written (R430, R443). -/
def State.raise (s : State) (n : Lane) (v : Byte) : State :=
  let x := (s.lane n).sec
  if v.toNat ≤ (s.lane n).counter then s.onSec n (fun x => { x with raiseDue := none })
  else if 64 ≤ x.rollback.length then (s.onSec n (fun x => { x with raiseDue := none })).log n 0x0B18 0x100
  else (s.onSec n (fun x => { x with rollback := x.rollback ++ [v], raiseDue := none })).log n 0x0B18 (v.setWidth 32)

/-- ROLLBACK_RAISED (R443): after FW.RAISE_DELAY hours in Run or Limp since the confirmation every Active lane raises its
counter. -/
def execRollbackRaised (t : Nat) (s : State) : Host.Outcome State Fault Refusal :=
  let s := s.at_ t
  if (s.lane s.scribe).codeN Key.fwRaiseDelay * ms 3600000 ≤ s.m.runNs then
    done (s.actives.foldl (fun s n => match (s.lane n).sec.raiseDue with
      | some v => s.raise n v
      | none => s) s)
  else done s

/-! ### Boot reports, and what peers send a lane at Boot (R437, R440, R442, R451) -/

/-- The lowest-numbered Active lane that runs a package, as lane n knows it by its own state and the boot reports it holds (R440). -/
def State.copySource (s : State) (n : Lane) (g : Byte × Word) : Option Lane :=
  allLanes.find? (fun m => s.sees n m == .active && (
    if m = n then ((s.lane n).sec.bank (s.lane n).sec.running).map (fun p => (p.2, p.1)) == some g
    else (s.link m n).boot.any (fun e => e.bank != 0 && e.version == g.1 && e.package == g.2)))

/-- Lane n sends its active bank to a peer that failed Boot for want of the governing package (R440); a copy already on its way
goes on. -/
def State.copyFirmware (s : State) (n p : Lane) (e : BootReport) : State :=
  match s.governing n with
  | some g =>
    if e.bootFailed = true ∧ (e.bank = 0 ∨ (e.version, e.package) ≠ g) ∧ s.copySource n g = some n ∧
        (s.link p n).txq.any (fun i => itemType i == 0x51) = false then
      (segmentItems 0x51 ((s.lane n).runningBytes n)).foldl (fun s i => s.pushItem n p i) s
    else s
  | none => s

/-- Lane n sends a peer that is booting or has failed Boot its owner root keys and the enrolment package, and as Leader the key
package (R437, R451). DESIGN CHOICE: the manual does not say when; here with each boot report, unless such items still wait. -/
def State.sendKeys (s : State) (n p : Lane) (e : BootReport) : State :=
  let x := (s.lane n).sec
  if (e.bootFailed = true ∨ s.sees n p = .starting) ∧ (s.link p n).txq.any (fun i => itemType i == 0x52) = false ∧
      6 ≤ (s.lane n).rst.bootStep ∧ (s.lane n).rst.bootFailed = none then
    let own := if x.ownEd.isEmpty then [] else [KeyContent.ownerKeys (if x.owner1.isSome then 1 else 0) x.ownEd x.ownMl]
    let enrol := if x.ownPkg.isEmpty then [] else [KeyContent.keyPackage x.ownPkg]
    let keys := if x.keyPkg.isEmpty || (s.lane n).role != .leader then [] else [KeyContent.keyPackage x.keyPkg]
    (own ++ enrol ++ keys).foldl (fun s k => s.pushItem n p (keyItemBytes k)) s
  else s

/-- BOOT_REPORT_ITEM (R437, R440, R442): kept; a trial failed elsewhere fails the trial here; a lane that runs another package than
the governing one fails Boot; a lane that lacks firmware or keys is sent them. -/
def execBootReportItem (t : Nat) (src : Lane) (dst : Lane) (e : BootReport) (s : State) : Host.Outcome State Fault Refusal :=
  done ((s.at_ t).onItem src dst 0x50 (bootItem e) (fun s b =>
    let e := bootOf b
    let s := s.onLink src dst (fun k => { k with boot := some e })
    if e.trialFailed ∧ (s.lane dst).sec.trial.isSome then s.dropTrial dst
    else
      let own := ((s.lane dst).sec.bank (s.lane dst).sec.running).map (fun p => (p.2, p.1))
      match s.governing dst with
      | some g =>
        if (s.lane dst).state = .starting ∧ (s.lane dst).rst.bootFailed = none ∧ own ≠ some g then
          (s.failBoot dst 5).tryReady
        else (s.copyFirmware dst src e).sendKeys dst src e
      | none => s.sendKeys dst src e))

/-- A bank's image is being replaced: what it held is gone (R441). -/
def SecSt.wipeBank (x : SecSt) (k : BitVec 2) : SecSt :=
  { x with bankA := if k = 1 then none else x.bankA, bankB := if k = 2 then none else x.bankB }

/-- A bank holds a package. -/
def SecSt.fillBank (x : SecSt) (k : BitVec 2) (pkg : List Byte) : SecSt :=
  let id := some (pkgId pkg, pkgVersion pkg)
  { x with bankA := if k = 1 then id else x.bankA, bankB := if k = 2 then id else x.bankB }

/-- FIRMWARE_COPY_ITEM (R440): segments of the governing package fill the non-running bank of a lane that failed for want of
firmware; the complete bank is checked under R434, becomes active, and the lane restarts with cause 8. A copy that fails the
check is logged (R435) and begins anew. -/
def execFirmwareCopyItem (t : Nat) (src : Lane) (dst : Lane) (off : Nat) (len : Nat) (data : List Byte) (s : State) : Host.Outcome State Fault Refusal :=
  done ((s.at_ t).onItem src dst 0x51 (segmentItem 0x51 off (data.take len)) (fun s i =>
    let l := s.lane dst
    let off := rd i 3 4
    let data := i.drop 7
    if l.rst.bootFailed ≠ some 5 ∨ (off ≠ l.sec.copy.length ∧ off ≠ 0) ∨ pkgMax 1 < off + data.length then s
    else
      let k := l.sec.otherBank
      let base := (bankBase k).toNat
      let got := if off = 0 then data else l.sec.copy ++ data
      let s := s.onLane dst (fun l => { l with
        mem := Memory.writeBytes l.mem (base + off) data, sec := { l.sec.wipeBank k with copy := got } })
      if got.length < 64 ∨ got.length < 3437 + pkgBody got then s
      else match (s.lane dst).pkgOrders [1] got with
        | some (order, o) =>
          (s.logRejected dst got order (BitVec.ofNat 32 (base + o))).onSec dst (fun x => { x with copy := [] })
        | none =>
          let s := s.onSec dst (fun x => { x.fillBank k got with copy := [], active := k })
          (s.log dst 0x0B19 (laneAddr src)).restart dst 8))

/-- A lane without a valid key package takes one from a peer: it passes R434, its body is in range and its own block
unwraps (R437, R450; a package not older than the one recorded is taken, DEDUCED). -/
def State.takeKeys (s : State) (n : Lane) (pkg : List Byte) : State :=
  let l := s.lane n
  let b := pkgBodyBytes pkg
  if l.sec.slots.isEmpty = false ∨ (l.keysOk pkg && (keyBodyBad b).isNone) = false then s
  else match Config.unwrapKeys n pkg with
    | none => s
    | some ks => s.onSec n (fun x => { x with slots := putSlots x b ks, keyIssue := pkgIssue pkg, keyPkg := pkg })

/-- A lane that was not Active at an owner enrolment takes the package from a peer at its next Boot, checks it and fuses
it (R451). -/
def State.takeOwner (s : State) (n : Lane) (pkg : List Byte) : State :=
  let l := s.lane n
  let b := pkgBodyBytes pkg
  match l.pkgOrders [5] pkg, enrolBad l.sec b with
  | none, none => s.onSec n (·.fuse pkg)
  | _, _ => s

/-- KEY_ITEM (R437, R451): owner root keys that match the lane's own OTP hash, the key package of the Leader for a lane with
no valid copy, or an enrolment the lane missed; a lane that failed Boot for want of owner keys restarts. A lane takes them
before it becomes Active. -/
def execKeyItem (t : Nat) (src : Lane) (dst : Lane) (e : KeyContent) (s : State) : Host.Outcome State Fault Refusal :=
  done ((s.at_ t).onItem src dst 0x52 (keyItemBytes e) (fun s i =>
    let l := s.lane dst
    if l.state = .active then s
    else match keyOf i with
      | .ownerKeys slot ed ml =>
        let want := if slot = 0 then l.sec.owner0 else l.sec.owner1
        if want.isSome ∧ want = some (Config.hash (ed ++ ml)) then
          let s := s.onSec dst (fun x => { x with ownEd := ed, ownMl := ml })
          if l.rst.wantsKeys then s.restart dst 8 else s
        else s
      | .keyPackage pkg => if pkgKind pkg = 5 then s.takeOwner dst pkg else s.takeKeys dst pkg))

/-! ### SCHEDULE_LOAD (R292, R366) -/

/-- The address of the Almanac copy being written: the one that does not hold the active Almanac (R25, R293). -/
def NetSt.almBase (x : NetSt) : Nat := if x.actSecond then 0x00740000 else 0x00750000

/-- A checked Almanac package becomes pending in a lane, written into the copy that does not hold the active one (R292, R293). -/
def LaneSt.pendAlmanac (l : LaneSt) (pkg : List Byte) : LaneSt :=
  { l with
    net := { l.net with pendAlm := some (pkgBodyBytes pkg) }, sec := { l.sec with almIssue := pkgIssue pkg }
    mem := Memory.writeBytes l.mem l.net.almBase pkg }

/-- An Almanac becomes pending in every Active lane (R292). -/
def State.pendAlmanac (s : State) (pkg : List Byte) : State :=
  s.onLanes (fun _ l => if l.state = .active then l.pendAlmanac pkg else l)

/-- A complete Almanac package (R292, R434): checked in order, then pending in every Active lane. -/
def State.finishAlmanac (s : State) (n : Lane) (op : Word) (pkg : List Byte) : Answer :=
  let l := s.lane n
  let base := l.net.almBase
  match l.pkgOrders [3] pkg with
  | some (order, off) => s.reject n pkg order 0x15 (base + off)
  | none =>
    let b := pkgBodyBytes pkg
    match checkAlmanac b l.nodeIds l.tag (s.meridian n) with
    | some (st, off) =>
      let a := if st = 0x16 then op.toNat else base + 64 + off
      s.reject n pkg 7 st a
    | none => .ok (s.pendAlmanac pkg) (beBytes 4 (almId b).toNat ++ beBytes 8 (almTime b))

/-- SCHEDULE_LOAD at the Leader (R366): one segment; the completing one runs the checks. -/
def handleScheduleLoad : Handler := fun s n c =>
  let off := rd c.p 0 4
  let total := rd c.p 4 4
  let len := rd c.p 8 2
  if 8192 < total ∨ len < 1 ∨ 1024 < len then .err 0x12 c.opAddr
  else match segStep s.m.almX (some total) off ((c.p.drop 12).take len) with
    | .bad a => .err 0x12 a
    | .again => .ok s []
    | .go x =>
      if x.got.length < x.total then .ok (s.onM (fun m => { m with almX := some x })) []
      else (s.onM (fun m => { m with almX := none })).finishAlmanac n c.opAddr (x.got.take x.total)

/-- SCHEDULE_LOAD (R292). -/
def execScheduleLoad (r : Req) (s : State) : Host.Outcome State Fault Refusal :=
  done (s.fcp 0x0A02 r handleScheduleLoad noPart)

end Sys2Proof.Machine
end

