-- ==== Sys2Proof/Machine/Boot.lean ====
section
/-! DEFINITION. Release and Boot of a lane: the stored copies checked under R434, the firmware bank, the Almanac, the keys and the
parameter image in force (Reset, Clocks and the Gap Before Configuration R416, R422; Boot, Signed Images and Attestation R436 to R439). -/

namespace Sys2Proof.Machine

/-- The offset at which a bank fails R434 at Boot, orders 1 to 6, with the package as it reads; an empty bank fails at its magic
(R434, R439). -/
def LaneSt.bankFail (l : LaneSt) (b : BootChecks) (k : BitVec 2) : Option Nat :=
  match l.sec.bank k with
  | none => some 0
  | some _ => l.bootOrders 1 (if k = 1 then b.bankA else b.bankB)

/-- A bank passes step 5 (R439): not marked, and its checks pass. -/
def LaneSt.bankOk (l : LaneSt) (b : BootChecks) (k : BitVec 2) : Bool :=
  (l.bankFail b k).isNone && (if k = 1 then !l.mapBit 14 else !l.mapBit 15)

/-- The offset at which a stored Almanac copy fails orders 1 to 7 of R434 (R437). DEDUCED: order 9 of R292 is judged by the lane's own
Meridian, since a lane that boots has no Leader. -/
def State.almFail (s : State) (n : Lane) (b : List Byte) : Option Nat :=
  let l := s.lane n
  (l.bootOrders 3 b).or ((checkAlmanac (pkgBodyBytes b) l.nodeIds l.tag (s.meridian n)).map (fun e => 64 + e.2))

/-- The offset at which a stored copy of the key package fails orders 1 to 7 of R434 (R437, R450). -/
def LaneSt.keysFail (l : LaneSt) (b : List Byte) : Option Nat :=
  (l.bootOrders 4 b).or ((keyBodyBad (pkgBodyBytes b)).map (fun o => 64 + o))

/-- The journal that follows the package in a copy of the parameter image. -/
def journalOf (b : List Byte) : List (Half × Int) :=
  let j := b.drop (3437 + pkgBody b)
  (List.range (j.length / 10)).map (fun i => (BitVec.ofNat 16 (rd j (10 * i) 2), rdI j (10 * i + 2) 8))

/-- A value is out of its key's range, or its key is none (R358). -/
def codeBad (v : Half × Int) : Bool :=
  match paramRow v.1 with
  | some row => !row.valid v.2
  | none => true

/-- The offset at which a stored copy of the parameter image fails (R358, R361, R434, R437): orders 1 to 7 of the package, each entry of
the journal, the commit rules. DESIGN CHOICE: a code of the base image that is not valid, or a broken commit rule, is logged at the first
byte of the body or of the journal; the manual does not lay the image out. -/
def LaneSt.imageFail (l : LaneSt) (b : List Byte) : Option Nat :=
  let size := 3437 + pkgBody b
  let vals := (Config.imageOf (pkgBodyBytes b)).2
  let js := journalOf b
  let body := if (imageBad vals).isSome then some 64 else none
  let entry := ((List.range js.length).find? (fun i => (js[i]?).any codeBad)).map (fun i => size + 10 * i)
  let rule := if (brokenRule { baseVals := vals, committed := js, working := js }).isSome then some size else none
  (l.bootOrders 2 (b.take size)).or (body.or (entry.or rule))

/-- One bank of the order of R439: taken when nothing runs yet and it passes; a failing one is logged, and a trial bank that
fails ends the trial. -/
def State.tryBank (s : State) (n : Lane) (b : BootChecks) (k : BitVec 2) : State :=
  let l := s.lane n
  if l.sec.running ≠ 0 ∨ (if k = 1 then l.mapBit 14 else l.mapBit 15) = true then s
  else if l.bankOk b k then s.onSec n (fun x => { x with running := k })
  else
    let s := s.logStored n (bankBase k).toNat (l.bankFail b k)
    if l.sec.trial = some k then s.failTrial n else s

/-- Step 5 (R439): the trial bank, then the active one; without a trial the active one, then the other. -/
def State.bootBank (s : State) (n : Lane) (b : BootChecks) : State :=
  let x := (s.lane n).sec
  let other : BitVec 2 := if x.active = 1 then 2 else 1
  let order := match x.trial with
    | some k => [k, x.active]
    | none => [x.active, other]
  let s := s.onSec n (fun x => { x with running := 0 })
  let s := order.foldl (fun s k => s.tryBank n b k) s
  s.onLane n (fun l =>
    let o : BitVec 2 := if l.sec.running = 1 then 2 else 1
    { l with sec := { l.sec with otherOk := l.bankOk b o } })

/-- Base addresses of the active and of the pending Almanac copy (R25, R293). -/
def NetSt.almBases (x : NetSt) : Nat × Nat := if x.actSecond then (0x00750000, 0x00740000) else (0x00740000, 0x00750000)

/-- Step 6, Almanac (R294, R437): a stored copy that fails is logged; the active copy where it is accepted; else the other
once its time has passed; else the factory Almanac. -/
def State.bootAlmanac (s : State) (n : Lane) (b : BootChecks) : State :=
  let x := (s.lane n).net
  let act := s.almFail n b.almActive
  let pfail := s.almFail n b.almPending
  let pend := if pfail.isNone then x.pendAlm else none
  let s := if x.actAlm = [] then s else s.logStored n x.almBases.1 act
  let s := if x.pendAlm.isNone then s else s.logStored n x.almBases.2 pfail
  let s := s.onNet n (fun x => { x with pendAlm := pend })
  if x.actAlm ≠ [] ∧ act.isNone = true then s
  else
    match pend with
    | some p =>
      if (almTime p : Int) ≤ s.meridian n then
        s.onNet n (fun x => { x with actAlm := p, pendAlm := none, actSecond := !x.actSecond })
      else (s.onNet n (fun x => { x with actAlm := [] })).log n 0x0507 (laneAddr n)
    | none => (s.onNet n (fun x => { x with actAlm := [] })).log n 0x0507 (laneAddr n)

/-- Step 6, key store (R437): a failing copy of the key package is logged and rewritten from the other; with none left the
slots are empty until a peer's package comes in (KEY_ITEM). -/
def State.bootKeys (s : State) (n : Lane) (b : BootChecks) : State :=
  if (s.lane n).sec.slots = [] then s
  else
    let k1 := (s.lane n).keysFail b.keys1
    let k2 := (s.lane n).keysFail b.keys2
    let s := (s.logStored n 0x007A0000 k1).logStored n 0x007B0000 k2
    if k1.isSome && k2.isSome then s.onSec n (fun x => { x with slots := [] }) else s

/-- Step 6, parameters (R437): a failing copy of the stored image is logged and rewritten from the other; else a valid image of
another lane; else the defaults. -/
def State.bootParams (s : State) (n : Lane) (b : BootChecks) : State :=
  let p1 := (s.lane n).imageFail b.params1
  let p2 := (s.lane n).imageFail b.params2
  if (s.lane n).par.defaults = false ∧ (p1.isNone || p2.isNone) = true then
    ((s.logStored n 0x00700000 p1).logStored n 0x00720000 p2).onLane n (fun l => { l with par := l.par.atBoot })
  else
    let s := if (s.lane n).par.defaults then s
      else (s.logStored n 0x00700000 p1).logStored n 0x00720000 p2
    match allLanes.find? (fun m => m != n && !(s.lane m).par.defaults && (s.lane m).state != .off) with
    | some m => s.onLane n (fun l => { l with par := (s.lane m).par.atBoot })
    | none =>
      (s.onLane n (fun l => { l with par := { l.par with defaults := true, base := 0, vehicle := 0 }.atBoot })).log n 0x0A07
        (laneAddr n)

/-- Step 7 (R383, R385, R436): the failed blocks' bits are marked and logged with the test concerned. -/
def State.bootBist (s : State) (n : Lane) (b : BootChecks) : State :=
  let ks := (List.range 16).filter (fun k => b.bistBad.getLsbD k)
  (s.failBits n ks (fun k => BitVec.ofNat 64 (2 ^ mapTest k * 2 ^ 56))).onLane n LaneSt.obeyMap

/-- Release (R414, R416, R422): the lane runs; its channels listen, its sensor supply comes on, and the first Boot after a
reset logs its cause, the watchdog and the stored clock failures. -/
def State.release (s : State) (n : Lane) : State :=
  let now := s.now
  let r := (s.lane n).rst
  let s := s.onLane n (fun l => { l with
    state := .starting
    rst := { l.rst with inReset := false, bootStep := 3, bootFailed := none, wantsKeys := false, cause := 0, dogAt := 0, aon := [], appAt := now }
    ena := { pin := l.ena.pin }
    sup := { l.sup with svccOn := true, svcc := 5000 }
    quad := { l.quad with faultAt := now }
    sentA := { l.sentA with started := now }, sentB := { l.sentB with started := now }
    net := { l.net with x := { l.net.x with state := 1, away := now }, y := { l.net.y with state := 1, away := now } }
    time := { ({} : TimeSt) with since := now } })
  let s := s.log n 0x0B16 (BitVec.ofNat 32 r.cause)
  let s := if r.dogAt = 0 then s else s.log n 0x0807 (laneAddr n)
  let s := r.aon.foldl (fun s d => s.log n 0x0805 (BitVec.ofNat 32 d.val)) s
  if (s.lane n).sec.trial.isSome && r.cause != 8 then s.failTrial n else s

/-- One OTP word with inverted bits is read at Boot (R27, R28, R30): corrected and counted, not written back; or uncorrectable,
recorded, and in the identity word or an owner slot a failure of Boot (R438). The answer tells whether Boot goes on. -/
def State.otpWord (s : State) (n : Lane) (a : Nat) : State × Bool :=
  match ((s.lane n).held n a).decode (foldMemory a) with
  | some (_, false) => (s, true)
  | some (_, true) => (s.onCtr n (fun c => c.corrected 3), true)
  | none => if a < 0x30000048 then (s.log n 0x0802 (BitVec.ofNat 32 a), false) else (s.eccFault n a false, true)

/-- The OTP check of Boot: every word is read and checked, and the pin-state word copied (R30, R424). -/
def State.checkOtp (s : State) (n : Lane) (bits : List (BitVec 7 × Dword × Byte)) : State × Bool :=
  let s := bits.foldl (fun s e =>
    let a := 0x30000000 + 8 * e.1.toNat
    s.onLane n (fun l =>
      let w := l.held n a
      l.store n a { data := w.data ^^^ e.2.1, check := w.check ^^^ e.2.2 })) s
  let at_ := ((s.lane n).upsets.map (·.1)).filter (fun a => decide (0x30000000 ≤ a))
  let q := at_.foldl (fun q a =>
    let r := q.1.otpWord n a
    (r.1, q.2 && r.2)) (s, true)
  (q.1.onLane n LaneSt.copyPads, q.2)

/-- A copy of the owner root keys, Ed25519 then ML-DSA-65, matches the OTP hash of the slot in use (R429, R437, R451). -/
def SecSt.ownerOk (x : SecSt) (keys : List Byte) : Bool :=
  some (Config.hash keys) == (if x.owner1.isSome then x.owner1 else x.owner0)

/-- Steps 4 to 7 of R436 in a released lane. -/
def State.bootSteps (s : State) (n : Lane) (b : BootChecks) : State :=
  let q := s.checkOtp n b.otp
  let s := q.1
  if q.2 = false then s.failBoot n 4
  else
    let s := (s.onRst n (fun r => { r with bootStep := 4 })).onSec n (fun x => { x with idBad := !b.identityOk })
    if b.engineOk = false then (s.failBits n [13] (fun k => BitVec.ofNat 64 (2 ^ mapTest k * 2 ^ 56))).failBoot n 4
    else if (s.lane n).sec.owner0.isSome ∧ ((s.lane n).sec.ownerOk b.own1 || (s.lane n).sec.ownerOk b.own2) = false then
      (s.failBoot n 4).onRst n (fun r => { r with wantsKeys := true })
    else
      let s := s.bootBank n b
      if (s.lane n).sec.running = 0 then s.failBoot n 5
      else
        let s := (((s.bootAlmanac n b).bootKeys n b).bootParams n b).bootBist n b
        s.onLane n (fun l => { l with
          rst := { l.rst with bootStep := 7 }
          ctr := { l.ctr with tLo := none, tHi := none, tArmed := false } })

/-- RESET_RELEASE (R416, R422, R436, R269): 20 us after the last condition the lane is released and boots through step 7. A
lane whose Caldera is set is Quenched; outside module Boot the lane enters Rejoining. -/
def execResetRelease (t : Nat) (n : Lane) (b : BootChecks) (s : State) : Host.Outcome State Fault Refusal :=
  let s := s.at_ t
  let r := (s.lane n).rst
  if r.inReset && r.causes.isEmpty && r.rstHigh && r.coreReady && decide (r.clearAt + us 20 ≤ t) then
    let s := (s.release n).bootSteps n b
    if (s.lane n).rst.bootFailed.isSome then done s.tryReady
    else if (s.lane n).vote.caldera then done ((s.endBoot n b.ena).onLane n (fun l => { l with state := .quenched })).tryReady
    else if s.m.mode = .boot then done s
    else if (s.lane n).vote.stay then done ((s.endBoot n b.ena).onLane n (fun l => { l with state := .isolated }))
    else done ((s.endBoot n b.ena).enterRejoin n)
  else done s

end Sys2Proof.Machine
end

