-- ==== Sys2Proof/Machine/Votes.lean ====
section
/-! DEFINITION. Votes, disputes and the Caldera (Lanes, Votes and Leadership R44 to R58, R496; Command Reference R369). -/

namespace Sys2Proof.Machine

/-! ### Votes that count (R47, R48) -/

/-- CALDERA_SET (R47, R49, R53): two counting votes, or a standing quench request with fewer than two Active peers; a rejoin in
progress ends as a failure. -/
def execCalderaSet (t : Nat) (n : Lane) (s : State) : Host.Outcome State Fault Refusal :=
  let s := s.at_ t
  let l := s.lane n
  let two := decide (2 ≤ (s.counting n).length)
  let self := (l.vote.request || l.rst.dogForced) && decide (s.activePeers n < 2)
  if l.vote.caldera || l.rst.inReset || l.state == .off || !(two || self) then done s
  else
    let s := if l.state = .rejoining then s.endAttempt n false else s
    done ((s.setCaldera n (if two then 1 else 2)).checkLimp)

/-- VOTED_ISOLATED (R48, R72): exactly one counting vote takes the legs high-impedance and the lane to Isolated. -/
def execVotedIsolated (t : Nat) (n : Lane) (s : State) : Host.Outcome State Fault Refusal :=
  let s := s.at_ t
  let l := s.lane n
  let mark := fun (s : State) => s.onVote n (fun v => { v with byVote := true })
  if (s.counting n).length ≠ 1 ∨ l.vote.caldera = true then done s
  else if l.state = .active then done ((mark (s.isolate n 0x0701)).checkLimp)
  else if l.state = .rejoining then done ((mark ((s.log n 0x0701 (laneAddr n)).endAttempt n false)).checkLimp)
  else done s

/-- An Isolated lane whose last vote is gone may rejoin: released by a verdict, or no dispute over it open (R55, R72, R496). -/
def State.tryRelease (s : State) (n : Lane) : State :=
  let v := (s.lane n).vote
  let disputed := allLanes.any (fun m => (s.lane m).vote.disputes n)
  if (s.lane n).state = .isolated ∧ (s.voters n).isEmpty = true ∧ (v.released || (v.byVote && !disputed)) = true ∧ v.stay = false then
    s.enterRejoin n
  else s

/-- VOTE_WITHDRAWN (R48, R72, R496): the legs stay high-impedance, and the target may rejoin. -/
def execVoteWithdrawn (t : Nat) (n : Lane) (s : State) : Host.Outcome State Fault Refusal := done ((s.at_ t).tryRelease n)

/-! ### Votes on a condition (R44 to R46, R66) -/

/-- TORQUE_SHADOW (R44): SHADOW.STEPS consecutive mismatches of the torque reference. -/
def execTorqueShadow (t : Nat) (n : Lane) (s : State) : Host.Outcome State Fault Refusal :=
  let s := s.at_ t
  let l := s.lane n
  match l.leader with
  | none => done s
  | some k =>
    if (l.role = .deputy ∨ l.role = .member) ∧ l.codeN Key.shadowSteps ≤ l.prof.torqueRun then
      done ((s.cast n k 1).reform n)
    else done s

/-- The Deputy's profile mismatches have reached SHADOW.STEPS (R45). -/
def LaneSt.profileDue (l : LaneSt) : Bool :=
  l.role == .deputy && l.state == .active && decide (l.codeN Key.shadowSteps ≤ l.prof.profRun)

/-- The lane that gave up the Deputy role less than 1 s ago, for another lane that is now Deputy (R45 step 3). -/
def State.formerDeputy (s : State) (n : Lane) : Option Lane :=
  match s.m.exDep with
  | some (m, a) => if m ≠ n ∧ s.now ≤ a + 1000000000 then some m else none
  | none => none

/-- The profile state of another lane's engine, as a snapshot or a re-seed copies it (R45, R62, R69). -/
def ProfSt.seedFrom (p q : ProfSt) : ProfSt :=
  { p with steer := q.steer, brake := q.brake, bMode := q.bMode, lastSeq := q.lastSeq, held := [], intS := q.intS,
           intB := q.intB, profRun := 0 }

/-- PROFILE_RESEED (R45 step 1): the Deputy re-seeds its shadow profile from the Leader's state as the relay stream has brought it; no
vote. -/
def execProfileReseed (t : Nat) (n : Lane) (s : State) : Host.Outcome State Fault Refusal :=
  let s := s.at_ t
  let l := s.lane n
  let recent := match l.prof.reseedAt with | some a => decide (t ≤ a + 1000000000) | none => false
  match l.leader, l.leader.bind (fun k => s.snapshotFrom k n) with
  | some k, some q =>
    if l.profileDue && !recent && (s.formerDeputy n).isNone then
      let s := (s.dropItem k n 0x60).onLane n (fun l => { l with
        prof := { (l.prof.seedFrom q.prof) with reseedAt := some t }, ctr := { l.ctr with reseeds := satInc l.ctr.reseeds } })
      done (s.log n 0x0B02 (laneAddr n))
    else done s
  | _, _ => done s

/-- DEPUTY_SELFTEST_FAIL (R45 step 2): a second mismatch within 1 s marks the profile engine unusable, and the lane gives up
the Deputy role. -/
def execDeputySelftestFail (t : Nat) (n : Lane) (s : State) : Host.Outcome State Fault Refusal :=
  let s := s.at_ t
  let l := s.lane n
  let recent := match l.prof.reseedAt with | some a => decide (t ≤ a + 1000000000) | none => false
  if l.profileDue && recent && (s.formerDeputy n).isNone then
    let s := ((s.markBit n 3).log n 0x0B03 (laneAddr n)).setRole n .member l.leader
    let s := s.onProf n (fun p => { p with profRun := 0, snapshot := false })
    done (s.onM (fun m => { m with exDep := some (n, t) }))
  else done s

/-- PROFILE_SHADOW (R45 step 3, R62): the new Deputy mismatches as well; both lanes vote against the Leader. -/
def execProfileShadow (t : Nat) (n : Lane) (s : State) : Host.Outcome State Fault Refusal :=
  let s := s.at_ t
  let l := s.lane n
  match l.leader, s.formerDeputy n with
  | some k, some m => if l.profileDue && l.prof.snapshot then done ((s.cast n k 2).cast m k 2) else done s
  | _, _ => done s

/-- LINK_SILENCE (R46): the link from a present target has been down for LINK.SILENCE_VOTE periods with signal present, and the
present third lane's newest frame does not show it hearing the target. -/
def execLinkSilence (t : Nat) (n : Lane) (target : Lane) (s : State) : Host.Outcome State Fault Refusal :=
  let s := s.at_ t
  let l := s.lane n
  let third := n.third target
  let k := s.link target n
  let f := s.link third n
  let wait := ((l.codeN Key.linkSilenceVote : Rat) * l.periodNs).floor.toNat
  if n ≠ target ∧ k.down = true ∧ k.signal = true ∧ k.downSince + wait ≤ t ∧ s.absentFor n target = false ∧
      s.absentFor n third = false ∧ f.heard = true ∧ f.hearsThird = false then
    done (s.cast n target 4)
  else done s

/-- EPOCH_CLAIM (R66): a newer epoch claimed by a lane in the Leader role; adopted when the loss of the Leader was observed
within 2 steps, and otherwise voted against. -/
def execEpochClaim (t : Nat) (n : Lane) (target : Lane) (s : State) : Host.Outcome State Fault Refusal :=
  let s := s.at_ t
  let k := s.link target n
  if n ≠ target ∧ (s.lane n).state = .active ∧ k.speaks = true ∧ k.role = .leader ∧ newer k.epoch (s.lane n).epoch = true then
    done (if s.sawLoss n then s.follow target n else s.cast n target 6)
  else done s

/-! ### Disputes (R54, R57) -/

/-- The next dispute identifier of an accuser (R54): its counter runs from 1 to 15. -/
def disputeId (n target : Lane) (c : BitVec 4) : Byte := BitVec.ofNat 8 (n.num * 64 + target.num * 16 + c.toNat)

/-- DISPUTE (R54): a single vote still counts VOTE.CONFIRM steps after it was cast. -/
def execDispute (t : Nat) (n : Lane) (target : Lane) (s : State) : Host.Outcome State Fault Refusal :=
  let s := s.at_ t
  let v := (s.lane n).vote
  if n ≠ target ∧ s.counting target = [n] ∧ (v.on target).at_ + 125000 * (s.lane n).codeN Key.voteConfirm ≤ t ∧
      v.disputes target = false then
    let c : BitVec 4 := if v.dispCtr = 15 then 1 else v.dispCtr + 1
    let id := disputeId n target c
    let s := (s.takeEffectIn n .dispute).onVote n (fun v => { v with
      dispCtr := c, disps := { id := id, at_ := t } :: v.disps })
    done (s.log n 0x0B04 (id.setWidth 32))
  else done s

/-- DISPUTE_TIMEOUT (R57): no valid ARBITRATE within ARB.TIMEOUT; logged, and the dispute stays open. -/
def execDisputeTimeout (t : Nat) (n : Lane) (target : Lane) (s : State) : Host.Outcome State Fault Refusal :=
  let s := s.at_ t
  let l := s.lane n
  match l.vote.disps.find? (fun d => (d.id.toNat / 16) % 4 == target.num) with
  | some d =>
    if d.timedOut = false ∧ d.at_ + ms (l.codeN Key.arbTimeout) ≤ t then
      let s := s.onVote n (fun v => { v with disps := v.disps.map (fun e => if e.id = d.id then { e with timedOut := true } else e) })
      done (s.log n 0x0B05 (d.id.setWidth 32))
    else done s
  | none => done s

/-! ### ARBITRATE (R55, R56, R58) -/

/-- The dispute of an identifier, while lane n has not yet carried out a verdict on it. -/
def State.openFor (s : State) (n : Lane) (id : Byte) : Option DispSt :=
  ((allLanes.map (fun m => (s.lane m).vote.disps)).flatten.find? (fun d => d.id == id)).filter (fun d => !d.seen.contains n)

/-- Lane n has read the verdict on a dispute; the dispute closes once every lane that runs has. -/
def State.markRead (s : State) (n : Lane) (id verdict : Byte) : State :=
  let runs := allLanes.filter (fun m => (s.lane m).state != .off && !(s.lane m).rst.inReset)
  s.onLanes (fun _ l => { l with vote := { l.vote with
    disps := (l.vote.disps.map (fun d => if d.id = id then { d with verdict := verdict, seen := n :: d.seen } else d)).filter
      (fun d => d.id != id || !runs.all (fun m => d.seen.contains m)) } })

/-- Lane n carries out its own part of a verdict (R55, R58). -/
def State.rulePart (s : State) (n : Lane) (id verdict : Byte) : State :=
  match s.openFor n id, Lane.ofNat? (id.toNat / 64), disputeTarget id with
  | some _, some acc, some tgt =>
    let third := acc.third tgt
    let duel := (s.lane third).state == .active
    let s := s.markRead n id verdict
    if verdict = 1 then
      if n = third then s.cast third tgt 7
      else if n = tgt ∧ duel = false then s.setCaldera tgt 2
      else s
    else
      let s := if n = tgt then s.onVote n (fun v => { v with released := true }) else s
      let s :=
        if verdict = 2 then
          if duel then (if n = tgt then s.castIsolated tgt acc else if n = third then s.cast third acc 7 else s)
          else if n = acc ∧ (s.lane acc).state = .active then
            (s.leaveActive acc .isolated).onVote acc (fun v => { v with stay := true })
          else s
        else if n = acc then (s.withdraw acc tgt).onVote acc (fun v => { v with falseVotes := satInc v.falseVotes })
        else s
      (s.tryRelease tgt).checkLimp
  | _, _, _ => s

/-- ARBITRATE at the lane that answers (R56, R369): the identifier first, then the verdict; the Leader logs it. -/
def handleArbitrate : Handler := fun s n c =>
  let id : Byte := BitVec.ofNat 8 (rd c.p 0 1)
  let v : Byte := BitVec.ofNat 8 (rd c.p 1 1)
  if (s.openFor n id).isNone then .err 0x12 (id.setWidth 32)
  else if v = 0 ∨ 3 < v.toNat then .err 0x12 (v.setWidth 32)
  else .ok ((s.log n 0x0B06 (id.setWidth 32)).rulePart n id v) []

/-- ARBITRATE at every other lane. -/
def peerArbitrate : PeerPart := fun s n c =>
  let v : Byte := BitVec.ofNat 8 (rd c.p 1 1)
  if v = 0 ∨ 3 < v.toNat then s else s.rulePart n (BitVec.ofNat 8 (rd c.p 0 1)) v

/-- ARBITRATE (R55). -/
def execArbitrate (r : Req) (s : State) : Host.Outcome State Fault Refusal := done (s.fcp 0x0D01 r handleArbitrate peerArbitrate)

/-! ### QUENCH (R58, R369) -/

/-- Lane n does its part: an Active peer votes with reason 7; the named lane with fewer than two Active peers sets its own
Caldera. -/
def State.quenchPart (s : State) (n target : Lane) : State :=
  let l := s.lane target
  if l.vote.caldera ∨ l.rst.inReset = true ∨ l.state = .off then s
  else if n ≠ target then s.cast n target 7
  else if s.activePeers target < 2 then (s.setCaldera target 2).checkLimp
  else s

/-- QUENCH at the lane that answers; the reply follows the target's own report. -/
def handleQuench : Handler := fun s n c =>
  let code : Byte := BitVec.ofNat 8 (rd c.p 0 1)
  match Lane.ofCode? code with
  | none => .err 0x12 (code.setWidth 32)
  | some k =>
    if s.sees n k == .quenched then .ok s []
    else .later ((s.quenchPart n k).onM (fun m => { m with quenchOf := m.quenchOf ++ [(k, s.now, c.r)] }))

/-- QUENCH at every other lane. -/
def peerQuench : PeerPart := fun s n c =>
  match Lane.ofCode? (BitVec.ofNat 8 (rd c.p 0 1)) with
  | some k => s.quenchPart n k
  | none => s

/-- QUENCH (R58). -/
def execQuench (r : Req) (s : State) : Host.Outcome State Fault Refusal := done (s.fcp 0x0D02 r handleQuench peerQuench)

/-- The Leader answers every QUENCH whose target has reported Quenched, in its application cycle (R58). -/
def State.answerQuench (s : State) (n : Lane) : State :=
  let met := s.m.quenchOf.filter (fun q => s.sees n q.1 == .quenched)
  let s := s.onM (fun m => { m with quenchOf := m.quenchOf.filter (fun q => s.sees n q.1 != .quenched) })
  met.foldl (fun s q => s.reply n 0x0D02 q.2.2 (.ok s [])) s

/-- QUENCH_TIMEOUT (R58): 5 ms after the oldest open request without its target's report the Leader answers FAULT_LANE. -/
def execQuenchTimeout (t : Nat) (s : State) : Host.Outcome State Fault Refusal :=
  let s := s.at_ t
  match s.m.quenchOf with
  | (k, a, r) :: rest =>
    if a + ms 5 ≤ t ∧ s.leader.isSome = true ∧ (s.sees s.scribe k != .quenched) = true then
      done ((s.onM (fun m => { m with quenchOf := rest })).replyError s.scribe 0x0D02 r 0x30 (laneAddr k))
    else done s
  | [] => done s

/-! ### CALDERA_CLEAR (R50, R51, R369) -/

/-- CALDERA_CLEAR at the lane that answers: the peers withdraw their votes, the target's Caldera clears and it restarts with
cause 8. -/
def handleCalderaClear : Handler := fun s n c =>
  let code : Byte := BitVec.ofNat 8 (rd c.p 0 1)
  match Lane.ofCode? code with
  | none => .err 0x12 (code.setWidth 32)
  | some k =>
    if (s.sees n k != .quenched) = true then .err 0x12 (code.setWidth 32)
    else .pending (((allLanes.foldl (fun s v => s.withdraw v k) s).clearCaldera k).restart k 8) []

/-- CALDERA_CLEAR (R50). -/
def execCalderaClear (r : Req) (s : State) : Host.Outcome State Fault Refusal :=
  done (s.fcp 0x0D03 r handleCalderaClear noPart)

end Sys2Proof.Machine
end

