-- ==== Sys2Proof/Machine/Leadership.lean ====
section
/-! DEFINITION. Roles, handover and rejoining (Lanes, Votes and Leadership R41, R42, R59 to R63, R69 to R72, R497). -/

namespace Sys2Proof.Machine

/-! ### Handover (R59 to R61, R497) -/

/-- The lanes in preference order that lane n sees Active, without the lost Leader. -/
def State.heirs (s : State) (n : Lane) (old : Option Lane) : List Lane :=
  (s.order n).filter (fun m => some m != old && s.sees n m == .active && (s.lane m).state == .active)

/-- The lane that assumes the role after the loss of `old` (R59, R497): the Active Deputy, the next eligible Active lane, or
the Active lane earliest in LEAD.PREFERENCE. -/
def State.successor (s : State) (n : Lane) (old : Option Lane) : Option Lane :=
  let hs := s.heirs n old
  ((hs.find? (fun m => (s.lane m).role == .deputy)).or (hs.find? (fun m => s.eligible m))).or hs.head?

/-- The profile a Member starts as Leader (R61): the last S1 and S2 of the old Leader with the rate they report, from which the steer
setpoint comes to rest under the limits of a stop (R249); the words report no target, no acceleration and no brake rate. -/
def LaneSt.seedFromWords (l : LaneSt) (v : XView) (now : Nat) : ProfSt :=
  let p := l.prof
  let a := { p.steer with pos := (hi32 v.s1 : Rat), rate := (((v.s1.extractLsb' 16 16).toInt * 256 * 8000 : Int) : Rat), accel := 0 }
  { p with
    steer := a.stop (pctUnits (l.val Key.profSStopAmax)) (pctUnits (l.val Key.profSJmax)) now
    brake := { p.brake with pos := (hi32 v.s2 : Rat), rate := 0, accel := 0, segs := [], arrive := none, kind := 3 }
    bMode := v.s2.extractLsb' 30 2, lastSeq := v.s2.extractLsb' 0 16, held := [] }

/-- Lane n becomes Leader (R59 to R61, R64, R72, R76, R256, R379, R498): its epoch rises, it continues from its shadow, runs that
are not shadowed end, rejoining lanes restart, and it takes the decisions of the interval. -/
def State.takeLead (s : State) (n : Lane) (old : Option Lane) : State :=
  let l := s.lane n
  let words := (old.map (fun k => if (s.link k n).heard then (s.link k n).view else (s.link (k.third n) n).view)).getD {}
  let e := nextEpoch l.epoch
  let was := l.role
  let s := (s.abortHoming 7).endLoad
  let s := s.setRole n .leader (some n)
  let s := s.onLane n (fun l => { l with
    rejoin := { l.rejoin with lossSeen := none }
    prof := if was = .deputy ∧ l.prof.snapshot = true then { l.prof with held := [], useS := l.prof.okS, useB := l.prof.okB }
            else { (l.seedFromWords words (s.stepStart n)) with useS := l.prof.okS, useB := l.prof.okB } })
  let s := s.adopt n e
  let s := s.onM (fun m => { m with exDep := none, lossAt := 0 })
  let s := allLanes.foldl (fun s m =>
    if (s.lane m).state = .rejoining then
      s.onLane m (fun l => { l.floatLegs with
        rejoin := { l.rejoin with step := 1, at_ := s.now, copy := false, due := false } })
    else s) s
  if s.twin.formed then { s with twin := { s.twin with epoch := nextEpoch s.twin.epoch } } else s

/-- What the new Leader decides at its first step boundary if the condition holds then (R498). -/
def State.decideNow (s : State) : State := s.reviewStop.reviewHoldOnly.checkLimp

/-- The lane that fills a vacant Deputy role beside a Leader (R42): the next eligible Active lane. -/
def State.nextDeputy (s : State) (lead : Lane) : Option Lane :=
  if s.actives.any (fun m => (s.lane m).role == .deputy) then none
  else (s.order lead).find? (fun m => m != lead && s.eligible m)

/-- A lane becomes Deputy (R42, R62): its shadow waits for a new snapshot. -/
def State.makeDeputy (s : State) (n lead : Lane) : State :=
  ((s.dropItem lead n 0x60).setRole n .deputy (some lead)).onProf n (fun p => { p with snapshot := false, profRun := 0, held := [] })

/-- LEADER_HANDOVER (R59, R63, R495, R497): at the step boundary strictly later than the observation the successor assumes the role;
a Member that has observed the loss as well becomes Deputy at the same boundary. An observation first made here counts for a later
boundary. -/
def execLeaderHandover (t : Nat) (n : Lane) (s : State) : Host.Outcome State Fault Refusal :=
  let s := s.at_ t
  let l := s.lane n
  let old := l.leader
  let due := match l.rejoin.lossSeen with | some a => decide (a < t) | none => false
  if s.m.mode.votes = false ∨ l.state ≠ .active ∨ l.role = .leader ∨ due = false ∨ s.successor n old ≠ some n then
    done (s.observeLoss n)
  else
    let s := s.takeLead n old
    let s := match s.nextDeputy n with
      | some m => if (s.lane m).rejoin.lossSeen.isSome then s.makeDeputy m n else s
      | none => s
    done s.decideNow

/-- LEADER_RETURN (R495, R497): at the step boundary after it became Active an eligible lane takes the role from a Leader that is not
eligible. -/
def execLeaderReturn (t : Nat) (n : Lane) (s : State) : Host.Outcome State Fault Refusal :=
  let s := s.at_ t
  match s.leader with
  | some k =>
    if s.m.mode.votes = true ∧ k ≠ n ∧ s.eligible n = true ∧ s.eligible k = false ∧ (s.lane n).activeAt < t then
      let s := (s.setRole k .member (some n)).takeLead n (some k)
      done (s.adopt k (s.lane n).epoch).decideNow
    else done s
  | none => done s

/-- DEPUTY_ASSIGN (R42): a vacant Deputy role beside an Active Leader is filled at the next step; the epoch stays. -/
def execDeputyAssign (t : Nat) (n : Lane) (s : State) : Host.Outcome State Fault Refusal :=
  let s := s.at_ t
  match s.leader with
  | some k =>
    if s.m.mode.votes = true ∧ (s.lane k).state = .active ∧ s.nextDeputy k = some n then done (s.makeDeputy n k) else done s
  | none => done s

/-- SHADOW_SNAPSHOT_DONE (R62): the Deputy's shadow profile starts from the Leader's profile state as the relay stream has brought it. -/
def execShadowSnapshotDone (t : Nat) (n : Lane) (s : State) : Host.Outcome State Fault Refusal :=
  let s := s.at_ t
  let l := s.lane n
  match l.leader, l.leader.bind (fun k => s.snapshotFrom k n) with
  | some k, some q =>
    if l.role = .deputy ∧ l.prof.snapshot = false then
      done ((s.dropItem k n 0x60).onProf n (fun p => { (p.seedFrom q.prof) with snapshot := true }))
    else done s
  | _, _ => done s

/-! ### Rejoining (R69 to R72) -/

/-- A step of a rejoin fails (R69, R72): logged, and the lane stands Isolated. -/
def State.failRejoin (s : State) (n : Lane) (code : Half) (addr : Word) : State :=
  (s.log n code addr).endAttempt n true

/-- The limit of the present step (R69). -/
def LaneSt.rejoinLimit (l : LaneSt) : Option Nat :=
  match l.rejoin.step with
  | 1 => some (ms 20)
  | 2 => some (ms 5)
  | 4 => some (ms (l.codeN Key.rejoinConvergeTimeout))
  | _ => none

/-- The present step has run past its limit. -/
def State.rejoinLate (s : State) (n : Lane) : Bool :=
  match (s.lane n).rejoinLimit with
  | some d => decide ((s.lane n).rejoin.at_ + d < s.now)
  | none => false

/-- REJOIN_RECORDS_COPIED (R69 step 1): an own epoch that is older is replaced; a differing stamp makes the lane copy the Leader's
calibration and homing records and recompute it from its own vehicle identity; one that still differs fails. -/
def execRejoinRecordsCopied (t : Nat) (n : Lane) (s : State) : Host.Outcome State Fault Refusal :=
  let s := s.at_ t
  let l := s.lane n
  match s.leader with
  | some k =>
    if l.state ≠ .rejoining ∨ l.rejoin.step ≠ 1 ∨ s.rejoinLate n = true then done s
    else
      let d := s.lane k
      let s := if newer d.epoch l.epoch then s.adopt n d.epoch else s
      let s := s.onLane n (fun l => { l with leader := some k })
      let s := if l.stamp = d.stamp then s
        else s.onLane n (fun l => { l with cal := d.cal, stamp := some (l.par.vehicle, Config.hash d.cal.bytes) })
      if (s.lane n).stamp = d.stamp then
        done ((s.dropItem k n 0x60).onLane n (fun l => { l with rejoin := { l.rejoin with step := 2, at_ := t, copy := false } }))
      else done (s.failRejoin n 0x0703 (laneAddr n))
  | none => done s

/-- What a Rejoining lane takes from the Leader's snapshot (R69 step 2): setpoints, profile and outer-loop states, share weights, homing
offsets and position counts. -/
def LaneSt.takeSnapshot (l : LaneSt) (q : Snapshot) : LaneSt :=
  let d := q.prof
  let w := [(Key.shareWeight1, q.weights.1), (Key.shareWeight2, q.weights.2.1), (Key.shareWeight3, q.weights.2.2)]
  { l with
    prof := { (l.prof.seedFrom d) with
      step := d.step, tS := d.tS, tB := d.tB, useS := d.useS, useB := d.useB, okS := d.okS
      okB := d.okB, torqueRun := 0, snapshot := true }
    par := { l.par with force := w.foldl (fun f e => putWrite f e.1 e.2) l.par.force }
    cal := { l.cal with offs := q.offs }
    quad := match q.p with | some p => { l.quad with offset := l.quad.ext - p } | none => l.quad
    obsAngle := q.angle }

/-- A set before the catch-spin of a rejoin: its observer starts afresh, and a fault of its injection response no longer counts
(R69 step 3, R208). -/
def SetSt.beforeCatch (c : SetSt) : SetSt :=
  { c with obs := { c.obs with caught := false, sweepFrom := none, injFault := false, region := 3, valid := false } }

/-- REJOIN_SNAPSHOT_RECEIVED (R69 step 2, R71, R51): the Leader's snapshot as the relay stream has brought it; in Ready and Service
the lane then becomes Active. -/
def execRejoinSnapshotReceived (t : Nat) (n : Lane) (s : State) : Host.Outcome State Fault Refusal :=
  let s := s.at_ t
  let l := s.lane n
  match l.leader, l.leader.bind (fun k => s.snapshotFrom k n) with
  | some k, some q =>
    if l.state ≠ .rejoining ∨ l.rejoin.step ≠ 2 ∨ s.rejoinLate n = true then done s
    else
      let s := (s.dropItem k n 0x60).onLane n (·.takeSnapshot q)
      if s.m.mode = .run ∨ s.m.mode = .limp then
        done (s.onLane n (fun l => { l with
          rejoin := { l.rejoin with step := 3, at_ := t }, s := l.s.beforeCatch, b := l.b.beforeCatch }))
      else done ((s.becomeActive n).checkLimp)
  | _, _ => done s

/-- A set whose convergence counts: one that may carry torque afterwards. -/
def LaneSt.wanted (l : LaneSt) : List Axis := [Axis.s, .b].filter (fun x => !l.setBad x)

/-- REJOIN_CONVERGED (R69 step 4, R179, R195, R202): 16 consecutive periods within 4 degrees of the median; the estimates count as
converged, the ramp begins, and the sets start switching at the next PWM peak. -/
def execRejoinConverged (t : Nat) (n : Lane) (s : State) : Host.Outcome State Fault Refusal :=
  let s := s.at_ t
  let l := s.lane n
  if l.state ≠ .rejoining ∨ l.rejoin.step ≠ 4 ∨ s.rejoinLate n = true ∨
      l.wanted.all (fun x => decide (16 ≤ (l.set x).obs.near)) = false then done s
  else
    let start := fun (x : Axis) (c : SetSt) =>
      if l.setBad x then c else { c with ramp := 0, share := 0, obs := { c.obs with valid := true } }
    done (s.onLane n (fun l => { l with
      rejoin := { l.rejoin with step := 5, at_ := t, due := true }, s := start .s l.s, b := start .b l.b }))

/-- At the first PWM peak strictly later than the end of step 4 the usable sets of a Rejoining lane start switching, their shares at the
foot of the ramp (R69, R179, R202, R495). -/
def State.startRejoined (s : State) (n : Lane) : State :=
  let l := s.lane n
  if l.rejoin.due = true ∧ l.rejoin.step = 5 ∧ l.rejoin.at_ < s.now then
    let start := fun (x : Axis) (c : SetSt) => if l.setBad x then c else l.startSet x c
    s.onLane n (fun l => { l with rejoin := { l.rejoin with due := false }, s := start .s l.s, b := start .b l.b })
  else s

/-- REJOIN_RAMP_END (R69 step 5): the lane becomes Active with its configured share. -/
def execRejoinRampEnd (t : Nat) (n : Lane) (s : State) : Host.Outcome State Fault Refusal :=
  let s := s.at_ t
  let l := s.lane n
  if l.state = .rejoining ∧ l.rejoin.step = 5 ∧ l.rejoin.at_ + ms (l.codeN Key.rejoinRamp) ≤ t then
    done (((s.becomeActive n).reform n).checkLimp)
  else done s

/-- REJOIN_FAIL (R69, R72): a step of 1, 2 or 4 has run past its limit. -/
def execRejoinFail (t : Nat) (n : Lane) (s : State) : Host.Outcome State Fault Refusal :=
  let s := s.at_ t
  let l := s.lane n
  if l.state = .rejoining ∧ s.rejoinLate n = true then
    done (s.failRejoin n 0x0704 (BitVec.ofNat 32 l.rejoin.step))
  else done s

/-- REJOIN_RETRY (R72): 1 s after a failure at steps 1 to 4, with no counting vote against the lane. -/
def execRejoinRetry (t : Nat) (n : Lane) (s : State) : Host.Outcome State Fault Refusal :=
  let s := s.at_ t
  let l := s.lane n
  match l.rejoin.retry with
  | some a =>
    if l.state = .isolated ∧ l.vote.stay = false ∧ a + 1000000000 ≤ t ∧ (s.counting n).isEmpty = true then done (s.enterRejoin n)
    else done s
  | none => done s

end Sys2Proof.Machine
end

