-- ==== Sys2Proof/Machine/Observer.lean ====
section
/-! DEFINITION. The rotor-angle observers and the consensus (Astrolabe: Rotor Angle Without a Sensor). -/

namespace Sys2Proof.Machine

/-! ### Regions and references (R189, R191) -/

/-- The weight w of the back-EMF method on an axis, from the consensus speed of lane n (R191). -/
def State.emfWeight (s : State) (n : Lane) (x : Axis) : Rat :=
  let l := s.lane n
  let e := l.val Key.obsEmfSpeed
  let w := l.val Key.obsBlendWidth
  let v := 100 * absQ (s.omega n x : Rat) / l.rated x
  clampQ 0 1 ((v - (e - w)) / w)

/-- The region code of a set that is not floating (R191). -/
def regionOf (w : Rat) : BitVec 2 := if w = 0 then 0 else if w < 1 then 1 else 2

/-- The shares of the other sets of an axis that carry one, as they are in force in lane n's computation (R162, R169). -/
def State.peerShares (s : State) (n : Lane) (x : Axis) : List Rat :=
  ([n.lower, n.upper].map (fun m => ((s.lane n).term m x).share)).filter (· != 0)

/-- The shares of the other sets of an axis as their lanes publish them in S5, 0xFFFF for 1.0 (R169, R189). -/
def State.pubShares (s : State) (n : Lane) (x : Axis) : List Rat :=
  (([n.lower, n.upper].filter (fun m => (s.link m n).speaks)).map (fun m =>
    let c := fld (s.link m n).view.s5 (match x with | .s => 48 | .b => 32) 16
    if c = 0xFFFF then 1 else (c : Rat) / 65536)).filter (· != 0)

/-- The torque reference in A that the field engines of lane n use on an axis: zero after the consensus is lost (R204). -/
def State.refAmps (s : State) (n : Lane) (x : Axis) : Rat := if s.m.noCon x then 0 else (s.refOf n x : Rat) / 1000

/-- The d reference in A of a set: zero after the consensus is lost (R178, R204). -/
def State.dRef (s : State) (n : Lane) (x : Axis) : Rat := if s.m.noCon x then 0 else ((s.lane n).set x).idRef

/-- The sums of d and q references of peers with some shares (R162, R192): the own d reference for each of them, and each share of T. -/
def State.peerSum (s : State) (n : Lane) (x : Axis) (ps : List Rat) : Rat × Rat :=
  (s.dRef n x * (ps.length : Rat), (ps.map (fun q => q * s.refAmps n x)).sum)

/-- The published angle of lane m on an axis in its newest frame to lane n (R37 S3). -/
def State.seesAngle (s : State) (n m : Lane) (x : Axis) : Half :=
  BitVec.ofNat 16 (fld (s.link m n).view.s3 (match x with | .s => 48 | .b => 32) 16)

/-- The published speed of lane m on an axis. -/
def State.seesSpeed (s : State) (n m : Lane) (x : Axis) : Int :=
  (BitVec.ofNat 16 (fld (s.link m n).view.s3 (match x with | .s => 16 | .b => 0) 16)).toInt

/-- Angle valid of lane m on an axis in its newest frame to lane n (R37 S4). -/
def State.seesAngleOk (s : State) (n m : Lane) (x : Axis) : Bool :=
  fld (s.link m n).view.s4 (match x with | .s => 63 | .b => 62) 1 == 1

/-- The region code of lane m on an axis as lane n sees it (R37 S4). -/
def State.seesRegion (s : State) (n m : Lane) (x : Axis) : Nat :=
  fld (s.link m n).view.s4 (match x with | .s => 60 | .b => 58) 2

/-! ### The observer of one set (R189 to R195) -/

/-- The terminal averages of a set as a stationary vector in V (R152, R192). -/
def SetSt.termVec (c : SetSt) : Rat × Rat :=
  clarke ((c.u.term.toNat : Rat) / 50) ((c.v.term.toNat : Rat) / 50) ((c.w.term.toNat : Rat) / 50)

/-- The flux after one interval: v - R i integrated with a 1 Hz drift high-pass (R192 step 1; its first order is DEDUCED). -/
def fluxStep (f v i : Rat × Rat) (r dt : Rat) : Rat × Rat :=
  let k := 2 * Config.pi * dt
  (f.1 - k * f.1 + (v.1 - r * i.1) * dt, f.2 - k * f.2 + (v.2 - r * i.2) * dt)

/-- The magnet flux in the observer's own frame (R192 steps 2 and 3): own and mutual flux subtracted. -/
def magnetFlux (p : Motor) (own : Half) (f i : Rat × Rat) (peers : Rat × Rat) : Rat × Rat :=
  let d := park own f
  let j := park own i
  (d.1 - p.ld * j.1 - p.km * p.ld * peers.1, d.2 - p.lq * j.2 - p.km * p.lq * peers.2)

/-- The injection phase angle of an index (R194). -/
def injPhase (j m : Nat) : Half := if m = 0 then 0 else BitVec.ofNat 16 (65536 * j / m)

/-- The q response of a set to its peers' injection (R194): of each peer whose published region injects, along its published angle. -/
def State.coupled (s : State) (n : Lane) (x : Axis) (amp : Rat) (phi : Half) : Rat :=
  let c := (s.lane n).set x
  (([n.lower, n.upper].filter (fun m => (s.link m n).speaks && decide (s.seesRegion n m x < 2))).map (fun m =>
    Config.coupledQ (s.seesAngle n m x - c.obs.pub) phi amp ((s.lane n).motor x).km)).sum

/-- The injection index of a set that does not inject goes on with its updates (R193). -/
def ObsSt.tick (o : ObsSt) (m : Nat) : ObsSt := { o with j := if o.j + 1 < m then o.j + 1 else 0 }

/-- The demodulation of one update (R194, R208): the accumulators, and at the end of a cycle the held error and the count of
cycles with the response amplitude out of range. -/
def State.demodulate (s : State) (n : Lane) (x : Axis) (own : Rat × Rat) (amp : Rat) (o : ObsSt) : ObsSt :=
  let l := s.lane n
  let m := l.injUpdates
  let phi := injPhase o.j m
  let acc := o.acc + (own.2 - s.coupled n x amp phi) * Config.sin phi
  let accD := o.accD + own.1 * Config.sin phi
  if o.j + 1 < m then { o with acc := acc, accD := accD, j := o.j + 1 }
  else
    let p := l.motor x
    let resp := absQ (2 * accD / (m : Rat))
    let nom := amp / (2 * Config.pi * l.injHz * p.ld)
    let bad := decide (amp ≠ 0) && (decide (resp < nom / 2) || decide (nom * 2 < resp))
    { o with acc := 0, accD := 0, j := 0, eInj := if amp = 0 then o.eInj else (2 * acc / (m : Rat)) / l.sInj x
             injRun := if bad then o.injRun + 1 else 0 }

/-- The observer of a switching set after one update (R191): flux, demodulation and tracking loop. `i`: the set's currents in
its own stationary frame. -/
def State.observe (s : State) (n : Lane) (x : Axis) (i : Rat × Rat) (amp : Rat) (o : ObsSt) : ObsSt :=
  let l := s.lane n
  let p := l.motor x
  let own := o.theta - l.setOffset n x
  let f := fluxStep o.flux (l.set x).termVec i p.r l.tUpdate
  let mf := magnetFlux p own f i (s.peerSum n x (s.pubShares n x))
  let w := s.emfWeight n x
  let o := s.demodulate n x (park own i) amp o
  let err := w * radOf (Config.atan2 mf.2 mf.1) + (1 - w) * o.eInj
  let r := Config.pll o.theta o.omega err (l.set x).vdq (l.val Key.obsPllBw) l.tUpdate
  { o with theta := r.1, omega := r.2, flux := f, mag := Config.sqrt (mf.1 * mf.1 + mf.2 * mf.2), region := regionOf w, at_ := s.now }

/-- The angle of the corrected flux vector at an update, and how far it has turned since the catch time began (R200). -/
def ObsSt.sweepTo (o : ObsSt) (phi : Half) (now : Nat) : ObsSt :=
  match o.sweepFrom with
  | none => { o with phi := phi, sweep := 0, sweepFrom := some now }
  | some _ => { o with phi := phi, sweep := o.sweep + (phi - o.phi).toInt }

/-- The observer of a floating set (R195): own current zero; below the back-EMF region the axis of the peers' injection, its
ambiguity of 180 degrees resolved from the consensus. From a tenth of the rated speed on its flux is what MEASURE_LOAD reports (R377). -/
def State.observeFloating (s : State) (n : Lane) (x : Axis) (o : ObsSt) : ObsSt :=
  let l := s.lane n
  let p := l.motor x
  let own := o.theta - l.setOffset n x
  let v := (l.set x).termVec
  let f := fluxStep o.flux v (0, 0) p.r l.tUpdate
  let mf := magnetFlux p own f (0, 0) (s.peerSum n x (s.pubShares n x))
  let o := (o.sweepTo (o.theta + Config.atan2 mf.2 mf.1) s.now).tick l.injUpdates
  let w := s.emfWeight n x
  let err := w * radOf (Config.atan2 mf.2 mf.1) + (1 - w) * Config.floatAxis o.theta v
  let r := Config.pll o.theta o.omega err (0, 0) (l.val Key.obsPllBw) l.tUpdate
  let th := if w < 1 ∧ 16384 < (r.1 - (l.con x).theta).toInt.natAbs then r.1 + 0x8000 else r.1
  let mag := Config.sqrt (mf.1 * mf.1 + mf.2 * mf.2)
  { o with
    theta := th, omega := r.2, flux := f, mag := mag, region := 3, at_ := s.now
    psi := if l.rated x / 10 ≤ absQ (r.2 : Rat) then some (roundAway (mag * 100000)).toNat else o.psi }

/-! ### The consensus (R203 to R207) -/

/-- The valid estimates of an axis at a period boundary as lane n has them (R190, R203): its own published value, the peers' of
their newest frames, or with a direction down the value the third lane forwards, advanced by one period. -/
def State.estimates (s : State) (n : Lane) (x : Axis) : List (Lane × Half × Int) :=
  let l := s.lane n
  allLanes.filterMap (fun m =>
    if s.sees n m != .active then none
    else if m = n then (if (l.set x).angleOk then some (n, (l.set x).obs.pub, (l.set x).obs.pubOmega) else none)
    else if (s.link m n).speaks then (if s.seesAngleOk n m x then some (m, s.seesAngle n m x, s.seesSpeed n m x) else none)
    else
      let k := s.link (n.third m) n
      if (s.link m n).down && k.speaks && fld k.view.s7 31 1 == 1 then
        some (m, turned (BitVec.ofNat 16 (fld k.view.s7 (match x with | .s => 48 | .b => 32) 16)) (l.con x).omega l.periodNs,
          (l.con x).omega)
      else none)

/-- The median of three integers. -/
def medianI (a b c : Int) : Int := max (min a b) (min (max a b) c)

/-- The angle between two estimates, rounded toward the first (R203). -/
def midAngle (a b : Half) : Half := a + BitVec.ofInt 16 (Int.tdiv (b - a).toInt 2)

/-- Consensus angle and speed of the valid estimates (R203); none without one. -/
def consensusOf (es : List (Lane × Half × Int)) : Option (Half × Int) :=
  match es with
  | [a, b, c] => some (a.2.1 + BitVec.ofInt 16 (medianI 0 (b.2.1 - a.2.1).toInt (c.2.1 - a.2.1).toInt), medianI a.2.2 b.2.2 c.2.2)
  | [a, b] => some (midAngle a.2.1 b.2.1, roundAway (((a.2.2 + b.2.2 : Int) : Rat) / 2))
  | [a] => some (a.2.1, a.2.2)
  | _ => none

/-- The deviation of an estimate from the consensus in codes (R205). -/
def deviation (a b : Half) : Nat := (a - b).toInt.natAbs

/-- The deviation modulo 180 degrees (R197, R202). -/
def deviation180 (a b : Half) : Nat := min (deviation a b) (32768 - deviation a b)

/-- OBS.CONSENSUS_LIMIT in codes (R205). -/
def LaneSt.conLimit (l : LaneSt) : Rat := l.val Key.obsConsensusLimit * 65536 / 360

/-- The count of deviating periods of a lane (R205). -/
def ConSt.run (c : ConSt) : Lane → Nat
  | .l1 => c.run1
  | .l2 => c.run2
  | .l3 => c.run3

/-- The consensus carried to an instant by its speed. -/
def ConSt.angleAt (c : ConSt) (t : Nat) : Half := turned c.theta c.omega ((t - c.at_ : Nat) : Rat)

/-- The lane whose deviation counts in a period (R205, R206): once the count of a lane that has not counted yet has reached
OBS.CONSENSUS_PERIODS, of all lanes beyond the limit the one with the largest deviation, at equal deviation the higher number; none
where that one has counted already. -/
def countedLane (lim : Rat) (need : Nat) (th : Half) (runs : Lane → Nat) (old : List Lane) (es : List (Lane × Half × Int)) :
    Option (Lane × Half × Bool) :=
  let far := es.filter (fun e => decide (lim < (deviation e.2.1 th : Rat)))
  if far.any (fun e => decide (need ≤ runs e.1) && !old.contains e.1) then
    (far.foldl (fun (b : Option (Lane × Half × Int)) e =>
      match b with
      | none => some e
      | some k => if deviation k.2.1 th ≤ deviation e.2.1 th then some e else some k) none).bind
        (fun e => if old.contains e.1 then none else some (e.1, BitVec.ofNat 16 (deviation e.2.1 th), decide (2 ≤ far.length)))
  else none

/-- One period of the counts of R205 with three valid estimates. -/
def ConSt.countDeviations (c : ConSt) (lim : Rat) (need : Nat) (es : List (Lane × Half × Int)) : ConSt × Option Lane :=
  let next := fun m => if es.any (fun e => e.1 == m && decide (lim < (deviation e.2.1 c.theta : Rat))) then c.run m + 1 else 0
  let c := { c with run1 := next .l1, run2 := next .l2, run3 := next .l3
                    counted := c.counted.filter (fun k => next k.1 != 0) }
  match countedLane lim need c.theta c.run (c.counted.map (·.1)) es with
  | some k => ({ c with counted := (k.1, k.2.1, c.theta) :: c.counted }, if k.2.2 then some k.1 else none)
  | none => (c, none)

/-- The two lanes of a pair agree in a period: consensus angle, speed and instant are kept (R207). -/
def ConSt.agree (c : ConSt) (now : Nat) (a b : Lane) : ConSt :=
  { c with agreed := ((a, b), c.theta, c.omega, now) :: c.agreed.filter (fun g => g.1 != (a, b)) }

/-- Each pair of three estimates that lies within the limit has agreed in this period (R207). -/
def ConSt.notePairs (c : ConSt) (lim : Rat) (now : Nat) (a b d : Lane × Half × Int) : ConSt :=
  [(a, b), (a, d), (b, d)].foldl (fun c p =>
    if (deviation p.1.2.1 p.2.2.1 : Rat) ≤ lim then c.agree now p.1.1 p.2.1 else c) c

/-- One period with two valid estimates (R207): the last agreement of these two is kept; once they have differed long enough the one farther
from the prediction is the outlier, at equal distance that of the higher-numbered lane, and the consensus is the other. -/
def ConSt.judgePair (c : ConSt) (lim : Rat) (need now : Nat) (a b : Lane × Half × Int) : ConSt :=
  if (deviation a.2.1 b.2.1 : Rat) ≤ lim then
    { c.agree now a.1 b.1 with splitRun := 0, outlier := none }
  else
    let run := c.splitRun + 1
    match c.agreed.find? (fun g => g.1 == (a.1, b.1)) with
    | none => { c with splitRun := run }
    | some g =>
      let p := turned g.2.1 g.2.2.1 ((now - g.2.2.2 : Nat) : Rat)
      let far := if deviation b.2.1 p < deviation a.2.1 p then a else b
      let near := if deviation b.2.1 p < deviation a.2.1 p then b else a
      if need ≤ run then { c with splitRun := run, outlier := some far.1, theta := near.2.1, omega := near.2.2 }
      else { c with splitRun := run }

/-- Lane n forms the consensus of an axis at a period boundary (R203 to R207); a split is logged by an Active lane (R206). -/
def State.formConsensus (s : State) (n : Lane) (x : Axis) : State :=
  let l := s.lane n
  let es := s.estimates n x
  let lim := l.conLimit
  let need := l.codeN Key.obsConsensusPeriods
  let c := l.con x
  match consensusOf es with
  | none => s.onLane n (·.onCon x (fun c => { c with
      theta := c.angleAt s.now, at_ := s.now, count := 0, run1 := 0, run2 := 0, run3 := 0, counted := [], splitRun := 0 }))
  | some r =>
    let c := { c with theta := r.1, omega := r.2, at_ := s.now, seen := s.now, count := es.length }
    match es with
    | [a, b, e] =>
      let d := c.countDeviations lim need es
      let s := s.onLane n (·.onCon x (fun _ => { d.1.notePairs lim s.now a b e with splitRun := 0, outlier := none }))
      (match d.2 with
       | some k => if l.state = .active then s.log n 0x0B08 (laneAddr k) else s
       | none => s)
    | [a, b] => s.onLane n (·.onCon x (fun _ =>
        { (c.judgePair lim need s.now a b) with run1 := 0, run2 := 0, run3 := 0, counted := [] }))
    | _ => s.onLane n (·.onCon x (fun _ => { c with run1 := 0, run2 := 0, run3 := 0, counted := [], splitRun := 0, outlier := none }))

/-- A set latches its estimate for the frame of the period that begins, extrapolated to that period's end (R190). -/
def SetSt.publish (c : SetSt) (now : Nat) (period : Rat) : SetSt :=
  { c with obs := { c.obs with pub := turned c.obs.theta c.obs.omega (((now : Rat) - (c.obs.at_ : Rat)) + period)
                               pubOmega := c.obs.omega } }

/-- One period of step 4 of a rejoin (R69, R202): the published estimate within 4 degrees of the consensus, modulo 180 degrees at
standstill. -/
def State.countNear (s : State) (n : Lane) (x : Axis) : State :=
  let l := s.lane n
  let o := (l.set x).obs
  let d := if o.turning then deviation o.pub (l.con x).theta else deviation180 o.pub (l.con x).theta
  s.onSet n x (fun c => { c with obs := { c.obs with near := if d * 360 ≤ 4 * 65536 then c.obs.near + 1 else 0 } })

/-! ### Events of the observer -/

/-- ANGLE_SUSPECT (R205, R206): a lane whose own count has been reached marks itself and logs deviation and consensus angle of that
period; each peer that counts the same casts its vote. -/
def execAngleSuspect (t : Nat) (n : Lane) (x : Axis) (s : State) : Host.Outcome State Fault Refusal :=
  let s := s.at_ t
  let s1 :=
    match ((s.lane n).con x).counted.find? (fun k => k.1 == n) with
    | some k =>
      if (s.lane n).state = .active ∧ ((s.lane n).set x).obs.suspect = false then
        (s.onSet n x (fun c => { c with obs := { c.obs with suspect := true } })).log n 0x040D (setAddr n x)
          (BitVec.ofNat 64 (k.2.1.toNat * 2 ^ 48 + k.2.2.toNat * 2 ^ 32))
      else s
    | none => s
  done (allLanes.foldl (fun s v =>
    if v ≠ n ∧ ((s.lane v).con x).counted.any (fun k => k.1 == n) = true then s.cast v n 3 else s) s1)

/-- ANGLE_OUTLIER (R207): with two estimates that disagree, the other lane votes against the outlier's lane. -/
def execAngleOutlier (t : Nat) (n : Lane) (x : Axis) (s : State) : Host.Outcome State Fault Refusal :=
  let s := s.at_ t
  done (allLanes.foldl (fun s v => if v ≠ n ∧ ((s.lane v).con x).outlier = some n then s.cast v n 3 else s) s)

/-- OBS_INJ_FAULT (R208): four injection cycles in a row with the response out of range; angle valid stays cleared until the next
Run entry or rejoin. -/
def execObsInjFault (t : Nat) (n : Lane) (x : Axis) (s : State) : Host.Outcome State Fault Refusal :=
  let s := s.at_ t
  let c := (s.lane n).set x
  if c.switching = true ∧ 4 ≤ c.obs.injRun ∧ c.obs.injFault = false then
    done ((s.onSet n x (fun c => { c with obs := { c.obs with injFault := true } })).log n 0x040A (setAddr n x))
  else done s

/-- OBS_PSI_MISMATCH (R208): the corrected back-EMF flux out of range for 16 periods; angle valid is cleared while that lasts. -/
def execObsPsiMismatch (t : Nat) (n : Lane) (x : Axis) (s : State) : Host.Outcome State Fault Refusal :=
  let s := s.at_ t
  let c := (s.lane n).set x
  if 16 ≤ c.obs.psiRun ∧ c.obs.psiBad = false then
    done ((s.onSet n x (fun c => { c with obs := { c.obs with psiBad := true } })).log n 0x040B (setAddr n x))
  else done s

/-- An axis begins angle acquisition (R197, R204): T clamped to zero, every usable set tracks from the stored consensus angle.
`again`: a run of R204, which starts without what an earlier run cleared (DEDUCED). -/
def State.startAcquisition (s : State) (x : Axis) (again : Bool) : State :=
  let s := s.onM (fun m => { m with acq := if m.acq.contains x then m.acq else x :: m.acq, acqAt := s.now
                                    acqEnd := m.acqEnd.filter (· != x), polDone := m.polDone.filter (· != x) })
  s.onLanes (fun _ l =>
    let th := match x with | .s => l.keptS | .b => l.keptB
    (l.onSet x (fun c => { c with obs := { c.obs with
      theta := th, omega := 0, at_ := s.now, stage := 0, tries := 0, valid := false, latched := c.obs.latched && !again } })).onCon x
        (fun c => { c with theta := th, omega := 0, at_ := s.now }))

/-- CONSENSUS_LOST (R204): no valid estimate for OBS.HOLDOVER; the axis has no usable set, its sets go on with zero references, and
one that stood still acquires its angle again. -/
def execConsensusLost (t : Nat) (x : Axis) (s : State) : Host.Outcome State Fault Refusal :=
  let s := s.at_ t
  let n := s.scribe
  let l := s.lane n
  let c := l.con x
  if (s.m.mode = .run ∨ s.m.mode = .limp) ∧ s.m.noCon x = false ∧ c.count = 0 ∧ c.seen + ms (l.codeN Key.obsHoldover) ≤ t ∧
      s.m.acq.contains x = false then
    let s := s.onM (fun m => { m with noConS := m.noConS || x == Axis.s, noConB := m.noConB || x == Axis.b })
    let s := s.logLeader 0x0905 (BitVec.ofNat 32 x.num)
    let s := if s.emfWeight n x = 0 then s.startAcquisition x true else s
    done s.checkLimp
  else done s

/-! ### Starting at standstill (R197 to R199) -/

/-- The sets that acquire the angle of an axis: switching sets of Active lanes. -/
def State.acquirers (s : State) (x : Axis) : List Lane :=
  allLanes.filter (fun n => (s.lane n).state == .active && ((s.lane n).set x).switching)

/-- The consensus of angles compared modulo 180 degrees: that of the doubled angles (R197). -/
def median180 (es : List (Lane × Half × Int)) : Half :=
  ((consensusOf (es.map (fun e => (e.1, e.2.1 + e.2.1, e.2.2)))).map (·.1)).getD 0

/-- ANGLE_ACQUISITION_END (R197 steps 1 to 3): an observer not within the limit of the median, modulo 180 degrees, keeps its angle
valid cleared; polarity detection follows for the others. -/
def execAngleAcquisitionEnd (t : Nat) (x : Axis) (s : State) : Host.Outcome State Fault Refusal :=
  let s := s.at_ t
  let l := s.lane s.scribe
  if s.m.acq.contains x = true ∧ s.m.acqEnd.contains x = false ∧ (s.m.runEntry = 4 ∨ s.m.runEntry = 0) ∧
      s.m.acqAt + ms (l.codeN Key.obsAcqTime) ≤ t then
    let es := (s.acquirers x).map (fun n => (n, ((s.lane n).set x).obs.theta, (0 : Int)))
    let md := median180 es
    let s := es.foldl (fun s e =>
      let out := decide (2 * (s.lane e.1).conLimit < (deviation (e.2.1 + e.2.1) md : Rat))
      let s := s.onSet e.1 x (fun c => { c with obs := { c.obs with stage := if out then 3 else 1, latched := c.obs.latched || out } })
      if out then s.log e.1 0x040C (setAddr e.1 x) else s) s
    done (s.onM (fun m => { m with acqEnd := x :: m.acqEnd }))
  else done s

/-- The time a pulse takes until |i_d| reaches a level in mA (R198 step 1). -/
def riseOf (lim : Rat) (ps : List (Nat × Int)) : Option Nat := (ps.find? (fun p => decide (lim ≤ absQ (p.2 : Rat)))).map (fun p => p.1)

/-- What one pulse pair decides (R198 step 3): some true to add 180 degrees, some false to leave the angle; none undecided. DESIGN
CHOICE: a pair with a pulse that does not reach the level is undecided; the manual gives such a pulse no end. -/
def PulsePair.decides (lim margin : Rat) (p : PulsePair) : Option Bool :=
  match riseOf lim p.plus, riseOf lim p.minus with
  | some a, some b =>
    if (b : Rat) < (a : Rat) * (1 - margin) then some true else if (a : Rat) < (b : Rat) * (1 - margin) then some false else none
  | _, _ => none

/-- The polarity a list of pulse pairs decides (R198). Only the first three attempts count. -/
def polarityOf (lim margin : Rat) (ps : List PulsePair) : Option Bool := (ps.take 3).findSome? (PulsePair.decides lim margin)

/-- The d voltages of one attempt with the time each pulse takes (R198 steps 1 and 2): 50 % of V_dc/sqrt 3 along +d and back to zero with
the opposite voltage, then the same along -d. -/
def PulsePair.volts (lim vdc : Rat) (p : PulsePair) : List (Rat × Option Nat) :=
  let v := vdc / Config.sqrt 3 / 2
  [(v, riseOf lim p.plus), (-v, none), (-v, riseOf lim p.minus), (v, none)]

/-- The current in mA that a pulse of the polarity detection is to reach (R198): OBS.POL_PULSE of ILIM_PEAK. -/
def LaneSt.polLevel (l : LaneSt) (x : Axis) : Rat := 1000 * (l.val Key.obsPolPulse / 100 * l.iPeak x)

/-- The polarity detection of one set (R198). -/
def State.detectPolarity (s : State) (n : Lane) (x : Axis) (ps : List PulsePair) : State :=
  let lim := (s.lane n).polLevel x
  let vdc := ((s.lane n).sup.auxLink : Rat) / 1000
  let s := if s.m.acqEnd.contains x = false ∨ s.m.polDone.contains x = true ∨ ((s.lane n).set x).obs.stage ≠ 1 ∨
      (s.acquirers x).contains n = false then s
    else s.onSet n x (fun c => { c with obs := { c.obs with pulses := ((ps.take 3).map (PulsePair.volts lim vdc)).flatten } })
  if s.m.acqEnd.contains x = false ∨ s.m.polDone.contains x = true ∨ ((s.lane n).set x).obs.stage ≠ 1 ∨
      (s.acquirers x).contains n = false then s
  else match polarityOf lim ((s.lane n).val Key.obsPolMargin / 100) ps with
    | some flip => s.onSet n x (fun c => { c with obs := { c.obs with
        theta := if flip then c.obs.theta + 0x8000 else c.obs.theta, stage := 2 } })
    | none =>
      if 3 ≤ ps.length then
        (s.onSet n x (fun c => { c with obs := { c.obs with stage := 3, latched := true } })).log n 0x040F (setAddr n x)
      else s

/-- Some set of a lane waits for its polarity detection. -/
def State.awaitsPolarity (s : State) (n : Lane) : Bool :=
  [Axis.s, .b].any (fun x => s.m.acqEnd.contains x && !s.m.polDone.contains x && (s.acquirers x).contains n &&
    ((s.lane n).set x).obs.stage == 1)

/-- POLARITY_DETECTION (R198): in lane order, both sets of the lane together, once the tracking of every acquiring axis has ended. -/
def execPolarityDetection (t : Nat) (n : Lane) (ms : List PulsePair) (mb : List PulsePair) (s : State) :
    Host.Outcome State Fault Refusal :=
  let s := s.at_ t
  if s.m.acq.all (fun x => s.m.acqEnd.contains x) = true ∧ allLanes.find? s.awaitsPolarity = some n then
    done ((s.detectPolarity n .s ms).detectPolarity n .b mb)
  else done s

/-- The sets of an axis whose polarity has been decided, with their angles (R199). -/
def State.decidedSets (s : State) (x : Axis) : List (Lane × Half) :=
  (s.acquirers x).filterMap (fun n =>
    if ((s.lane n).set x).obs.stage = 2 then some (n, ((s.lane n).set x).obs.theta) else none)

/-- Two angles differ by 180 degrees: nearer to opposite than to equal. -/
def opposed (a b : Half) : Bool := decide (16384 < deviation a b)

/-- A set takes the other polarity (R199). -/
def State.flipSet (s : State) (n : Lane) (x : Axis) : State :=
  (s.onSet n x (fun c => { c with obs := { c.obs with theta := c.obs.theta + 0x8000 } })).log n 0x0B07 (setAddr n x)

/-- The acquisition of an axis ends (R197 step 4, R199): every decided set publishes its angle as valid. -/
def State.endAcquisition (s : State) (x : Axis) : State :=
  let ds := (s.decidedSets x).map (·.1)
  let s := ds.foldl (fun s n => s.onSet n x (fun c => { c with obs := { c.obs with valid := true } })) s
  s.onM (fun m => { m with polDone := x :: m.polDone })

/-- POLARITY_COMPARE (R199): of three decided lanes the odd one takes the others' polarity; two that differ repeat once and then both
stay without a valid angle; one alone stands. -/
def execPolarityCompare (t : Nat) (x : Axis) (s : State) : Host.Outcome State Fault Refusal :=
  let s := s.at_ t
  if s.m.acqEnd.contains x = false ∨ s.m.polDone.contains x = true ∨
      (s.acquirers x).any (fun n => decide (((s.lane n).set x).obs.stage = 1)) = true then done s
  else match s.decidedSets x with
    | [a, b, c] =>
      let s := if opposed a.2 b.2 && opposed a.2 c.2 then s.flipSet a.1 x
        else if opposed b.2 a.2 && opposed b.2 c.2 then s.flipSet b.1 x
        else if opposed c.2 a.2 && opposed c.2 b.2 then s.flipSet c.1 x else s
      done (s.endAcquisition x)
    | [a, b] =>
      if opposed a.2 b.2 = false then done (s.endAcquisition x)
      else if ((s.lane a.1).set x).obs.tries = 0 then
        let again := fun (c : SetSt) => { c with obs := { c.obs with stage := 1, tries := 1 } }
        done ((s.onSet a.1 x again).onSet b.1 x again)
      else
        let stop := fun (c : SetSt) => { c with obs := { c.obs with stage := 3, latched := true } }
        done (((s.onSet a.1 x stop).onSet b.1 x stop).endAcquisition x)
    | _ => done (s.endAcquisition x)

end Sys2Proof.Machine
end

