-- ==== Sys2Proof/Machine/Field.lean ====
section
/-! DEFINITION. The field engines and the PWM period (Power Legs R104 to R107, R112 to R115; Single-Shunt Current Reconstruction;
Field Control R156 to R168, R175 to R178; Lanes R39, R68; Lane Supplies R400, R401). -/

namespace Sys2Proof.Machine

/-! ### Currents (R137 to R141, R148, R160) -/

/-- The mean of the offset samples in codes (R138). DESIGN CHOICE: of those there are while fewer than 16 have been taken, and 0 with none;
the manual states the mean of the last 16 alone. -/
def SetSt.offset (c : SetSt) : Rat := if c.offs.isEmpty then 0 else ((c.offs.sum : Int) : Rat) / (c.offs.length : Rat)

/-- A shunt code in A, offset taken off: 12.5 mA per code (R137, R138). -/
def SetSt.shuntAmps (c : SetSt) (code : BitVec 14) : Rat := ((code.toInt : Rat) - c.offset) / 80

/-- A sample at either end code is saturated (R137). -/
def saturated (code : BitVec 14) : Bool := code.toInt == 8191 || code.toInt == -8192

/-- The phase voltages of the vector with some legs high, for a link in V. -/
def vectorVolts (vdc : Rat) (high : Phase → Bool) : Phase → Rat := fun p =>
  let k : Rat := ((allPhases.filter high).length : Rat)
  vdc * ((if high p then 1 else 0) - k / 3)

/-- The model of R160: the rate of change of the rotor-frame currents under a voltage, at a speed in rad/s. -/
def modelRate (p : Motor) (w : Rat) (i v : Rat × Rat) : Rat × Rat :=
  ((v.1 - p.r * i.1 + w * p.lq * i.2) / p.ld, (v.2 - p.r * i.2 - w * (p.ld * i.1 + p.psi)) / p.lq)

/-- The sense reading of a phase in A (R150). -/
def senseAmps (m : Three) : Phase → Rat
  | .u => (m.u : Rat) / 1000
  | .v => (m.v : Rat) / 1000
  | .w => (m.w : Rat) / 1000

/-- The phase of the largest of three readings (R150). -/
def largestPhase (f : Phase → Rat) : Phase :=
  if absQ (f .v) ≤ absQ (f .u) ∧ absQ (f .w) ≤ absQ (f .u) then .u else if absQ (f .w) ≤ absQ (f .v) then .v else .w

/-- The edges of the legs in the half that is sampled. -/
def SetSt.edgesOf (c : SetSt) (down : Bool) (p : Phase) : Int := if down then (c.leg p).edge else (c.leg p).edgeUp

/-- What one update makes of the samples: the phase currents, how many samples were predicted, and the phase concerned where a sample
disagreed with its reading, the sense sum was out of limit, or a sample was saturated (R151). -/
structure Formed where
  iu    : Rat
  iv    : Rat
  iw    : Rat
  preds : Nat
  bad1  : Option Phase
  bad2  : Option Phase
  bad4  : Option Phase
  deriving DecidableEq, Repr

/-- The mean voltage vector that acted since the previous update (R160): the one in force, and before it took effect the one before. -/
def SetSt.meanVolts (c : SetSt) (now : Nat) : Rat × Rat :=
  let a := c.obs.at_
  if c.vAt ≤ a ∨ now ≤ a then c.vdq
  else
    let k : Rat := (((min c.vAt now) - a : Nat) : Rat) / ((now - a : Nat) : Rat)
    (k * c.vPast.1 + (1 - k) * c.vdq.1, k * c.vPast.2 + (1 - k) * c.vdq.2)

/-- The phase currents that the model predicts for an update (R160): from the rotor-frame currents of the previous one, over one update
interval, with the voltage applied in it. -/
def State.predicted (s : State) (n : Lane) (x : Axis) (ang : Half) : Phase → Rat :=
  let l := s.lane n
  let c := l.set x
  let step := modelRate (l.motor x) (radPerS (l.con x).omega) c.idq (c.meanVolts s.now)
  phasesOf (unpark ang (c.idq.1 + step.1 * l.tUpdate, c.idq.2 + step.2 * l.tUpdate))

/-- A shunt current of a phase and the sense reading at the same hold disagree (R150). -/
def LaneSt.differs (l : LaneSt) (i reading : Rat) : Bool :=
  decide (l.val Key.csXcheckPct / 100 * absQ reading + l.val Key.csXcheckFloor < absQ (i - reading))

/-- The sum of the sense readings of a hold is beyond the limit of the largest of them (R150): its phase. DESIGN CHOICE: the manual does
not say which phase a sum outside its limit concerns. -/
def LaneSt.sumBad (l : LaneSt) (r : Phase → Rat) : Option Phase :=
  let q := largestPhase r
  if l.val Key.csXcheckPct / 100 * absQ (r q) + l.val Key.csXcheckFloor < absQ (r .u + r .v + r .w) then some q else none

/-- The currents of an update with all legs (R140, R147, R148, R150, R160). Window P gives the negative current of the lowest-duty leg,
window V that of the highest-duty leg; the earlier sample is referred to the current-sample instant; a sample that could not be taken is
replaced by the prediction. The sum is checked at the hold of S2: window V in a half that counts down, else window P. Where both samples
disagree, the phase of window P is named (DESIGN CHOICE). -/
def State.formThree (s : State) (n : Lane) (x : Axis) (m : CurrentSample) (ang : Half) : Formed :=
  let l := s.lane n
  let c := l.set x
  let e := c.edgesOf m.down
  let d := fun q => (c.leg q).duty
  let a := topLeg d
  let z := lowLeg d
  let b := otherLeg a z
  let need := stepsOf (l.val Key.csWindow)
  let rP := senseAmps m.senseP
  let rV := senseAmps m.senseV
  let vdc := (l.sup.auxLink : Rat) / 1000
  let pred := s.predicted n x ang
  let okP := decide (need ≤ e b - e z)
  let okV := decide (need ≤ e a - e b) && !c.shut
  let gap : Rat := ((if m.down then e a - e b else e b - e z : Int) : Rat) * 5 / 4 / 1000000000
  let volts := vectorVolts vdc (fun q => if m.down then q == a else q != z)
  let r := modelRate (l.motor x) (radPerS (l.con x).omega) c.idq (park ang (clarke (volts .u) (volts .v) (volts .w)))
  let move := phasesOf (unpark ang (r.1 * gap, r.2 * gap))
  let mP := -(c.shuntAmps m.codeP)
  let mV := c.shuntAmps m.codeV
  let iz := if okP then (if m.down then mP + move z else mP) else pred z
  let ia := if okV then (if m.down then mV else mV + move a) else pred a
  let val := fun (q : Phase) => if q = z then iz else if q = a then ia else -ia - iz
  { iu := val .u, iv := val .v, iw := val .w, preds := (if okP then 0 else 1) + (if okV then 0 else 1)
    bad1 := if okP && l.differs mP (rP z) then some z else if okV && l.differs mV (rV a) then some a else none
    bad2 := if m.down then (if okV then l.sumBad rV else none) else (if okP then l.sumBad rP else none)
    bad4 := if okP && saturated m.codeP && decide (absQ (rP z) < 90) then some z
      else if okV && saturated m.codeV && decide (absQ (rV a) < 90) then some a else none }

/-- The currents of an update with one leg held high-impedance (R141, R147, R148, R150): the one window in which exactly one of the two
other legs is high gives the current of that leg, and the other carries its negative. -/
def State.formLine (s : State) (n : Lane) (x : Axis) (m : CurrentSample) (ang : Half) (q0 : Phase) : Formed :=
  let l := s.lane n
  let c := l.set x
  let e := c.edgesOf m.down
  let d := fun q => (c.leg q).duty
  let a := topLeg d
  let z := lowLeg d
  let h := if a = q0 then otherLeg a z else a
  let g := if z = q0 then otherLeg a z else z
  let rV := senseAmps m.senseV
  let ok := decide (stepsOf (l.val Key.csWindow) ≤ e h - e g) && !c.shut
  let i := if ok then c.shuntAmps m.codeV else s.predicted n x ang h
  let val := fun (q : Phase) => if q = h then i else if q = g then -i else 0
  { iu := val .u, iv := val .v, iw := val .w, preds := if ok then 0 else 1
    bad1 := if ok && l.differs i (rV h) then some h else none
    bad2 := if ok then l.sumBad rV else none
    bad4 := if ok && saturated m.codeV && decide (absQ (rV h) < 90) then some h else none }

/-- The currents of an update (R140, R141). -/
def State.formCurrents (s : State) (n : Lane) (x : Axis) (m : CurrentSample) (ang : Half) : Formed :=
  match allPhases.find? (fun q => (((s.lane n).set x).leg q).tripped) with
  | some q0 => s.formLine n x m ang q0
  | none => s.formThree n x m ang

/-! ### Regulators and modulation (R161 to R165, R175, R178) -/

/-- The sign of a current for the dead-time compensation, linear within the band (R164). -/
def dtSign (band i : Rat) : Rat := if band ≤ i then 1 else if i ≤ -band then -1 else if band = 0 then 0 else i / band

/-- The voltage vector kept within its limit (R165): shortened along q with v_d kept; both scaled if |v_d| alone exceeds it. -/
def limitVector (lim : Rat) (v : Rat × Rat) : Rat × Rat :=
  if v.1 * v.1 + v.2 * v.2 ≤ lim * lim then v
  else if lim < absQ v.1 then
    let k := lim / Config.sqrt (v.1 * v.1 + v.2 * v.2)
    (v.1 * k, v.2 * k)
  else
    let q := Config.sqrt (lim * lim - v.1 * v.1)
    (v.1, if v.2 < 0 then -q else q)

/-- The d reference after one update of field weakening (R178): an integrator against the excess of the vector over 98 % of its limit
drives it negative, and its like against what is missing to 94 % returns it to zero, within 0 and -ID_MAX. DEDUCED: a crossover at FW_BW
gives the rate 2 pi FW_BW / (|w| L_D), since d current changes the vector by |w| L_D. -/
def weaken (p : Motor) (w lim mag dt idRef : Rat) : Rat :=
  let rate := fun (excess : Rat) => 2 * Config.pi * p.fwBw * excess / (absQ w * p.ld)
  let next := if lim * 98 / 100 ≤ mag then idRef - rate (mag - lim * 98 / 100) * dt
    else if mag < lim * 94 / 100 then idRef + rate (lim * 94 / 100 - mag) * dt else idRef
  clampQ (-p.idMax) 0 next

/-- The three leg duties of phase voltages with min-max common-mode injection (R165). -/
def minMax (vdc : Rat) (v : Phase → Rat) : Phase → Rat := fun p =>
  let hi := max (v .u) (max (v .v) (v .w))
  let lo := min (v .u) (min (v .v) (v .w))
  if vdc = 0 then 1 / 2 else 1 / 2 + (v p - (hi + lo) / 2) / vdc

/-- The update point at which values ready at some instant take effect, and the middle of the interval in which they act, in ns
(R158, R159). -/
def LaneSt.actingMiddle (l : LaneSt) (ready : Nat) : Rat :=
  let half : Rat := l.periodNs / 2
  let since : Rat := ((ready + 20 - l.peakAt : Nat) : Rat)
  if l.double then (l.peakAt : Rat) + ((since / half).ceil : Rat) * half + half / 2
  else (l.peakAt : Rat) + ((since / l.periodNs).ceil : Rat) * l.periodNs + half

/-- The modulation factor of a set (R165): the reduced one while it is window-limited. -/
def Motor.mod (p : Motor) (limited : Bool) : Rat := if limited then p.modW else p.modL

/-- A phase voltage reference with its dead-time compensation (R164). -/
def LaneSt.compensate (l : LaneSt) (p : Motor) (c : SetSt) (v i : Rat) : Rat :=
  v + dtSign p.dtc i * 2 * ((c.dead : Rat) * 5 / 4) / l.periodNs * ((l.sup.auxLink : Rat) / 1000)

/-- The current of a phase as formed. -/
def Formed.amps (f : Formed) : Phase → Rat
  | .u => f.iu
  | .v => f.iv
  | .w => f.iw

/-- The regulators of a set with all three legs (R159 to R165, R175, R178): from the rotor-frame currents to the requested duties. -/
def State.regulate (s : State) (n : Lane) (x : Axis) (f : Formed) (ang : Half) (amp : Rat) (c : SetSt) : SetSt × (Phase → Rat) :=
  let l := s.lane n
  let p := l.motor x
  let w := radPerS (l.con x).omega
  let i := park ang (clarke f.iu f.iv f.iw)
  let nf := if regionOf (s.emfWeight n x) = 2 then i else Config.notch l.injHz (1 / l.tUpdate) c.notchIn i c.notchOut
  let peers := s.peerSum n x (s.peerShares n x)
  let was := c.peers.getD peers
  let idh := if l.injHz = 0 then 0 else amp / (2 * Config.pi * l.injHz * p.ld)
  let lim := c.avail * l.iPeak x
  let idw := max (-lim) (min lim (s.dRef n x))
  let used := absQ idw + idh
  let room := if lim ≤ used then 0 else Config.sqrt (lim * lim - used * used)
  let want := c.share * s.refAmps n x
  let iq := clampQ (-room) room want
  let kd := 2 * Config.pi * p.bw * p.ld
  let kq := 2 * Config.pi * p.bw * p.lq
  let ki := 2 * Config.pi * p.bw * p.r
  let ed := idw - nf.1
  let eq := iq - nf.2
  let ffd := -w * p.lq * (i.2 + p.km * peers.2) + p.km * p.ld * (peers.1 - was.1) / l.tUpdate
  let ffq := w * p.ld * (i.1 + p.km * peers.1) + w * p.psi + p.km * p.lq * (peers.2 - was.2) / l.tUpdate
  let own := c.obs.theta - l.setOffset n x - ang
  let inj := unpark own (amp * Config.cos (injPhase c.obs.j l.injUpdates), 0)
  let v := (kd * ed + c.intD + ffd + inj.1, kq * eq + c.intQ + ffq + inj.2)
  let vdc := (l.sup.auxLink : Rat) / 1000
  let vlim := p.mod c.limited * vdc / Config.sqrt 3
  let vl := limitVector vlim v
  let cut := decide (vl ≠ v)
  let mag := Config.sqrt (vl.1 * vl.1 + vl.2 * vl.2)
  let adv := turned ang (l.con x).omega (l.actingMiddle (s.now + 200) - (s.now : Rat))
  let ph := phasesOf (unpark adv vl)
  ({ c with
      idq := i, vNext := vl
      intD := if cut ∧ 0 < ed * v.1 then c.intD else c.intD + ki * ed * l.tUpdate
      intQ := if cut ∧ 0 < eq * v.2 then c.intQ else c.intQ + ki * eq * l.tUpdate
      idRef := weaken p w vlim mag l.tUpdate c.idRef
      peers := some peers
      cClamp := if iq = want ∧ idw = s.dRef n x then c.cClamp else satInc c.cClamp
      flowNow := decide (vl.1 * i.1 + vl.2 * i.2 < 0)
      notchIn := (i :: c.notchIn).take 2, notchOut := (nf :: c.notchOut).take 2 },
   minMax vdc (fun q => l.compensate p c (ph q) (f.amps q)))

/-- The regulator of a set with one leg held high-impedance (R112, R141, R164, R165): the current of the remaining line goes to zero. The
two legs take opposite voltages from a regulator with the gains of R161; the line voltage stays within m V_dc. DEDUCED: the manual
states the aim of this regulator and not its form. -/
def State.regulateLine (s : State) (n : Lane) (x : Axis) (f : Formed) (ang : Half) (p0 : Phase) (c : SetSt) :
    SetSt × (Phase → Rat) :=
  let l := s.lane n
  let p := l.motor x
  let a := (allPhases.find? (fun q => q != p0)).getD .u
  let e := -(f.amps a)
  let v := 2 * Config.pi * p.bw * p.lq * e + c.intQ
  let vdc := (l.sup.auxLink : Rat) / 1000
  let lim := p.mod c.limited * vdc / 2
  let vl := clampQ (-lim) lim v
  let volts := fun (q : Phase) => if q = p0 then 0 else if q = a then vl else -vl
  ({ c with
      intQ := if vl ≠ v ∧ 0 < e * v then c.intQ else c.intQ + 2 * Config.pi * p.bw * p.r * e * l.tUpdate
      idq := park ang (clarke f.iu f.iv f.iw), vNext := park ang (clarke (volts .u) (volts .v) (volts .w))
      flowNow := decide (vl * f.amps a < 0) },
   fun q => if q = p0 ∨ vdc = 0 then 1 / 2 else 1 / 2 + l.compensate p c (volts q) (f.amps q) / vdc)

/-- New values are ready 200 ns after the current-sample instant (R157, R158): older ones that have not taken effect by then are
discarded and counted; ones whose update point comes first are in force. -/
def SetSt.queueDuty (c : SetSt) (l : LaneSt) (now : Nat) (down : Bool) (duties : Phase → Rat) : SetSt :=
  let point : Rat := (l.peakAt : Rat) + (if down && l.double then l.periodNs / 2 else l.periodNs)
  let late := c.pending && decide (((now + 200 : Nat) : Rat) ≤ point)
  let c := if c.pending && !late then c.takeDuty point.ceil.toNat else c
  let c := if late then c.discard else c
  { (c.shape l down duties) with pending := true, ready := now + 200 }

/-- What an update has found stays for the checks of the period (R148, R150, R151). -/
def SetSt.noteFormed (c : SetSt) (f : Formed) : SetSt :=
  { c with
    iu := f.iu, iv := f.iv, iw := f.iw, cPred := (List.range f.preds).foldl (fun a _ => satInc a) c.cPred
    pred := c.pred || f.preds != 0
    bad1 := c.bad1 || f.bad1.isSome, bad2 := c.bad2 || f.bad2.isSome, bad4 := c.bad4 || f.bad4.isSome
    who1 := f.bad1.getD c.who1, who2 := f.bad2.getD c.who2, who4 := f.bad4.getD c.who4 }

/-- One update of a switching set (R157). -/
def State.fieldUpdate (s : State) (n : Lane) (x : Axis) (m : CurrentSample) : State :=
  let l := s.lane n
  let valley := (l.peakAt : Rat) + l.periodNs / 2
  let s := if l.double && !m.down then s.onSet n x (·.updatePoint valley.ceil.toNat) else s
  let l := s.lane n
  let ang := (l.con x).angleAt s.now - l.setOffset n x
  let amp := (1 - s.emfWeight n x) * (l.motor x).amp
  let f := s.formCurrents n x m ang
  let c := l.set x
  let obs := s.observe n x (clarke f.iu f.iv f.iw) amp c.obs
  let c := c.noteFormed f
  let r := match allPhases.find? (fun q => (c.leg q).tripped) with
    | some p0 => s.regulateLine n x f ang p0 c
    | none => s.regulate n x f ang amp c
  let c := (r.1.queueDuty l s.now m.down r.2)
  s.onSet n x (fun _ => { c with obs := obs })

/-- CURRENT_LOOP_UPDATE (R139, R156 to R167, R189 to R195): a switching set runs its field engine and its observer, a floating set
its observer; under active short only the injection index goes on; in single update the half that counts up holds no current sample. -/
def execCurrentLoopUpdate (t : Nat) (n : Lane) (x : Axis) (m : CurrentSample) (s : State) : Host.Outcome State Fault Refusal :=
  let s := s.at_ t
  let l := s.lane n
  if l.rst.inReset = true ∨ (m.down = false ∧ l.double = false) then done s
  else if (l.set x).short then done (s.onSet n x (fun c => { c with obs := c.obs.tick l.injUpdates }))
  else if (l.set x).switching then done (s.fieldUpdate n x m)
  else done (s.onSet n x (fun c => { c with obs := s.observeFloating n x c.obs }))

/-! ### Auxiliary conversions (R152, R153, R388, R96, R274) -/

/-- A temperature code in 1/16 C: -64 C at code 0 (R152). -/
def tempOf (c : BitVec 12) : Int := (c.toNat : Int) - 1024

/-- The terminal averages of a set; while its legs float, an induced line-to-line voltage of 0.5 V or more is noted (R152, R274). -/
def SetSt.terms (c : SetSt) (u v w : BitVec 12) (now : Nat) : SetSt :=
  let far := fun (a b : BitVec 12) => decide (25 ≤ ((a.toNat : Int) - (b.toNat : Int)).natAbs)
  { c with u := { c.u with term := u }, v := { c.v with term := v }, w := { c.w with term := w }
           lastMove := if !c.switching && (far u v || far v w || far w u) then now else c.lastMove }

/-- The temperature channel due in the rotation takes its values (R152). -/
def LaneSt.takeTemps (l : LaneSt) (a b : Int) : LaneSt :=
  let l := { l with ctr := { l.ctr with rot := (l.ctr.rot + 1) % 4 } }
  let k := (l.ctr.rot + 3) % 4
  if k = 0 then { l with s := { l.s with u := { l.s.u with temp := a } }, b := { l.b with u := { l.b.u with temp := b } } }
  else if k = 1 then { l with s := { l.s with v := { l.s.v with temp := a } }, b := { l.b with v := { l.b.v with temp := b } } }
  else if k = 2 then { l with s := { l.s with w := { l.s.w with temp := a } }, b := { l.b with w := { l.b.w with temp := b } } }
  else { l with gey := { l.gey with temp := a }, base16 := b }

/-- A background test of the lane's role and mode runs (R388). -/
def State.testsBackground (s : State) (n : Lane) : Bool :=
  (s.lane n).state == .active && ((s.lane n).role == .deputy || (s.lane n).role == .member) &&
  (s.m.mode == .ready || s.m.mode == .run || s.m.mode == .limp)

/-- One AUX reference reading in 1/1000 of its reference: 16 in a row beyond 1 % mark the converter unusable (R388, R386). -/
def State.checkRefs (s : State) (n : Lane) (a b : Nat) : State :=
  if s.testsBackground n = false then s
  else
    let off := fun (r : Nat) => decide (10 < ((r : Int) - 1000).natAbs)
    let s := s.onCtr n (fun c => { c with
      refRunA := if off a then c.refRunA + 1 else 0, refRunB := if off b then c.refRunB + 1 else 0 })
    let ks := (if 16 ≤ (s.lane n).ctr.refRunA then [8] else []) ++ (if 16 ≤ (s.lane n).ctr.refRunB then [9] else [])
    let fresh := ks.filter (fun k => !(s.lane n).mapBit k)
    if fresh.isEmpty then s
    else (((s.failBits n fresh (fun _ => BitVec.ofNat 64 (4 * 2 ^ 56))).onLane n LaneSt.obeyMap).lostSet n).checkLimp

/-- The supply and the DC link in mV as converted, added to what the mean of the present basic cycle is formed from (R152, R374). -/
def SupplySt.convert (p : SupplySt) (vsup link : Nat) : SupplySt :=
  { p with vsup := vsup, link := link, auxSup := vsup, auxLink := link
           sums := (p.sums.1 + vsup, p.sums.2.1 + link, p.sums.2.2 + 1) }

/-- The load measurement names a set of the axis (R376). -/
def MeasSt.onAxis (m : MeasSt) (x : Axis) : Bool := m.loadOn && (match x with | .s => m.loadS | .b => m.loadB)

/-- AUX_CONVERSION (R152, R153): terminals, DC link, lane supply and one temperature of each converter. An induced peak of a floating
set of a measured axis ends the whole load measurement (R379). -/
def execAuxConversion (t : Nat) (n : Lane) (m : AuxSample) (s : State) : Host.Outcome State Fault Refusal :=
  let s := s.at_ t
  if (s.lane n).rst.inReset then done s
  else
    let s := s.onLane n (fun l =>
      ({ l with s := l.s.terms m.su m.sv m.sw t, b := l.b.terms m.bu m.bv m.bw t
                sup := l.sup.convert (m.vsup.toNat * 20) (m.link.toNat * 20) }).takeTemps (tempOf m.tempA) (tempOf m.tempB))
    let s := (s.checkRefs n m.refA m.refB).reviewTemp n
    let s := if s.meas.onAxis .s && (s.lane n).s.lastMove == t then s.endLoad else s
    done (if s.meas.onAxis .b && (s.lane n).b.lastMove == t then s.endLoad else s)

/-! ### Signals of a set -/

/-- WINDOW_LIMITED (R149). -/
def execWindowLimited (t : Nat) (n : Lane) (x : Axis) (s : State) : Host.Outcome State Fault Refusal :=
  let s := s.at_ t
  let c := (s.lane n).set x
  if c.limited = false ∧ (s.lane n).codeN Key.csMissLimit ≤ c.miss then
    done (s.onSet n x (fun c => { c with limited := true, cWin := satInc c.cWin }))
  else done s

/-- WINDOW_LIMITED_CLEAR (R149). -/
def execWindowLimitedClear (t : Nat) (n : Lane) (x : Axis) (s : State) : Host.Outcome State Fault Refusal :=
  let s := s.at_ t
  let c := (s.lane n).set x
  if c.limited = true ∧ (s.lane n).codeN Key.csMissLimit ≤ c.clean then done (s.onSet n x (fun c => { c with limited := false }))
  else done s

/-- The confirmed kind of a set, the lowest first, 0 for none (R151). -/
def LaneSt.mismatchKind (l : LaneSt) (c : SetSt) : Nat :=
  let k := l.codeN Key.csXcheckPeriods
  if k ≤ c.xc1 then 1 else if k ≤ c.xc2 then 2 else if 16 ≤ c.offBad then 3 else if k ≤ c.xc4 then 4 else 0

/-- The phase that a confirmed kind concerns (R151); kind 3 concerns the set. -/
def SetSt.mismatchPhase (c : SetSt) (k : Nat) : Option Phase :=
  if k = 1 then some c.who1 else if k = 2 then some c.who2 else if k = 3 then none else some c.who4

/-- SENSE_MISMATCH (R151): a confirmed condition takes the set high-impedance and marks it in the persistent map. -/
def execSenseMismatch (t : Nat) (n : Lane) (x : Axis) (p : Option Phase) (s : State) : Host.Outcome State Fault Refusal :=
  let s := s.at_ t
  let l := s.lane n
  let c := l.set x
  let k := l.mismatchKind c
  if l.rst.inReset = true ∨ k = 0 ∨ l.mapBit x.mapBit = true ∨ p ≠ c.mismatchPhase k then done s
  else
    let code := (p.map (legAddr n x)).getD (setAddr n x)
    let s := s.log n 0x0302 (setAddr n x) (BitVec.ofNat 64 (k * 2 ^ 56 + code.toNat * 2 ^ 48))
    let s := (s.onSet n x (fun c => { c.floatLegs with xc1 := 0, xc2 := 0, xc4 := 0, offBad := 0 })).markBit n x.mapBit
    done (s.lostSet n).checkLimp

/-- CARRIER_UNLOCK (R168): an error above 50 ns for 16 periods sets the flag of the health record; control continues. -/
def execCarrierUnlock (t : Nat) (n : Lane) (s : State) : Host.Outcome State Fault Refusal :=
  done ((s.at_ t).onCtr n (fun c => if 16 ≤ c.carrierRun then { c with carrier := true } else c))

/-- I2T_LIMIT (R176): lane n's integrator for a set of lane m has reached its budget; the limit ramps to the continuous one. -/
def execI2tLimit (t : Nat) (n : Lane) (x : SetRef) (s : State) : Host.Outcome State Fault Refusal :=
  let s := s.at_ t
  let l := s.lane n
  if l.rst.inReset = false ∧ (l.term x.lane x.axis).heatLow = false ∧ l.eMax x.axis ≤ (l.term x.lane x.axis).heat then
    done (s.onTerm n x.lane x.axis (fun c => { c with heatLow := true, heatAt := t }))
  else done s

/-- I2T_RECOVER (R176): below half the budget the limit ramps back to the peak one. -/
def execI2tRecover (t : Nat) (n : Lane) (x : SetRef) (s : State) : Host.Outcome State Fault Refusal :=
  let s := s.at_ t
  let l := s.lane n
  if l.rst.inReset = false ∧ (l.term x.lane x.axis).heatLow = true ∧ (l.term x.lane x.axis).heat < l.eMax x.axis / 2 then
    done (s.onTerm n x.lane x.axis (fun c => { c with heatLow := false, heatAt := t }))
  else done s

/-! ### The PWM period -/

/-- The phase current of a leg as last reconstructed (R105). -/
def SetSt.phaseAmps (c : SetSt) : Phase → Rat
  | .u => c.iu
  | .v => c.iv
  | .w => c.iw

/-- An edge is gate-controlled (R105): at least 2 A, and the switch that takes or gives up the load current: the high side for a
positive current, the low side for a negative one. -/
def gateControlled (i : Rat) (high : Bool) : Bool := decide (2 ≤ absQ i) && (decide (0 < i) == high)

/-- The plateau code of a switch and direction (R104). -/
def LegSt.plateau (g : LegSt) (high on : Bool) : Byte :=
  if high then (if on then g.kHsOn else g.kHsOff) else (if on then g.kLsOn else g.kLsOff)

/-- A leg with one plateau code changed. -/
def LegSt.setPlateau (g : LegSt) (high on : Bool) (k : Byte) : LegSt :=
  if high then (if on then { g with kHsOn := k } else { g with kHsOff := k })
  else (if on then { g with kLsOn := k } else { g with kLsOff := k })

/-- The plateau current in mA that a code stands for (R104). -/
def plateauMa (k : Byte) : Nat := 4 * (k.toNat + 1)

/-- A phase of a switching edge (R103). -/
inductive GatePhase where
  | precharge | plateau | hold
  deriving DecidableEq, Repr

/-- What drives the gate in a phase (R103): a current in mA into or out of it, or its rail through a resistance in 0.1 ohm. -/
inductive GateDrive where
  | source (ma : Rat)
  | sink (ma : Rat)
  | holdOn (r : Nat)
  | holdOff (r : Nat)
  deriving DecidableEq, Repr

/-- When phase 1 of an edge ends, in 0.125 ns from its command (R103): the gate at 1.3 V rising or 2.6 V falling, or 4 ns. -/
def edgeChargeEnd (e : EdgeSample) : Nat := min 32 (e.gate.getD 32)

/-- When phase 2 ends (R103): 90 % of the transition, or 25 ns after phase 1. -/
def edgePlateauEnd (e : EdgeSample) : Nat := max (edgeChargeEnd e) (min (edgeChargeEnd e + 200) e.t90)

/-- The phase an edge is in some time after its command (R103). -/
def edgePhaseAt (e : EdgeSample) (at_ : Nat) : GatePhase :=
  if at_ < edgeChargeEnd e then .precharge else if at_ < edgePlateauEnd e then .plateau else .hold

/-- The drive of a switch in a phase of an edge (R103): GATE.PRECHARGE_I, the plateau current of its code, then VDRV through 1 ohm or the
return through 0.3 ohm. -/
def LaneSt.gateDrive (l : LaneSt) (g : LegSt) (high on : Bool) (ph : GatePhase) : GateDrive :=
  let i : Rat := match ph with
    | .precharge => 1000 * l.val Key.gatePrechargeI
    | _ => (plateauMa (g.plateau high on) : Rat)
  match ph with
  | .hold => if on then .holdOn 10 else .holdOff 3
  | _ => if on then .source i else .sink i

/-- The measured 10 % to 90 % transition time in ns (R104). -/
def edgeTimeNs (e : EdgeSample) : Rat := ((e.t90 - e.t10 : Nat) : Rat) / 8

/-- The next code of the slope servo (R105): for a code, a transition time and a target in ns and a limit in percent. DESIGN CHOICE: the
limit of SERVO_STEP percent of a code is itself rounded under R495, at least one step; the manual does not say how a limit between two
codes is taken. -/
def servoNext (k : Nat) (tm target pct : Rat) : Nat :=
  let want := if target = 0 then 0 else roundAway ((k : Rat) * (tm - target) / target)
  let lim := max 1 (roundAway ((k : Rat) * pct / 100))
  (clampI 0 255 ((k : Int) + clampI (-lim) lim want)).toNat

/-- The number of a plateau code (R104). -/
def codeIndex (high on : Bool) : Nat := (if high then 0 else 2) + (if on then 0 else 1)

/-- The runs of saturated edges after one gate-controlled edge of a code, for each code and each of the two conditions (R107). -/
def satStep (runs : List (Nat × Bool × Nat)) (idx : Nat) (at255 at0 : Bool) : List (Nat × Bool × Nat) :=
  let run := fun (hi : Bool) => ((runs.find? (fun r => r.1 == idx && r.2.1 == hi)).map (fun r => r.2.2)).getD 0
  (if at255 then [(idx, true, run true + 1)] else []) ++ (if at0 then [(idx, false, run false + 1)] else []) ++
    runs.filter (fun r => r.1 != idx)

/-- One measured edge (R105, R107, R393): a gate-controlled one moves its code, counts saturation and adds switching energy. -/
def LaneSt.servoEdge (l : LaneSt) (e : EdgeSample) : LaneSt :=
  let c := l.set e.axis
  let i := c.phaseAmps e.phase
  if gateControlled i e.high = false ∨ c.switching = false then l
  else
    let g := c.leg e.phase
    let k := (g.plateau e.high e.on).toNat
    let tm := edgeTimeNs e
    let target := l.val Key.gateSlewTarget
    let next := servoNext k tm target (l.val Key.gateServoStep)
    let l := l.onSet e.axis (·.onLeg e.phase (fun g =>
      { (g.setPlateau e.high e.on (BitVec.ofNat 8 next)) with
        satRuns := satStep g.satRuns (codeIndex e.high e.on) (k == 255 && decide (target * 3 / 2 < tm)) (k == 0 && decide (tm < target / 2)) }))
    { l with ctr := { l.ctr with energy := l.ctr.energy + (l.sup.auxLink : Rat) / 1000 * absQ i * tm / 1000000000 / 2 } }

/-- The counts of a set over the period that ends (R116, R149 to R151, R208). -/
def LaneSt.periodCounts (l : LaneSt) (x : Axis) (c : SetSt) : SetSt :=
  let up := fun (b : Bool) (k : Nat) => if b then k + 1 else 0
  let psi := (l.motor x).psi
  let out := c.obs.region == 2 && (decide (c.obs.mag < psi * 3 / 4) || decide (psi * 5 / 4 < c.obs.mag))
  let c := { c with obs := { c.obs with psiRun := up out c.obs.psiRun, psiBad := c.obs.psiBad && out } }
  let c := { c with flowIn := c.flowNow && c.switching, lastUp := min c.u.edgeUp (min c.v.edgeUp c.w.edgeUp) }
  if c.switching = false then { c with pred := false, bad1 := false, bad2 := false, bad4 := false }
  else
    { c.onLegs (fun g => { g with uvPeriods := if g.uv then g.uvPeriods + 1 else g.uvPeriods }) with
      miss := up c.pred c.miss, clean := up (!c.pred) c.clean
      xc1 := up (c.bad1 && !c.bad2) c.xc1, xc2 := up c.bad2 c.xc2, xc4 := up c.bad4 c.xc4
      cCross := if c.bad1 || c.bad2 then satInc c.cCross else c.cCross
      pred := false, bad1 := false, bad2 := false, bad4 := false }

/-- The longer zero-vector interval of a period in counter steps (R138): all high sides on around the peak that opens the period, from
the edges of the half before it, or all low sides on around its valley. -/
def SetSt.zeroSteps (c : SetSt) (half : Nat) : Int :=
  max (c.lastUp + min c.u.edge (min c.v.edge c.w.edge))
    (2 * (half : Int) - max c.u.edge (max c.v.edge c.w.edge) - max c.u.edgeUp (max c.v.edgeUp c.w.edgeUp))

/-- The offset sample due every 16 periods (R138, R151): taken in an interval of CS.WINDOW, else deferred and counted. -/
def LaneSt.offsetSample (l : LaneSt) (code : BitVec 14) (c : SetSt) : SetSt :=
  let k := c.offTick + 1
  if c.switching = false then c
  else if k < 16 then { c with offTick := k }
  else if stepsOf (l.val Key.csWindow) ≤ c.zeroSteps l.halfSteps then
    let c := { c with offs := (code.toInt :: c.offs).take 16, offTick := 0 }
    { c with offBad := if 40 < absQ c.offset then c.offBad + 1 else 0 }
  else { c with offTick := k, cDefer := if k = 16 then satInc c.cDefer else c.cDefer }

/-- A link direction over one period (R36, R39): a frame that was not committed counts as lost, and its part of the relay stream with
it. `len`: the stream bytes of a frame. -/
def LinkIn.period (k : LinkIn) (used : Bool) (len : Nat) : LinkIn :=
  if (k.signal && used) = false then { k with got := false }
  else if k.got then { k with got := false, lost := 0 }
  else { (k.feedLost len) with got := false, lost := k.lost + 1, good := 0 }

/-- One background test vector of each field engine of a Deputy or Member (R68). -/
def State.runVectors (s : State) (n : Lane) (okS okB : Bool) : State :=
  let l := s.lane n
  if l.state ≠ .active ∨ (l.role ≠ .deputy ∧ l.role ≠ .member) then s
  else
    let one := fun (s : State) (x : Axis) (ok : Bool) =>
      if ok || (s.lane n).mapBit x.mapBit then s
      else
        (((s.onSet n x (fun c => { c.floatLegs with vecBad := true })).markBit n x.mapBit).log n 0x0303 (setAddr n x)).lostSet n |>.checkLimp
    let s := one (one s .s okS) .b okB
    s.onLane n (fun l =>
      let last := decide (l.ctr.vecIdx = 255)
      { l with ctr := { l.ctr with vecIdx := (l.ctr.vecIdx + 1) % 256 }
               prof := { l.prof with vecOk := if okS && okB then (if last then !l.s.vecBad && !l.b.vecBad else l.prof.vecOk) else false } })

/-- The lane arms or disarms its self-quench (R400); newly armed below 14 V it quenches at once. -/
def State.armQuench (s : State) (n : Lane) : State :=
  let l := s.lane n
  let arm := [n.lower, n.upper].any (fun m => (s.link m n).speaks && s.sees n m == .active && decide (s.seesLevel n m ≤ 3))
  let s := s.onSup n (fun p => { p with armed := arm })
  if arm && !l.sup.armed && !l.vote.caldera && decide (l.sup.eff < 14000) then s.supplyQuench n else s

/-- The carrier of a lane against the Leader's (R168): one counter step where the error exceeds 2.5 ns; a lane without switching
legs sets its counter directly. -/
def State.alignCarrier (s : State) (n : Lane) (err : Int) : State :=
  let l := s.lane n
  if l.role = .leader ∨ (l.state ≠ .active ∧ l.state ≠ .rejoining) then
    s.onCtr n (fun c => { c with carrierErr := 0, carrierRun := 0, halfAdj := 0 })
  else if l.s.switching || l.b.switching then
    s.onCtr n (fun c => { c with
      carrierErr := err, carrierRun := if 5000 < err.natAbs then c.carrierRun + 1 else 0
      halfAdj := if 250 < err then -1 else if err < -250 then 1 else 0 })
  else s.onCtr n (fun c => { c with carrierErr := 0, carrierRun := 0, halfAdj := 0 })

/-- A set that restarts after a suspension (R401). DEDUCED: one that its catch-spin found at standstill goes on from its floating
observation, which then counts as converged, as in a rejoin (R202). -/
def LaneSt.resumeSet (l : LaneSt) (x : Axis) (c : SetSt) : SetSt :=
  let c := l.startSet x c
  { c with obs := { c.obs with valid := c.obs.valid || !c.obs.turning } }

/-- A lane back from level 6 restarts switching at the first peak after its catch-spin (R401). -/
def State.resumeSets (s : State) (n : Lane) : State :=
  let l := s.lane n
  let due := fun (x : Axis) => !l.setBad x && !(l.set x).switching
  if l.state = .active ∧ l.sup.resumed = false ∧ l.sup.level ≠ 6 ∧ (s.m.mode = .run ∨ s.m.mode = .limp) ∧
      [Axis.s, .b].all (fun x => !due x || (l.set x).obs.caught) = true then
    s.onLane n (fun l => { l with
      s := if due .s then l.resumeSet .s l.s else l.s, b := if due .b then l.resumeSet .b l.b else l.b })
  else s

/-- Time in service over the period (R391). -/
def State.countTime (s : State) (n : Lane) : State :=
  let run := s.m.mode == .run || s.m.mode == .limp
  let on := s.m.mode != .dormant
  let now := s.now
  s.onLane n (fun l =>
    let dt := if l.peakAt = 0 then 0 else now - l.peakAt
    { l with peakAt := now, ctr := { l.ctr with runNs := l.ctr.runNs + (if run then dt else 0), onNs := l.ctr.onNs + (if on then dt else 0) } })

/-- The boot report of a lane (R440). -/
def LaneSt.bootReport (l : LaneSt) : BootReport :=
  let pkg := (l.sec.bank l.sec.running).getD (0, 0)
  { bank := l.sec.running, trial := l.sec.trial.isSome, trialFailed := l.sec.trialBad, bootFailed := l.rst.bootFailed.isSome
    package := pkg.1, version := pkg.2, step := BitVec.ofNat 8 l.rst.bootStep }

/-- The peers for which the Leader latches its state (R45, R62, R69): those it sees Rejoining, and its Deputy. -/
def State.snapshotPeers (s : State) (n : Lane) : List Lane :=
  if (s.lane n).role = .leader then
    [n.lower, n.upper].filter (fun p => s.sees n p == .rejoining || s.seesRole n p == .deputy)
  else []

/-- The items of once a basic cycle, in the first frame after its start (R295, R321, R374, R440, R62, R69): the time with the reading at the end
delimiter of this frame, 0.5 us before the period ends; the means of the cycle that has passed; once a matrix cycle the schedule report (R295); from Boot step 5 on the boot report;
the Leader's state for the peers that need it, and to a Rejoining lane its session table (R332). A lane Off after a failed Boot reports that alone (DEDUCED from R17). -/
def State.sendReports (s : State) (n : Lane) : State :=
  let l := s.lane n
  let cycle := s.meridian n / 1000000
  if l.rst.reported = some cycle then s
  else
    let p := l.sup.sums
    let means := if p.2.2 = 0 then l.sup.means else (p.1 / p.2.2, p.2.1 / p.2.2)
    let s := s.onLane n (fun l => { l with
      rst := { l.rst with reported := some cycle }, sup := { l.sup with sums := (0, 0, 0), means := means } })
    let l := s.lane n
    let s := if l.state = .off then s
      else
        let s := s.pushBothFirst n (supplyItemBytes l.supplyEntry)
        s.pushBothFirst n (timeItemBytes l.time.synced (l.net.x.state == 3 || l.net.y.state == 3)
          (l.time.reading (s.now + l.periodNs.floor.toNat - 500)))
    let s := if l.state = .off ∨ cycle % 32 ≠ 0 then s
      else s.pushBoth n (scheduleItem (almId l.net.almanac) l.net.pendId (BitVec.ofNat 64 l.net.pendTime))
    let s := if 5 ≤ l.rst.bootStep ∨ l.rst.bootFailed.isSome = true then s.pushBoth n (bootItem l.bootReport) else s
    let s := (s.snapshotPeers n).foldl (fun s p => s.sendSnapshot n p) s
    if (s.lane n).role = .leader then
      [n.lower, n.upper].foldl (fun s p =>
        if s.sees n p = .rejoining then
          (s.lane n).sec.sessions.foldl (fun s e => s.pushItem n p (sessionItemBytes true e)) s
        else s) s
    else s

/-- The lane latches what its frames of the period that begins carry, with their part of the relay stream (R34 to R37, R190, R262). -/
def State.sendFrames (s : State) (n : Lane) : State :=
  let now := s.now
  let s := s.onLane n (fun l => { l with
    s := l.s.publish now l.periodNs, b := l.b.publish now l.periodNs, outSeq := l.outSeq + 1 })
  let l := s.lane n
  [n.lower, n.upper].foldl (fun s p =>
    s.onLink p n (fun k => { (k.fillFrame l.ena.filt l.relayWords) with out := s.frameTo n p })) s

/-- Shares in force of sets that no longer take part re-form at once (R172, R173): also where a vote has begun to count since. -/
def State.reformStale (s : State) (n : Lane) : State :=
  if (s.lane n).state = .active ∧ allLanes.any (fun m => [Axis.s, .b].any (fun x =>
      ((s.lane n).term m x).share != 0 && (!s.carries n m x || s.noShare n m x))) = true then s.reform n
  else s

/-- What a lane does at a PWM peak once it is out of reset (R39, R68, R105, R138, R158, R168, R172, R179, R190, R203, R400, R401). -/
def State.pwmPeak (s : State) (n : Lane) (m : PeriodSample) : State :=
  let now := s.now
  let s := s.onLane n (fun l =>
    let l := m.edges.foldl LaneSt.servoEdge l
    { l with
      s := (l.periodCounts .s (l.offsetSample m.offS l.s)).updatePoint now
      b := (l.periodCounts .b (l.offsetSample m.offB l.b)).updatePoint now })
  let s := (s.formConsensus n .s).formConsensus n .b
  let s := if (s.lane n).state = .rejoining ∧ (s.lane n).rejoin.step = 4 then (s.countNear n .s).countNear n .b else s
  let s := ((s.runVectors n m.vecS m.vecB).armQuench n).alignCarrier n m.carrier
  (((s.startRejoined n).resumeSets n).reformStale n).countTime n

/-- PWM_PERIOD (R34, R39, R190): the checks over the period that ends, the update point at the peak, the consensus, and the frames of the
period that begins. A lane Off after a failed Boot keeps its links and frames alone (R17, R438). -/
def execPwmPeriod (t : Nat) (n : Lane) (m : PeriodSample) (s : State) : Host.Outcome State Fault Refusal :=
  let s := s.at_ t
  let l := s.lane n
  if l.rst.inReset = true ∨ (l.state = .off ∧ l.rst.bootFailed = none) then done s
  else
    let len := 8 * l.relayWords - 4
    let s := s.onLane n (fun l => { l with lo := l.lo.period (!l.mapBit 4) len, hi := l.hi.period (!l.mapBit 5) len })
    let s := if l.state = .off then s else s.pwmPeak n m
    done ((s.sendReports n).sendFrames n)

end Sys2Proof.Machine
end

