-- ==== Sys2Proof/Machine/Network.lean ====
section
/-! DEFINITION. The Hiolo network side of a lane: reception and its checks, the four kinds of frame, status and CAPS frames,
relay, the Almanac, the Meridian and the channel states (Hiolo Network: Schedule and Frames R281 to R301; Hiolo Network: Global
Time, Shutter and Joining R305 to R323), CAPS_EXCHANGE (R341) and the transceiver events of the host port (R344, R466). -/

namespace Sys2Proof.Machine

/-! ### Channel states and relay (R88, R300, R314) -/

/-- The lane is released from reset and not Off: its network side runs. -/
def LaneSt.netRuns (l : LaneSt) : Bool := !l.rst.inReset && l.state != .off

/-- Relay of a lane begins or ends with its last or first integrated channel, and is logged (R300). -/
def State.reviewRelay (s : State) (n : Lane) : State :=
  let l := s.lane n
  let r := !l.net.integrated
  if l.netRuns = false ∨ l.state = .starting ∨ r = l.net.relayed then s
  else (s.onNet n (fun x => { x with relayed := r })).log n 0x0506 (laneAddr n) (if r then 0 else BitVec.ofNat 64 (2 ^ 56))

/-- A lane's time is synchronised by its own channels or by a peer (R307); from the moment it becomes so, an Almanac switch waits
for the next matrix-cycle start (R293). -/
def State.reviewSync (s : State) (n : Lane) : State :=
  let l := s.lane n
  let on := if l.net.integrated then l.time.used || l.time.fromPeer else l.time.fromPeer
  let T := s.meridian n
  s.onLane n (fun l => { l with
    time := { l.time with synced := on }
    net := { l.net with switchAfter := if on && !l.time.synced then T else l.net.switchAfter } })

/-- A Joining or Integrated channel goes Passive with a reason (R314); a cable measurement on the other channel ends (R380). -/
def State.passiveChan (s : State) (n : Lane) (c : Chan) (reason : BitVec 3) : State :=
  let k := (s.lane n).net.chan c
  if k.state = 2 ∨ k.state = 3 then
    let now := s.now
    let s := s.onChan n c (fun k => { k with
      state := 4, reason := reason, agree := 0, big := 0, capsDue := false, away := if k.state = 3 then now else k.away })
    let s := s.log n 0x0502 (BitVec.ofNat 32 c.num) (BitVec.ofNat 64 (reason.toNat * 2 ^ 56))
    let s := if s.meas.cableOn = true ∧ s.meas.cableLane = n ∧ s.meas.cableChan = c.other then s.endCable else s
    (s.reviewSync n).reviewRelay n
  else s

/-- A lane-wide reason makes both channels Passive together (R314). -/
def State.passiveLane (s : State) (n : Lane) (reason : BitVec 3) : State :=
  (s.passiveChan n .x reason).passiveChan n .y reason

/-- A lane writes its admission record (R320). -/
def LaneSt.recordAdmission (l : LaneSt) (n : Lane) : LaneSt :=
  { l with net := { l.net with adm := some (almId l.net.almanac, BitVec.ofNat 5 (l.nodeId n), BitVec.ofNat 8 l.tag) } }

/-- A channel becomes Integrated (R318 to R320): the lane is admitted and writes its record, relay ends, and Boot may give way
to Ready. -/
def State.integrate (s : State) (n : Lane) (c : Chan) : State :=
  let s := s.onChan n c (fun k => { k with
    state := 3, agree := 0, big := 0, lostLog := false, joinLate := false, blocked := 0 })
  let s := s.onLane n (fun l => { l with net := { l.net with admitted := true } }.recordAdmission n)
  (((s.log n 0x0B0F (BitVec.ofNat 32 c.num)).reviewSync n).reviewRelay n).tryReady

/-! ### Reception (R287, R288, R316) -/

/-- Start and end of window w in ns from the basic-cycle start. -/
def winStart (b : List Byte) (w : Nat) : Nat := almStart b w * 100
/-- End of window w. -/
def winEnd (b : List Byte) (w : Nat) : Nat := (almStart b w + almLen b w) * 100

/-- The window an instant of the basic cycle falls into. -/
def windowAt (b : List Byte) (off : Nat) : Option Nat :=
  (List.range (almWindows b)).find? (fun w => decide (winStart b w ≤ off) && decide (off < winEnd b w))

/-- The lane's NET.RX_DELAY in ns. -/
def LaneSt.rxDelay (l : LaneSt) : Rat := 1000 * l.val Key.netRxDelay

/-- The acceptance window of an integrated or Joining channel (R316): within 4 us of the nominal instant in a reference window,
within NET.ACCEPT_HALF in an exclusive or arbitrating one; an idle window has none of its own. -/
def LaneSt.acceptable (l : LaneSt) (kind w : Nat) (f : HFrame) : Bool :=
  let nominal : Rat := (winStart l.net.almanac w : Rat) + 10400 + l.rxDelay
  let half : Rat := if kind = 1 then 4000 else 1000 * l.val Key.netAcceptHalf
  kind == 0 || decide (absQ ((f.sfd : Rat) - nominal) ≤ half)

/-- The position a channel checks a frame against: the lane's own schedule position at the SFD, or in Listen, before time has
been taken, the frame's own (R317). -/
def LaneSt.position (l : LaneSt) (k : ChanSt) (f : HFrame) (now : Nat) : Option Nat × Nat :=
  if k.state = 1 ∧ l.time.taken = false ∧ l.time.synced = false then
    (if f.window.toNat < almWindows l.net.almanac then some f.window.toNat else none, f.matrix.toNat)
  else (windowAt l.net.almanac f.sfd, matrixPos (l.time.reading now))

/-- The flags a window type requires (R288). -/
def flagsOk (kind : Nat) (f : HFrame) : Bool :=
  match kind with
  | 1 => f.sync && !f.null && !f.caps
  | 2 => !f.sync && !f.caps
  | 3 => f.caps && !f.sync && !f.null
  | _ => false

/-- What reception makes of a frame: nothing received, a counted discard at the acceptance test or at a check of R287, or the
window and matrix position of an accepted frame. -/
inductive Recv where
  /-- The channel receives nothing. -/
  | deaf
  /-- Outside the acceptance limits (R316). -/
  | late
  /-- The first failing check of R287. -/
  | fail (order : Nat)
  /-- Accepted in a window of a basic cycle. -/
  | ok (w c : Nat)
  deriving DecidableEq, Repr

/-- The acceptance test and the checks of R287 in their order. -/
def LaneSt.judge (l : LaneSt) (c : Chan) (f : HFrame) (now : Nat) : Recv :=
  let k := l.net.chan c
  let b := l.net.almanac
  let pos := l.position k f now
  let kind := (pos.1.map (fun w => entryType (almEntry b pos.2 w))).getD 0
  let tested := k.state == 2 || k.state == 3
  if l.netRuns = false ∨ k.state = 0 then .deaf
  else if tested && !((pos.1.map (fun w => l.acceptable kind w f)).getD false) then .late
  else if f.fcsOk = false then .fail 1
  else if f.dest ≠ 0x0348494F0000 ∨ f.etherType.toNat ≠ l.codeN Key.netEthertype then .fail 2
  else if f.major ≠ 1 then .fail 3
  else if 1400 < f.plen.toNat ∨ f.dataLen < f.plen.toNat + 12 then .fail 4
  else match pos.1 with
    | none => .fail 5
    | some w =>
      if f.window.toNat ≠ w ∨ f.matrix.toNat ≠ pos.2 then .fail 5
      else if (kind = 1 ∨ kind = 2) ∧ f.sender.toNat ≠ entryOwner (almEntry b pos.2 w) then .fail 6
      else if flagsOk kind f = false then .fail 7
      else if f.cc.toNat ≠ c.num then .fail 8
      else .ok w pos.2

/-- The counter of a failing check (R287). -/
def ChanSt.count (k : ChanSt) (order : Nat) : ChanSt :=
  match order with
  | 1 => { k with cFcs := satInc k.cFcs }
  | 2 => { k with cForeign := satInc k.cForeign }
  | 3 => { k with cVersion := satInc k.cVersion }
  | 4 => { k with cLength := satInc k.cLength }
  | 5 => { k with cPosition := satInc k.cPosition }
  | 6 => { k with cOwner := satInc k.cOwner }
  | 7 => { k with cFlags := satInc k.cFlags }
  | _ => { k with cCrossed := satInc k.cCrossed }

/-- A frame at a channel (R286, R287, R316): a discard counts, a crossed segment is logged, an accepted frame shows its sender
alive. -/
def State.receive (s : State) (n : Lane) (c : Chan) (f : HFrame) : State × Recv :=
  let r := (s.lane n).judge c f s.now
  let now := s.now
  match r with
  | .deaf => (s, r)
  | .late => (s.onChan n c (fun k => { k with cAccept := satInc k.cAccept }), r)
  | .fail o =>
    let s := s.onChan n c (·.count o)
    (if o = 8 then s.log n 0x0505 (BitVec.ofNat 32 c.num) else s, r)
  | .ok _ _ =>
    (s.onChan n c (fun k => { k with
      lastSeen := (f.sender, now) :: k.lastSeen.filter (fun e => e.1 != f.sender) }), r)

/-! ### Command frames (R23, R285, R291, R298, R300) -/

/-- The freshness mark of a sender with the frame taken in (R285): none where the frame is a duplicate or too old; the flag
tells a resynchronisation. -/
def takeFresh (marks : List FreshMark) (sender : BitVec 5) (fresh : Half) (cyc : Nat) :
    List FreshMark × Bool × Bool :=
  let put := fun (m : FreshMark) => m :: marks.filter (fun e => e.sender != sender)
  match marks.find? (fun e => e.sender == sender) with
  | none => (put { sender := sender, mark := fresh }, true, false)
  | some m =>
    if newer fresh m.mark then (put { sender := sender, mark := fresh }, true, false)
    else if fresh = m.mark then (marks, false, false)
    else if m.older.map (· + 1) = some cyc then (put { sender := sender, mark := fresh }, true, true)
    else if m.older = some cyc then (marks, false, false)
    else (put { m with older := some cyc }, false, false)

/-- A command frame for this module reaches a lane: freshness, then its triple buffer; an unread buffer overwritten counts
(R23, R285). The flag tells that it was accepted. -/
def State.takeCommand (s : State) (n : Lane) (f : HFrame) : State × Bool :=
  let l := s.lane n
  let r := takeFresh l.net.marks f.sender f.fresh ((s.meridian n) / 1000000).toNat
  let s := s.onNet n (fun x => { x with marks := r.1 })
  if r.2.1 then
    let s := if r.2.2 then s.log n 0x0B1C (BitVec.ofNat 32 f.sender.toNat) else s
    let s := if l.net.rx.isSome && !l.net.rxOld then s.onCtr n (fun c => { c with overwritten := satInc c.overwritten }) else s
    (s.onNet n (fun x => { x with rx := some f, rxOld := false }), true)
  else (s, false)

/-- Peer p reports no integrated channel, as lane n sees it (R37 S6 [29:28]). -/
def State.seesRelayed (s : State) (n p : Lane) : Bool :=
  (s.link p n).speaks && fld (s.link p n).view.s6 28 2 == 0

/-- A lane with an integrated channel forwards an accepted command frame to each relayed peer whose link is up, as an item of
type 0x10 (R299, R300). -/
def State.offerRelay (s : State) (n : Lane) (c : Chan) (f : HFrame) : State :=
  if (s.lane n).net.integrated then
    [n.lower, n.upper].foldl (fun s p =>
      if s.seesRelayed n p && (s.link p n).hearsMe then s.onLink p n (·.pushFrame (inboundItem c f)) else s) s
  else s

/-- The peer that carries lane n's status: the lowest-numbered one with an integrated channel and a link up in both directions
(R300). -/
def State.relayPeer (s : State) (n : Lane) : Option Lane :=
  [n.lower, n.upper].find? (fun p =>
    (s.link p n).speaks && (s.link p n).hearsMe && fld (s.link p n).view.s6 28 2 != 0)

/-- The window is an exclusive one of a commander that addresses the lane's module (R291). -/
def LaneSt.addressed (l : LaneSt) (w c : Nat) : Bool :=
  let e := almEntry l.net.almanac c w
  entryType e == 2 && almKind l.net.almanac (entryOwner e) == 1 && (entryTag e == l.tag || entryTag e == 0xFF)

/-- The lane takes command frames from this channel: with one channel integrated the lane receives on that channel alone, beside a
Joining one (R298, R319). -/
def NetSt.hearsOn (x : NetSt) (c : Chan) : Bool := (x.chan c).state == 3 || (x.chan c).state == 2 || !x.integrated

/-- COMMAND_FRAME (R287, R291, R298). -/
def execCommandFrame (t : Nat) (n : Lane) (c : Chan) (f : HFrame) (s : State) : Host.Outcome State Fault Refusal :=
  let r := (s.at_ t).receive n c f
  match r.2 with
  | .ok w p =>
    if (s.lane n).addressed w p = true ∧ f.null = false ∧ (s.lane n).net.hearsOn c = true then
      let q := r.1.takeCommand n f
      done (if q.2 then q.1.offerRelay n c f else q.1)
    else done r.1
  | _ => done r.1

/-- NULL_FRAME (R286): its sender is alive and on schedule; it carries no data. -/
def execNullFrame (t : Nat) (n : Lane) (c : Chan) (f : HFrame) (s : State) : Host.Outcome State Fault Refusal :=
  done ((s.at_ t).receive n c f).1

/-! ### Reference frames (R308, R309) -/

/-- One of the four sources with its value changed. -/
def TimeSt.onSource (x : TimeSt) (i : Nat) (f : SrcVal → SrcVal) : TimeSt :=
  match i with
  | 0 => { x with s0 := f x.s0 }
  | 1 => { x with s1 := f x.s1 }
  | 2 => { x with s2 := f x.s2 }
  | _ => { x with s3 := f x.s3 }

/-- Every source changed. -/
def TimeSt.onSources (x : TimeSt) (f : SrcVal → SrcVal) : TimeSt :=
  { x with s0 := f x.s0, s1 := f x.s1, s2 := f x.s2, s3 := f x.s3 }

/-- The deviation a channel has recorded. -/
def SrcVal.on (v : SrcVal) : Chan → Option Int
  | .x => v.x
  | .y => v.y

/-- A deviation recorded on a channel. -/
def SrcVal.put (v : SrcVal) (c : Chan) (d : Int) : SrcVal :=
  match c with
  | .x => { v with x := some d }
  | .y => { v with y := some d }

/-- REFERENCE_FRAME (R308, R309): a used source's deviation d = t_rx - (T_ref + NET.RX_DELAY) is recorded; a payload below 8
bytes counts, and a window that ends beyond 900 us is not used. -/
def execReferenceFrame (t : Nat) (n : Lane) (c : Chan) (f : HFrame) (s : State) : Host.Outcome State Fault Refusal :=
  let r := (s.at_ t).receive n c f
  let l := s.lane n
  match r.2, l.sources.findIdx? (· == f.sender.toNat) with
  | .ok w p, some i =>
    if entryType (almEntry l.net.almanac p w) ≠ 1 then done r.1
    else if f.plen.toNat < 8 then done (r.1.onChan n c (fun k => { k with cRefFmt := satInc k.cRefFmt }))
    else if 900000 < winEnd l.net.almanac w then done r.1
    else
      let rx : Int := (r.1.meridian n) / 1000000 * 1000000 + f.sfd
      let d := roundAway ((rx : Rat) - ((rd f.payload 0 8 : Rat) + l.rxDelay))
      done (r.1.onLane n (fun l => { l with time := l.time.onSource i (·.put c d) }))
  | _, _ => done r.1

/-! ### CAPS announcements (R319, R341, R381) -/

/-- The FCP versions the module knows (R339). -/
def fcpKnown : List Nat := [ver 2 0, ver 2 1, ver 2 2, ver 2 3, ver 3 0, ver 3 1]
/-- The Hiolo versions the module knows (R319). -/
def hioloKnown : List Nat := [ver 1 0, ver 1 1, ver 1 2]
/-- The twin-link versions the module knows. -/
def twinKnown : List Nat := [ver 1 0]

/-- The highest known version within a partner's range; 0 where there is none (R341). -/
def highestCommon (known : List Nat) (lo hi : Nat) : Nat :=
  (known.filter (fun v => decide (lo ≤ v) && decide (v ≤ hi))).foldl max 0

/-- The version table with a node's FCP and Hiolo versions; an announcement leaves what CAPS_EXCHANGE has agreed (R381). -/
def NetSt.putVersion (x : NetSt) (k : BitVec 5) (agreed : Bool) (fcp hiolo : Nat) : NetSt :=
  if !agreed && x.versions.any (fun e => e.1 == k && e.2.1) then x
  else { x with versions := (k, agreed, beBytes 2 fcp ++ beBytes 2 hiolo) :: x.versions.filter (fun e => e.1 != k) }

/-- CAPS_FRAME (R381): a new or changed payload of a node is kept and logged, with the versions that follow from it. -/
def execCapsFrame (t : Nat) (n : Lane) (c : Chan) (f : HFrame) (s : State) : Host.Outcome State Fault Refusal :=
  let r := (s.at_ t).receive n c f
  let l := s.lane n
  match r.2 with
  | .ok w p =>
    let b := f.payload
    let old := ((l.net.chan c).capsKept.find? (fun e => e.1 == f.sender)).map (·.2)
    if entryType (almEntry l.net.almanac p w) ≠ 3 ∨ old = some b then done r.1
    else
      let s := r.1.onChan n c (fun k => { k with capsKept := (f.sender, b) :: k.capsKept.filter (fun e => e.1 != f.sender) })
      let s := s.onNet n (·.putVersion f.sender false (highestCommon fcpKnown (rd b 8 2) (rd b 10 2))
        (highestCommon hioloKnown (rd b 4 2) (rd b 6 2)))
      done (s.log n 0x0B13 (BitVec.ofNat 32 f.sender.toNat) (BitVec.ofNat 64 (pack [(rd b 0 1, 8), (rd b 1 1, 8), (rd b 2 1, 4),
        (rd b 3 1, 4), (rd b 6 2, 16), (rd b 10 2, 16), (0, 8)])))
  | _ => done r.1

/-- The module's version ranges as CAPS_EXCHANGE and a CAPS frame carry them: lowest and highest Hiolo, FCP and twin link
(R319, R341). -/
def ownRanges : List Byte := [1, 0, 1, 2, 2, 0, 3, 1, 1, 0, 1, 0]

/-- The 24-byte payload of a lane's CAPS frame on a channel (R319). -/
def LaneSt.capsPayload (l : LaneSt) (n : Lane) (c : Chan) : List Byte :=
  [2, BitVec.ofNat 8 l.tag, BitVec.ofNat 8 n.num, BitVec.ofNat 8 c.num] ++ ownRanges ++
  beBytes 4 (almId l.net.almanac).toNat ++ [0, 0, 0, 0]

/-- A frame of a lane on a channel, in window w of basic cycle p (R281 to R283, R289, R297): reserved fields zero, the data field
padded to 46 bytes, the end of its SFD 10.4 us after the window start. -/
def LaneSt.frame (l : LaneSt) (n : Lane) (c : Chan) (w p : Nat) (null caps : Bool) (payload : List Byte) : HFrame :=
  let b := l.net.almanac
  { fcsOk := true, dest := 0x0348494F0000, etherType := BitVec.ofNat 16 (l.codeN Key.netEthertype)
    cc := BitVec.ofNat 8 c.num, dataLen := max 46 (12 + payload.length), sfd := winStart b w + 10400
    major := 1, minor := BitVec.ofNat 4 (almMinor b), window := BitVec.ofNat 4 w, matrix := BitVec.ofNat 5 p
    sender := BitVec.ofNat 5 (l.nodeId n), epoch := l.epoch, sync := false, null := null, caps := caps
    fresh := l.net.fresh, plen := BitVec.ofNat 16 payload.length, payload := payload }

/-- The node transmits at its first instant: no carrier from 4 us after the window start until then (R296). -/
def firstFree (m : ArbSense) (id : Nat) : Bool :=
  m.busy.all (fun b => decide (b.2 ≤ 4000) || decide (4000 + id % 8 * 3200 < b.1))

/-- After a collision it transmits at its second instant: no carrier from 32 us after the window start until then (R296). -/
def secondFree (m : ArbSense) (id : Nat) : Bool :=
  m.busy.all (fun b => decide (b.2 ≤ 32000) || decide (36000 + id / 8 * 3200 < b.1))

/-- CAPS_FRAME_SEND (R296, R318, R319): in an arbitrating window a Joining channel, or one that owes its one frame after a fast
integration, sends under the access rules; without NET.JOIN_ACK its first frame admits it. -/
def execCapsFrameSend (t : Nat) (n : Lane) (c : Chan) (m : ArbSense) (s : State) : Host.Outcome State Fault Refusal :=
  let s := s.at_ t
  let l := s.lane n
  let k := l.net.chan c
  let b := l.net.almanac
  let T := s.meridian n
  match (windowAt b (cycleOffset T)).filter (fun w => entryType (almEntry b (matrixPos T) w) == 3) with
  | none => done s
  | some w =>
    if l.netRuns = false ∨ ¬(k.state = 2 ∨ (k.state = 3 ∧ k.capsDue = true)) then done s
    else if k.capsSent then done (s.onChan n c (fun k => { k with capsSent := false }))
    else if firstFree m (l.nodeId n) = false then done s
    else if m.collision1 ∧ secondFree m (l.nodeId n) = false then done s
    else if m.collision1 ∧ m.collision2 then done (s.onChan n c (fun k => { k with cArb := satInc k.cArb }))
    else
      let s := s.onChan n c (fun k => { k with
        capsSent := true, capsDue := false, frame := some (l.frame n c w (matrixPos T) false true (l.capsPayload n c)) })
      done (if k.state = 2 ∧ l.codeN Key.netJoinAck = 0 then s.integrate n c else s)

/-- What one lane does with a commander's CAPS_EXCHANGE (R319, R341): it keeps the agreed versions per sender and, when
addressed, its Joining channels are admitted. -/
def State.capsPart (s : State) (n : Lane) (c : Call) (fcp hiolo : Nat) : State :=
  match c.r.carriage with
  | .host => s
  | .hiolo k =>
    let s := s.onNet n (·.putVersion k true fcp hiolo)
    if c.r.target = 0 ∨ c.r.target = n.code then
      let s := if (s.lane n).net.x.state = 2 then s.integrate n .x else s
      if (s.lane n).net.y.state = 2 then s.integrate n .y else s
    else s

/-- The versions a CAPS_EXCHANGE agrees: FCP, Hiolo, twin link (R341). -/
def capsAgreed (p : List Byte) : Nat × Nat × Nat :=
  (highestCommon fcpKnown (rd p 6 2) (rd p 8 2), highestCommon hioloKnown (rd p 2 2) (rd p 4 2),
   highestCommon twinKnown (rd p 10 2) (rd p 12 2))

/-- CAPS_EXCHANGE at the lane that answers: the module's ranges and the highest common versions; without a common FCP version
ERR_VERSION, and no admission (R341). -/
def handleCapsExchange : Handler := fun s n c =>
  let g := capsAgreed c.p
  if g.1 = 0 then .err 0x16 0x0604
  else .ok (s.capsPart n c g.1 g.2.1) (ownRanges ++ beBytes 2 g.1 ++ beBytes 2 g.2.1 ++ beBytes 2 g.2.2)

/-- CAPS_EXCHANGE at every other lane. -/
def peerCapsExchange : PeerPart := fun s n c =>
  let g := capsAgreed c.p
  if g.1 = 0 then s else s.capsPart n c g.1 g.2.1

/-- CAPS_EXCHANGE (R341, R350). -/
def execCapsExchange (r : Req) (s : State) : Host.Outcome State Fault Refusal :=
  done (s.fcp 0x0604 r handleCapsExchange peerCapsExchange)

/-! ### Status frames (R283, R286, R297, R300, R338, R343) -/

/-- The leading packets that fit a room, and those that wait (R338). -/
def fitPackets : Nat → List (List Byte) → List (List Byte) × List (List Byte)
  | _, [] => ([], [])
  | room, p :: r =>
    if p.length ≤ room then let q := fitPackets (room - p.length) r; (p :: q.1, q.2) else ([], p :: r)

/-- The packets of a reply stream, by their header lengths (R327). -/
def splitPackets : Nat → List Byte → List (List Byte)
  | 0, _ => []
  | k + 1, b =>
    let L := 20 + rd b 10 2 + (if (BitVec.ofNat 8 (rd b 2 1) : Byte).getLsbD 6 then 8 else 0)
    if b.length < 20 then [] else b.take L :: splitPackets k (b.drop L)

/-- A relaying lane appends a relayed peer's packets as far as its window leaves room; what is left waits for its next window
(R300). -/
def State.appendRelay (s : State) (n p : Lane) (room : Nat) : State × List Byte :=
  match (s.link p n).relayOut with
  | none => (s, [])
  | some (e, f, payload, since) =>
    let q := fitPackets room (splitPackets 64 (payload.drop 8))
    let rest := q.2.flatten
    (s.onLink p n (fun k => { k with
      relayOut := if rest.isEmpty then none else some (e, f, payload.take 8 ++ rest, since) }), q.1.flatten)

/-- The piece of the health record that the status frame of matrix position j carries: a HEALTH_READ reply of the lane, under the
oldest open Hiolo session where one is open (R389). DESIGN CHOICE: in the version 3.1, the highest the module knows. -/
def LaneSt.piecePacket (l : LaneSt) (n : Lane) (j : Nat) (piece : List Byte) : List Byte :=
  let e := l.sec.sessions.find? (fun e => decide (e.binding.toNat < 32))
  let b := withCrc (packetBytes 3 1 (0x80 + (if e.isSome then 0x40 else 0)) 0x0703 (BitVec.ofNat 16 l.net.mtrx) n.code l.epoch
    ((e.map (·.num)).getD 0) 0 ([0, BitVec.ofNat 8 (n.num * 16), 0, 0] ++ beBytes 2 64 ++ beBytes 2 (16 * j) ++ piece))
  match e with
  | some e => b ++ beBytes 8 (macOf e.kRep (.hiolo (e.binding.setWidth 5)) l.tag true b).toNat
  | none => b

/-- The compare slots a lane's next status reports as fired (R231). -/
def LaneSt.firedSlots (l : LaneSt) : List (BitVec 2 × Dword × Dword) :=
  [(0, l.c0), (1, l.c1), (2, l.c2), (3, l.c3)].filterMap (fun (e : BitVec 2 × SlotSt) =>
    if e.2.report then some (e.1, e.2.latchT, e.2.latchV) else none)

/-- The filtered state of SW2 while it is valid (R229). -/
def LaneSt.sw2Report (l : LaneSt) : Option Bool := if l.swValid .sw2 then some l.sw2.state else none

/-- A lane latches its status: the mode status word, at matrix positions 0 to 3 the piece of its health record, its replies in order
as many as fit, then the relayed packets (R343, R389); SW2 and the compare slots fired since (R229, R231). DESIGN CHOICE: the manual
gives these two no place in the layout of R343, so they stand beside the payload. -/
def State.latchStatus (s : State) (n : Lane) (room : Nat) : State :=
  let l := s.lane n
  let j := s.matrixPos n
  let head := match l.ctr.pieces with
    | p :: _ => if j < 4 then l.piecePacket n j p else []
    | [] => []
  let q := fitPackets (room - 8 - head.length) (l.net.replies.map (·.2))
  let own := beBytes 8 s.modeWord.toNat ++ head ++ q.1.flatten
  let a := if l.net.integrated then s.appendRelay n n.lower (room - own.length) else (s, [])
  let b := if l.net.integrated then a.1.appendRelay n n.upper (room - own.length - a.2.length) else (a.1, [])
  b.1.onLane n (fun l => { l with
    c0 := { l.c0 with report := false }, c1 := { l.c1 with report := false }
    c2 := { l.c2 with report := false }, c3 := { l.c3 with report := false }
    ctr := { l.ctr with pieces := if head.isEmpty then l.ctr.pieces else l.ctr.pieces.drop 1 }
    net := { l.net with
      sent := own ++ a.2 ++ b.2, sentNull := false, fresh := l.net.fresh + 1, tx := none
      sentSw2 := l.sw2Report, sentFires := l.firedSlots, replies := l.net.replies.drop q.1.length } })

/-- Each integrated channel carries the frame, but for a channel under cable measurement, whose pulse takes its place (R297,
R380). -/
def State.transmit (s : State) (n : Lane) (w p : Nat) (null : Bool) : State :=
  let l := s.lane n
  let payload := if null then [] else l.net.sent
  [Chan.x, .y].foldl (fun s c =>
    if (l.net.chan c).state ≠ 3 ∨ (s.meas.cableOn = true ∧ s.meas.cableLane = n ∧ s.meas.cableChan = c) then s
    else s.onChan n c (fun k => { k with frame := some (l.frame n c w p null false payload) })) s

/-- A relayed lane hands its status to its relaying peer as an item of type 0x11 (R299, R300). -/
def State.relayStatus (s : State) (n p : Lane) : State :=
  let l := s.lane n
  s.onLink p n (·.pushStatus (statusItem l.epoch l.net.fresh l.net.sent))

/-- A channel's Shutter blocks a transmit request outside the lane's window (R315): it counts, and the second of a matrix cycle
makes the channel Passive. -/
def State.block (s : State) (n : Lane) (c : Chan) : State :=
  if ((s.lane n).net.chan c).state = 3 then
    let s := s.onChan n c (fun k => { k with cBlocked := satInc k.cBlocked, blocked := k.blocked + 1 })
    if 2 ≤ ((s.lane n).net.chan c).blocked then s.passiveChan n c 6 else s
  else s

/-- A reflectometry pulse takes the place of the frame on the channel under measurement (R380). -/
def State.pulse (s : State) (n : Lane) : State :=
  if s.meas.cableOn = true ∧ s.meas.cableLane = n ∧ ((s.lane n).net.chan s.meas.cableChan).state = 3 then
    s.onChan n s.meas.cableChan (fun k => { k with tdrPulses := k.tdrPulses + 1 })
  else s

/-- What waits for the Leader's replies to have left: the way to Dormant and the restart after FW_ACTIVATE (R267, R441). -/
def State.repliesLeft (s : State) (n : Lane) : State :=
  if (s.lane n).role = .leader ∧ (s.lane n).net.replies = [] then
    let s := if s.m.dormReq then s.onM (fun m => { m with dormSent := true }) else s
    if s.m.fwReq then s.restartModule else s
  else s

/-- STATUS_FRAME_SEND (R281 to R283, R286, R297, R300, R315, R343, R380): at its exclusive window the lane sends its status frame, or a
null frame when its transmit buffer holds nothing new; a relayed lane hands the status to its relaying peer and stays silent. A
module held in Boot sends none (R268). -/
def execStatusFrameSend (t : Nat) (n : Lane) (s : State) : Host.Outcome State Fault Refusal :=
  let s := s.at_ t
  let l := s.lane n
  let T := s.meridian n
  match l.netRuns, ownWindow l.net.almanac (matrixPos T) (l.nodeId n) with
  | true, some w =>
    let open_ := decide (winStart l.net.almanac w ≤ cycleOffset T + 4000) && decide (cycleOffset T < winEnd l.net.almanac w)
    if open_ = false ∧ l.net.integrated = true then done ((s.block n .x).block n .y)
    else if open_ = false ∨ (s.m.mode = .boot ∧ s.m.held = true) then done s
    else
      let room := pMax (almLen l.net.almanac w)
      let s := s.pulse n
      if l.net.integrated then
        if l.net.tx.isSome then done (((s.latchStatus n room).transmit n w (matrixPos T) false).repliesLeft n)
        else done ((s.onNet n (fun x => { x with sentNull := true })).transmit n w (matrixPos T) true)
      else match s.relayPeer n with
        | some p => done (if l.net.tx.isSome then ((s.latchStatus n room).relayStatus n p).repliesLeft n else s)
        | none => done s
  | _, _ => done s

/-! ### The Meridian (R306 to R313) -/

/-- Recorded and kept deviations follow a change of the Meridian. -/
def SrcVal.shift (v : SrcVal) (d : Int) : SrcVal :=
  { v with x := v.x.map (· + d), y := v.y.map (· + d), kept := v.kept.map (· + d) }

/-- The Meridian is re-anchored at an instant with a rate, and a slew that ends at an instant. -/
def TimeSt.anchor (x : TimeSt) (now : Nat) (rate slew : Rat) (slewEnd : Nat) : TimeSt :=
  { x with base := x.reading now, since := now, rate := rate, slew := slew, slewEnd := slewEnd }

/-- The Meridian steps; what has been recorded steps with it (R312). -/
def TimeSt.step (x : TimeSt) (now : Nat) (d : Int) : TimeSt :=
  let y := (x.anchor now x.rate 0 now).onSources (·.shift d)
  { y with base := y.base + d, taken := true }

/-- A lane's Meridian steps and the lane logs TIME_STEP (R312, R322). -/
def State.stepTime (s : State) (n : Lane) (addr : Word) (d : Int) : State :=
  let now := s.now
  (s.onLane n (fun l => { l with
    time := l.time.step now d
    lo := { l.lo with timeRx := l.lo.timeRx + d }, hi := { l.hi with timeRx := l.hi.timeRx + d } })).log n 0x0B0E addr
    (BitVec.ofInt 64 d)

/-- One basic cycle's recorded deviations become the kept value of a source; an old value ages out (R309). -/
def SrcVal.keep (v : SrcVal) (maxAge : Nat) : SrcVal :=
  match v.x, v.y with
  | some a, some b => { kept := some (roundAway (((a + b : Int) : Rat) / 2)) }
  | some a, none => { kept := some a }
  | none, some b => { kept := some b }
  | none, none => if maxAge ≤ v.age then {} else { v with age := v.age + 1 }

/-- An integer into a sorted list. -/
def insertSorted (a : Int) : List Int → List Int
  | [] => [a]
  | b :: r => if a ≤ b then a :: b :: r else b :: insertSorted a r

/-- The fault-tolerant midpoint (R310): of the extremes, after one is dropped at each end of three or more. -/
def midpoint (vs : List Int) (drop : Bool) : Option Rat :=
  let v := vs.foldr insertSorted []
  let v := if drop && decide (3 ≤ v.length) then (v.drop 1).dropLast else v
  match v.head?, v.getLast? with
  | some a, some b => some (((a + b : Int) : Rat) / 2)
  | _, _ => none

/-- The deviation of a peer's newest item, while it is of the present basic cycle (R322). -/
def LinkIn.peerTime (k : LinkIn) (now : Nat) : Option Int :=
  match k.time with
  | some (d, _, a) => if now ≤ a + 1000000 then some d else none
  | none => none

/-- A channel's agreement and deviation counts after an offset correction (R312, R318). -/
def ChanSt.afterCorrection (k : ChanSt) (used : Bool) (ok : Bool) (far : Bool) : ChanSt :=
  { k with agree := if k.state = 1 ∨ k.state = 4 then (if used && ok then k.agree + 1 else 0) else k.agree
           big := if k.state = 4 ∧ far = true then k.big + 1 else 0 }

/-- OFFSET_CORRECTION (R307, R309, R310, R313, R322): the midpoint of the kept source values, or for a lane without an
integrated channel of its peers' times, is slewed out before the next basic cycle; beyond NET.MAX_CORRECTION the lane goes
Passive and slews by that limit only. -/
def execOffsetCorrection (t : Nat) (n : Lane) (s : State) : Host.Outcome State Fault Refusal :=
  let s := s.at_ t
  let now := s.now
  if (s.lane n).netRuns = false then done s
  else
    let l := s.lane n
    let limit : Rat := 1000 * l.val Key.netMaxCorrection
    let age := l.codeN Key.netSyncAge
    let x := l.time.onSources (·.keep age)
    let kept := [x.s0.kept, x.s1.kept, x.s2.kept, x.s3.kept].filterMap id
    let peers := if l.net.integrated then [] else [l.lo.peerTime now, l.hi.peerTime now].filterMap id
    let mid := if peers.isEmpty then midpoint kept true else midpoint peers false
    let raw : Rat := -(mid.getD 0)
    let c := roundAway (clampQ (-limit) limit raw)
    let over_ := decide (limit < absQ raw)
    let used := !kept.isEmpty
    let remain := 1000000 - cycleOffset (x.reading now)
    let y := x.anchor now x.rate ((c : Rat) / (remain : Rat)) (now + remain)
    let y := y.onSources (fun v => { v with kept := v.kept.map (· + c) })
    let y := { y with
      lastC := c, sumC := y.sumC + c, noSource := if used then 0 else y.noSource + 1, used := used
      fromPeer := !l.net.integrated && y.fromPeer && !peers.isEmpty }
    let far := used && kept.all (fun d => decide (4000 < absQ d))
    let s := s.onLane n (fun l => { l with
      time := y
      net := { l.net with x := l.net.x.afterCorrection used (!over_) far, y := l.net.y.afterCorrection used (!over_) far } })
    let s := s.reviewSync n
    done (if over_ then s.passiveLane n 1 else s)

/-- RATE_CORRECTION (R310): at the matrix-cycle start the rate takes the summed corrections over 64 ms; two matrix cycles at a
limit make the lane Passive; the blocked requests of the Shutters count anew (R314). -/
def execRateCorrection (t : Nat) (n : Lane) (s : State) : Host.Outcome State Fault Refusal :=
  let s := s.at_ t
  let now := s.now
  if (s.lane n).netRuns = false then done s
  else
    let l := s.lane n
    let limit : Rat := l.val Key.netRateLimit / 1000000
    let r := clampQ (-limit) limit (l.time.rate + (l.time.sumC : Rat) / 64000000)
    let y := l.time.anchor now r l.time.slew l.time.slewEnd
    let y := { y with sumC := 0, atLimit := if absQ r = limit then y.atLimit + 1 else 0 }
    let s := s.onLane n (fun l => { l with
      time := y, net := { l.net with x := { l.net.x with blocked := 0 }, y := { l.net.y with blocked := 0 } } })
    done (if 2 ≤ y.atLimit then s.passiveLane n 3 else s)

/-- The difference e in ns between the Meridian's pulse and the Shutter's predicted start (R315): of the length since the last pulse it
aligned to and the length K, both in ticks of 50 ns with an 8-bit fraction. -/
def ChanSt.phaseError (x : ChanSt) (k : Nat) : Rat := ((k : Rat) - x.kTicks) * 50 / 256

/-- A phase check that passed (R315): after 32 in one matrix cycle K is their mean; position 0 begins the next. DEDUCED: a re-measured K is
the mean of the 32 lengths, rounded to nearest. -/
def ChanSt.aligned (x : ChanSt) (k : Nat) (first : Bool) : ChanSt :=
  let sum := x.kSum + k
  if first then
    { x with
      kTicks := if x.phaseOk && x.kCount == 31 then (sum + 16) / 32 else x.kTicks
      kSum := 0, kCount := 0, phaseOk := true }
  else { x with kSum := sum, kCount := x.kCount + 1 }

/-- The enable line of a Shutter read back (R388, R386): high outside the lane's windows for more than 50 ns, it marks the channel. -/
def State.checkEnable (s : State) (n : Lane) (c : Chan) (high : Nat) : State :=
  let k := match c with | .x => 6 | .y => 7
  if s.testsBackground n && decide (50 < high) && !(s.lane n).mapBit k then
    (s.failBits n [k] (fun _ => BitVec.ofNat 64 (2 ^ mapTest k * 2 ^ 56))).onLane n LaneSt.obeyMap
  else s

/-- SHUTTER_PHASE_CHECK (R315, R388) at a basic-cycle start, k the length since the pulse before in ticks of the Shutter's clock with an
8-bit fraction, high the ns its enable line stood high outside the lane's windows: within 4 us the Shutter re-aligns; beyond, it closes and
the channel goes Passive. In Listen it measures K. -/
def execShutterPhaseCheck (t : Nat) (n : Lane) (c : Chan) (k : Nat) (high : Nat) (s : State) :
    Host.Outcome State Fault Refusal :=
  let s := (s.at_ t).checkEnable n c high
  let x := (s.lane n).net.chan c
  if (s.lane n).netRuns = false then done s
  else if x.state = 1 ∨ x.kTicks = 0 then done (s.onChan n c (fun x => { x with kTicks := k, kSum := 0, kCount := 0, phaseOk := true }))
  else if x.state = 2 ∨ x.state = 3 then
    let first := decide (s.matrixPos n = 0)
    if absQ (x.phaseError k) ≤ 4000 then done (s.onChan n c (·.aligned k first))
    else done ((s.onChan n c (fun x => { x with phaseOk := false, kSum := 0, kCount := 0 })).passiveChan n c 2)
  else done s

/-- SYNC_HOLDOVER (R313): NET.SYNC_HOLDOVER basic cycles without a source value make the lane Passive. -/
def execSyncHoldover (t : Nat) (n : Lane) (s : State) : Host.Outcome State Fault Refusal :=
  let s := s.at_ t
  let l := s.lane n
  done (if l.netRuns = true ∧ l.codeN Key.netSyncHoldover ≤ l.time.noSource then s.passiveLane n 4 else s)

/-- A Passive channel restarts from Listen (R312). -/
def ChanSt.relisten (k : ChanSt) : ChanSt := if k.state = 4 then { k with state := 1, agree := 0, big := 0 } else k

/-- TIME_STEP (R312): in Listen the first used reference frame sets the Meridian; in Ready and Service a Passive lane whose
deviations all exceeded 4 us for 8 basic cycles steps to the midpoint and listens again. -/
def execTimeStep (t : Nat) (n : Lane) (c : Chan) (s : State) : Host.Outcome State Fault Refusal :=
  let s := s.at_ t
  let l := s.lane n
  let k := l.net.chan c
  let x := l.time
  if l.netRuns = false then done s
  else if k.state = 1 ∧ x.synced = false ∧ x.taken = false then
    match [x.s0, x.s1, x.s2, x.s3].filterMap (·.on c) with
    | d :: _ => done (s.stepTime n (BitVec.ofNat 32 c.num) (-d))
    | [] => done s
  else if k.state = 4 ∧ 8 ≤ k.big ∧ (s.m.mode = .ready ∨ s.m.mode = .service) then
    match midpoint ([x.s0.kept, x.s1.kept, x.s2.kept, x.s3.kept].filterMap id) true with
    | some d =>
      let s := s.stepTime n (BitVec.ofNat 32 c.num) (roundAway (-d))
      done (s.onLane n (fun l => { l with
        time := { l.time with taken := false }, net := { l.net with x := l.net.x.relisten, y := l.net.y.relisten } }))
    | none => done s
  else done s

/-! ### Integration (R83, R317 to R320, R323) -/

/-- The lane's active Almanac equals the one that the lane it takes for Leader has reported (R295, R317). DESIGN CHOICE: nothing
holds a channel back before a report has come. -/
def State.almanacAgrees (s : State) (n : Lane) : Bool :=
  match (s.lane n).leader with
  | some k => k = n || (((s.link k n).sched.map (·.1)).getD (almId (s.lane n).net.almanac)) == almId (s.lane n).net.almanac
  | none => true

/-- The admission record matches the active schedule ID, the node identity and the module tag (R318). -/
def LaneSt.recordMatches (l : LaneSt) (n : Lane) : Bool :=
  l.net.adm == some (almId l.net.almanac, BitVec.ofNat 5 (l.nodeId n), BitVec.ofNat 8 l.tag)

/-- CHANNEL_INTEGRATED (R318): after L agreeing basic cycles, the last within 0.5 us, the channel leaves Listen or Passive. -/
def execChannelIntegrated (t : Nat) (n : Lane) (c : Chan) (s : State) : Host.Outcome State Fault Refusal :=
  let s := s.at_ t
  let l := s.lane n
  let k := l.net.chan c
  let known := (k.state == 4 && l.net.admitted) || (k.state == 1 && l.recordMatches n)
  let L := if k.state = 1 ∧ l.recordMatches n = true then l.codeN Key.netFastListen else 64
  if l.netRuns = true ∧ (k.state = 1 ∨ k.state = 4) ∧ L ≤ k.agree ∧ absQ l.time.lastC ≤ 500 ∧ s.almanacAgrees n = true then
    let now := s.now
    if known then
      let s := if k.state = 1 then s.onChan n c (fun k => { k with capsDue := true, capsSent := false }) else s
      done (s.integrate n c)
    else done (s.onChan n c (fun k => { k with state := 2, agree := 0, joinAt := now, joinLate := false, capsSent := false }))
  else done s

/-- JOIN_TIMEOUT (R319): logged once; the CAPS frames go on. -/
def execJoinTimeout (t : Nat) (n : Lane) (c : Chan) (s : State) : Host.Outcome State Fault Refusal :=
  let s := s.at_ t
  let l := s.lane n
  let k := l.net.chan c
  if l.netRuns = true ∧ k.state = 2 ∧ k.joinLate = false ∧ k.joinAt + ms (1000 * l.codeN Key.netJoinTimeout) ≤ t then
    done ((s.onChan n c (fun k => { k with joinLate := true })).log n 0x0508 (BitVec.ofNat 32 c.num))
  else done s

/-- PEER_SKEW (R323): a Meridian that differs from both synchronised, integrated peers by more than NET.PEER_SKEW for 2 basic
cycles, while they agree with each other, makes the lane Passive. -/
def execPeerSkew (t : Nat) (n : Lane) (s : State) : Host.Outcome State Fault Refusal :=
  let s := s.at_ t
  let l := s.lane n
  match l.lo.time, l.hi.time with
  | some (a, ia, _), some (b, ib, _) =>
    if l.netRuns = true ∧ l.net.integrated = true ∧ ia = true ∧ ib = true ∧ 2 ≤ l.lo.skew ∧ 2 ≤ l.hi.skew ∧
        absQ ((a - b : Int) : Rat) ≤ 1000 * l.val Key.netPeerSkew then
      done (s.passiveLane n 5)
    else done s
  | _, _ => done s

/-- CHANNEL_LOST (R83, R297): an enabled channel that has not been integrated for 2 matrix cycles is logged once. -/
def execChannelLost (t : Nat) (n : Lane) (c : Chan) (s : State) : Host.Outcome State Fault Refusal :=
  let s := s.at_ t
  let l := s.lane n
  let k := l.net.chan c
  let enabled := (l.codeN Key.netChannels).testBit c.num
  if l.netRuns = true ∧ enabled = true ∧ k.state ≠ 3 ∧ k.lostLog = false ∧ k.away + ms 64 ≤ t then
    done ((s.onChan n c (fun k => { k with lostLog := true })).log n 0x0501 (BitVec.ofNat 32 c.num))
  else done s

/-! ### The Almanac (R293, R295, R320) -/

/-- ALMANAC_SWITCH (R293, R320, R495): at the first matrix-cycle start at or after the activation time a synchronised lane makes the
pending Almanac active, and writes its admission record where a channel is integrated; where it has become synchronised later, at
the first start strictly after that. -/
def execAlmanacSwitch (t : Nat) (n : Lane) (s : State) : Host.Outcome State Fault Refusal :=
  let s := s.at_ t
  let l := s.lane n
  let T := s.meridian n
  match l.net.pendAlm with
  | some p =>
    if l.netRuns = true ∧ l.time.synced = true ∧ matrixPos T = 0 ∧ (almTime p : Int) ≤ T / 32000000 * 32000000 ∧
        l.net.switchAfter < T / 32000000 * 32000000 then
      let old := l.sources
      let s := s.onNet n (fun x => { x with actAlm := p, pendAlm := none, actSecond := !x.actSecond })
      let s := if (s.lane n).sources = old then s
        else s.onLane n (fun l => { l with time := l.time.onSources (fun _ => {}) })
      let s := if l.net.integrated then s.onLane n (·.recordAdmission n) else s
      done (s.log n 0x0B0D (almId p))
    else done s
  | none => done s

/-- ALMANAC_SEGMENT_ITEM (R292, R295): segments of the Leader's package in order; the complete package is checked and becomes
pending. The check of its activation time does not apply to the Almanac that is already active in the Leader. -/
def execAlmanacSegmentItem (t : Nat) (src : Lane) (dst : Lane) (g : Segment) (s : State) : Host.Outcome State Fault Refusal :=
  done ((s.at_ t).onItem src dst 0x12 (segmentItem 0x12 g.off g.data) (fun s i =>
    let l := s.lane dst
    let off := rd i 3 4
    let data := i.drop 7
    if l.netRuns = false ∨ (off ≠ 0 ∧ off ≠ l.net.almXfer.length) then s
    else
      let got := if off = 0 then data else l.net.almXfer ++ data
      if got.length < 64 ∨ got.length < 3437 + pkgBody got then s.onNet dst (fun x => { x with almXfer := got })
      else
        let pkg := got.take (3437 + pkgBody got)
        let b := pkgBodyBytes pkg
        let T := s.meridian dst
        let s := s.onNet dst (fun x => { x with almXfer := [] })
        let running := (s.link src dst).sched.map (·.1) == some (almId b)
        let now : Int := if running then (almTime b : Int) - 64000000 else T
        match l.pkgOrders [3] pkg with
        | some (order, o) => s.logRejected dst pkg order (BitVec.ofNat 32 (l.net.almBase + o))
        | none =>
          match checkAlmanac b l.nodeIds l.tag now with
          | some (_, o) => s.logRejected dst pkg 7 (BitVec.ofNat 32 (l.net.almBase + 64 + o))
          | none => (s.onLane dst (fun l => l.pendAlmanac pkg)).onNet dst (fun x => { x with switchAfter := T })))

/-- The stored Almanac package at a base address of a lane. -/
def LaneSt.storedPackage (l : LaneSt) (n : Lane) (base : Nat) : List Byte :=
  l.bytesAt n base (3437 + pkgBody (l.bytesAt n base 64))

/-- The package a peer lacks by its report: the active one where its active Almanac differs, else the pending one where that
differs (R295). The factory Almanac is no package. -/
def LaneSt.missingPackage (l : LaneSt) (n : Lane) (act pend : Word) : Option (List Byte) :=
  if act ≠ almId l.net.almanac then
    (if l.net.actAlm.isEmpty then none else some (l.storedPackage n l.net.almBases.1))
  else if l.net.pendAlm.isSome ∧ pend ≠ l.net.pendId then some (l.storedPackage n l.net.almBases.2)
  else none

/-- SCHEDULE_REPORT_ITEM (R295): kept as the peer's report; the Leader sends a lane that differs its package in items of type
0x12, unless such items still wait for that lane. -/
def execScheduleReportItem (t : Nat) (src : Lane) (dst : Lane) (act : Word) (pend : Word) (at_ : Dword) (s : State) : Host.Outcome State Fault Refusal :=
  done ((s.at_ t).onItem src dst 0x13 (scheduleItem act pend at_) (fun s b =>
    let act : Word := BitVec.ofNat 32 (rd b 3 4)
    let pend : Word := BitVec.ofNat 32 (rd b 7 4)
    let s := s.onLink src dst (fun k => { k with sched := some (act, pend, BitVec.ofNat 64 (rd b 11 8)) })
    if (s.lane dst).role ≠ .leader ∨ (s.link src dst).txq.any (fun i => itemType i == 0x12) = true then s
    else match (s.lane dst).missingPackage dst act pend with
      | some pkg => (segmentItems 0x12 pkg).foldl (fun s i => s.pushItem dst src i) s
      | none => s))

/-! ### Time from peers (R321 to R323) -/

/-- TIME_ITEM (R307, R321 to R323): a synchronised peer's deviation is kept; beyond NET.PEER_SKEW it counts; a lane whose time is
not synchronised and that has no integrated channel steps to it. -/
def execTimeItem (t : Nat) (src : Lane) (dst : Lane) (synced : Bool) (integ : Bool) (reading : Int) (s : State) : Host.Outcome State Fault Refusal :=
  done ((s.at_ t).onItem src dst 0x20 (timeItemBytes synced integ reading) (fun s b =>
    let now := s.now
    let l := s.lane dst
    let flags : Byte := BitVec.ofNat 8 (rd b 3 1)
    let integ := flags.getLsbD 1
    if l.netRuns = false then s
    else if flags.getLsbD 0 = false then
      let s := s.onLink src dst (fun k => { k with time := none, skew := 0 })
      let left := (s.link (src.third dst) dst).peerTime now
      (s.onLane dst (fun l => { l with time := { l.time with fromPeer := l.time.fromPeer && left.isSome } })).reviewSync dst
    else
      let delay : Nat := Config.linkDelay (BitVec.ofNat 2 src.num) (BitVec.ofNat 2 dst.num)
      let d : Int := (s.link src dst).timeRx - ((BitVec.ofNat 64 (rd b 4 8)).toInt + delay)
      let wide := decide (1000 * l.val Key.netPeerSkew < absQ d)
      let s := s.onLink src dst (fun k => { k with
        time := some (d, integ, now), skew := if integ && wide then k.skew + 1 else 0 })
      if l.net.integrated then s
      else
        let steps := !l.time.synced
        let s := if steps then s.stepTime dst 2 (-d) else s
        let s := if steps then s.onLink src dst (fun k => { k with time := some (0, integ, now), skew := 0 }) else s
        (s.onLane dst (fun l => { l with time := { l.time with fromPeer := true } })).reviewSync dst))

/-! ### Relay items (R300) -/

/-- INBOUND_FRAME_ITEM (R300): a relayed lane takes the frame into its receive triple buffer; the second peer's copy is a
duplicate. -/
def execInboundFrameItem (t : Nat) (src : Lane) (dst : Lane) (c : Chan) (f : HFrame) (s : State) : Host.Outcome State Fault Refusal :=
  done ((s.at_ t).onItem src dst 0x10 (inboundItem c f) (fun s b =>
    let l := s.lane dst
    if l.netRuns = true ∧ l.net.integrated = false then (s.takeCommand dst (frameOf (b.drop 4))).1 else s))

/-- OUTBOUND_STATUS_ITEM (R300): the relaying peer holds the relayed lane's status for its own frames; an older one still
waiting is overtaken. -/
def execOutboundStatusItem (t : Nat) (src : Lane) (dst : Lane) (epoch : Half) (fresh : Half) (payload : List Byte) (s : State) : Host.Outcome State Fault Refusal :=
  done ((s.at_ t).onItem src dst 0x11 (statusItem epoch fresh payload) (fun s b =>
    if (s.lane dst).netRuns = false then s
    else
      let now := s.now
      s.onLink src dst (fun k => { k with
        relayOut := some (BitVec.ofNat 16 (rd b 3 2), BitVec.ofNat 16 (rd b 5 2), b.drop 7, now)
        overOut := k.overOut + (if k.relayOut.isSome then 1 else 0) })))

/-- RELAY_ITEM_DROP (R300): what a newer item has overtaken counts, and a status item that has waited NET.RELAY_HOLD basic
cycles is dropped and counts. -/
def execRelayItemDrop (t : Nat) (n : Lane) (outbound : Bool) (s : State) : Host.Outcome State Fault Refusal :=
  let s := s.at_ t
  let hold := (s.lane n).codeN Key.netRelayHold
  let late := fun (k : LinkIn) => (k.relayOut.map (fun r => decide (r.2.2.2 + ms hold ≤ t))).getD false
  done ([n.lower, n.upper].foldl (fun s p =>
    let k := s.link p n
    let m := if outbound then k.overOut + (if late k then 1 else 0) else k.overIn
    let s := s.onLink p n (fun k => if outbound then { k with overOut := 0, relayOut := if late k then none else k.relayOut }
      else { k with overIn := 0 })
    s.onCtr n (fun c => { c with relayDrops := c.relayDrops + m })) s)

/-! ### The transceiver of the host port (R344, R466) -/

/-- HOST_PORT_SEGMENT_TIMEOUT (R344): more than 50 ms after its last segment a partial packet is discarded and counted. -/
def execHostPortSegmentTimeout (t : Nat) (s : State) : Host.Outcome State Fault Refusal :=
  let s := s.at_ t
  if s.host.index ≠ 0 ∧ s.host.partAt + ms 50 < t then
    done { s with host := { s.host with part := [], index := 0, cSeg := satInc s.host.cSeg } }
  else done s

/-- BUS_OFF_RECOVERY (R466): 128 x 11 recessive bits end bus-off. -/
def execBusOffRecovery (t : Nat) (bits : Nat) (s : State) : Host.Outcome State Fault Refusal :=
  let s := s.at_ t
  done (if 1408 ≤ bits then { s with host := { s.host with busOff := false, txErr := 0 } } else s)

/-- DOMINANT_TIMEOUT (R466): a level held for more than 4 ms is released; the error counter of ISO 11898-1 rises by 8, and
beyond 255 the bridge is bus-off. -/
def execDominantTimeout (t : Nat) (held : Nat) (s : State) : Host.Outcome State Fault Refusal :=
  let s := s.at_ t
  if ms 4 < held then
    let e := s.host.txErr + 8
    done { s with host := { s.host with dominant := false, txErr := e, busOff := s.host.busOff || decide (255 < e) } }
  else done { s with host := { s.host with dominant := true } }

end Sys2Proof.Machine
end

