-- ==== Sys2Proof/Machine/AppCycle.lean ====
section
/-! DEFINITION. The 1 kHz application cycle, which takes the freshest command frame apart and applies, answers or refuses its
packets (R23, R95, R335, R342, R498), and the segments of the host port (R344 to R346). -/

namespace Sys2Proof.Machine

/-! ### Opcode to operation -/

/-- The operations of groups Mode to Parameters. -/
def handlers1 : List (Half × Handler × PeerPart) := [
  (0x0101, handleModeRequest, noPart), (0x0102, handleModeStatus, noPart), (0x0110, handleEnableStatus, noPart),
  (0x0201, motionHandler chkSteerAngle effSteerAngle false, holdMotion chkSteerAngle),
  (0x0202, motionHandler chkSteerTorque effSteerTorque false, holdMotion chkSteerTorque),
  (0x0203, motionHandler chkSteerMoveAt effSteerMoveAt false, holdMotion chkSteerMoveAt),
  (0x0204, motionHandler chkSteerHold effSteerHold false, holdMotion chkSteerHold),
  (0x0301, motionHandler chkBrakeForce effBrakeForce true, holdMotion chkBrakeForce),
  (0x0302, motionHandler chkBrakePosition effBrakePosition true, holdMotion chkBrakePosition),
  (0x0303, motionHandler chkBrakeRelease effBrakeRelease true, holdMotion chkBrakeRelease),
  (0x0304, motionHandler chkBrakePark effBrakePark true, holdMotion chkBrakePark),
  (0x0401, handleProfileLimits, holdMotion chkProfileLimits),
  (0x0402, motionHandler chkVectorMove effVectorMove true, holdMotion chkVectorMove),
  (0x0501, handleParamRead, noPart), (0x0502, handleParamWrite, noPart), (0x0503, handleParamCommit, noPart),
  (0x0504, handleImageInfo, noPart)]

/-- The operations of groups Measurement to Arbitration. -/
def handlers2 : List (Half × Handler × PeerPart) := [
  (0x0601, handleMeasureLoad, noPart), (0x0602, handleMeasureCable, noPart), (0x0603, handleMeasureSupply, noPart),
  (0x0604, handleCapsExchange, peerCapsExchange), (0x0701, handleSelftestRun, noPart),
  (0x0702, handleSelftestResult, noPart), (0x0703, handleHealthRead, noPart), (0x0801, handleAttest, noPart),
  (0x0802, handleSessionOpen, noPart), (0x0803, handleSessionClose, noPart), (0x0804, handleKeyProvision, noPart),
  (0x0901, handleFwBegin, noPart), (0x0902, handleFwChunk, noPart), (0x0903, handleFwVerify, noPart),
  (0x0904, handleFwActivate, noPart), (0x0A01, handleTimeStatus, noPart), (0x0A02, handleScheduleLoad, noPart),
  (0x0B01, handleLogRead, noPart), (0x0B02, handleLogClear, noPart), (0x0C01, handleHomingStart, holdMotion chkHomingStart),
  (0x0C02, handleHomingStatus, noPart), (0x0C03, handleCompareSet, holdMotion chkCompareSet), (0x0D01, handleArbitrate, peerArbitrate),
  (0x0D02, handleQuench, peerQuench), (0x0D03, handleCalderaClear, noPart)]

/-- The operation of an opcode, with the part of the lanes that do not answer. An opcode outside the table fails order 8 before
its operation is asked for. -/
def handlerOf (op : Half) : Handler × PeerPart :=
  (((handlers1 ++ handlers2).find? (fun e => e.1 == op)).map (·.2)).getD (fun _ _ c => .err 0x10 c.opAddr, noPart)

/-! ### Requests kept while no lane led (R498) -/

/-- One kept request at a lane, now that a lane holds the Leader role: the Leader replies to a failure of orders 3 to 7, checks
orders 8 to 12 against the present mode and epoch, and answers; a motion command whose sequence number its profile engine
already carries, or an image or session change the old Leader had distributed, is not applied again. Every other lane does its own part. -/
def State.serveKept (s : State) (n : Lane) (q : Nat × Req × Half × Option (Byte × Word)) : State :=
  let r := q.2.1
  let op := q.2.2.1
  let l := s.lane n
  let h := handlerOf op
  let applied := (((opRow op).map (·.motion)).getD false && r.seq == l.prof.lastSeq) || l.spread.contains (r.session, r.seq, op)
  match q.2.2.2.or (l.orders8to12 s.m.mode op r) with
  | some e => if s.leader = some n then s.replyError n op r e.1 e.2 else s
  | none =>
    if applied then s
    else if s.leader = some n then
      match Lane.ofCode? r.target with
      | some k => if k ≠ n then s.replyError n op r 0x30 (laneAddr k) else (s.reply n op r (h.1 s n (l.call op r))).noteAccepted
      | none => (s.reply n op r (h.1 s n (l.call op r))).noteAccepted
    else h.2 s n (l.call op r)

/-- A lane works off what it has kept, in order of receipt, at its first application cycle under a Leader. -/
def State.serveQueue (s : State) (n : Lane) : State :=
  if s.leader.isNone then s
  else
    let q := (s.lane n).queue
    q.foldl (fun s e => s.serveKept n e) (s.onLane n (fun l => { l with queue := [] }))

/-! ### The packets of a command frame (R335, R342) -/

/-- A packet that failed order 1 or 2: the Leader answers, since its target byte cannot be trusted, and without a MAC, since it did
not reach order 6; with no Leader it is kept (R336, R350, R498). -/
def State.refuseBroken (s : State) (n : Lane) (st : Byte) (op : Half) (r : Req) : State :=
  let r := { r with mac := none }
  if r.isReply then s.onCtr n (fun c => { c with foreign := satInc c.foreign })
  else if s.m.mode = .dormant ∨ s.m.mode = .boot then s
  else if s.leader = some n then s.replyError n op r st (op.setWidth 32)
  else if s.leader.isNone then s.onLane n (fun l => { l with queue := l.queue ++ [(s.now, r, op, some (st, op.setWidth 32))] })
  else s

/-- One parsed packet at a lane. -/
def State.takePacket (s : State) (n : Lane) (x : Parsed) : State :=
  match x with
  | .packet op r _ => s.fcpLane n (s.answerer r) op r (handlerOf op).1 (handlerOf op).2
  | .broken st op r => s.refuseBroken n st op r

/-- The packets of the module blocks a frame holds for a lane, in order, and whether a block overran the payload. -/
def LaneSt.packetsOf (l : LaneSt) (f : HFrame) (now : Nat) : List Parsed × Bool :=
  let b := blocksFor l.tag 350 (f.payload.take f.plen.toNat)
  ((b.1.map (fun x => parseBlock now (.hiolo f.sender) 71 x)).flatten, b.2)

/-- A packet that makes its frame a fresh command (R23, R67, R95): its CRC holds, its CMAC holds where it belongs to a session, and it
is not answered with ERR_EPOCH. -/
def LaneSt.freshPacket (l : LaneSt) (md : Mode) : Parsed → Bool
  | .packet op r _ => (r.session == 0 || l.macOk op r) && (l.check md op r).map (·.1) != some 0x17
  | .broken _ _ _ => false

/-- The Leader counts application cycles without a fresh command in Run and Limp (R95). -/
def State.countFresh (s : State) (n : Lane) (fresh : Bool) : State :=
  if s.leader = some n ∧ (s.m.mode = .run ∨ s.m.mode = .limp) then
    let now := s.now
    s.onM (fun m => if fresh then { m with missed := 0, freshAt := now } else { m with missed := m.missed + 1 })
  else s

/-- APPLICATION_CYCLE (R23, R95, R335, R342, R498): the cycle starts in time for the watchdog, serves what was kept without a
Leader, takes the unread command frame apart, counts missing commands, and writes the status into the transmit buffer. -/
def execApplicationCycle (t : Nat) (n : Lane) (s : State) : Host.Outcome State Fault Refusal :=
  let s := s.at_ t
  if (s.lane n).netRuns = false then done s
  else
    let s := ((s.onRst n (fun r => { r with appAt := t })).reviewRelay n).serveQueue n
    let l := s.lane n
    let s : State := match l.net.rx, l.net.rxOld with
      | some f, false =>
        let p := l.packetsOf f t
        let fresh := p.1.any (l.freshPacket s.m.mode)
        let s := s.onNet n (fun x => { x with rxOld := true })
        let s := if p.2 then s.onCtr n (fun c => { c with foreign := satInc c.foreign }) else s
        (p.1.foldl (fun (s : State) x => s.takePacket n x) s).countFresh n fresh
      | _, _ => s.countFresh n false
    let s : State := if s.leader = some n then s.answerQuench n else s
    done (s.onNet n (fun x => { x with tx := some (x.replies.map (·.2)) }))

/-! ### The host port (R344 to R346) -/

/-- A partial packet is discarded without a reply and counted (R344). -/
def HostSt.drop (h : HostSt) : HostSt := if h.index = 0 then h else { h with part := [], index := 0, cSeg := satInc h.cSeg }

/-- With no Leader every running lane keeps a request of the host port that the Leader would refuse (R498). -/
def State.keepBroken (s : State) (st : Byte) (op : Half) (r : Req) : State :=
  s.forLanes (fun s n =>
    if (s.lane n).state = .off ∨ (s.lane n).rst.inReset = true ∨ s.m.mode = .dormant ∨ s.m.mode = .boot then s
    else s.onLane n (fun l => { l with queue := l.queue ++ [(s.now, { r with mac := none }, op, some (st, op.setWidth 32))] }))

/-- The host-port bridge is supplied: at least one lane supply lies from 10.0 to 60.0 V (R15, R408). -/
def State.hostFed (s : State) : Bool :=
  allLanes.any (fun n => decide (10000 ≤ (s.lane n).sup.vsup) && decide ((s.lane n).sup.vsup ≤ 60000))

/-- A whole request of the host port: the answering lane's reply goes out by it; a request that waits for a Leader or for an
operation keeps the port taken (R344). -/
def State.hostRequest (s : State) (b : List Byte) : State :=
  match parsePacket s.now .host b with
  | .broken st op r =>
    match s.leader with
    | some n => s.refuseBroken n st op r
    | none => { s.keepBroken st op r with host := { s.host with busy := true } }
  | .packet op r _ =>
    let waits := !r.isReply && takesIn s.m.mode op r && (s.answerer r).isNone
    let s := { s with host := { s.host with busy := s.host.busy || waits } }
    let s := s.fcp op r (handlerOf op).1 (handlerOf op).2
    if s.m.fwReq then s.restartModule else s

/-- A request that begins before the reply to the previous one has been sent receives ERR_BUSY (R344). -/
def State.hostBusy (s : State) (b : List Byte) : State :=
  let r : Req :=
      { at_ := s.now, carriage := .host, verMajor := BitVec.ofNat 8 (rd b 0 1), verMinor := BitVec.ofNat 8 (rd b 1 1),
        flags := BitVec.ofNat 8 (rd b 2 1), seq := BitVec.ofNat 16 (rd b 5 2), target := BitVec.ofNat 8 (rd b 7 1),
        epoch := BitVec.ofNat 16 (rd b 8 2), session := BitVec.ofNat 16 (rd b 12 2), reserved := 0, params := [], mac := none }
  let op : Half := BitVec.ofNat 16 (rd b 3 2)
  match s.leader with
  | none => s.keepBroken 0x18 op r
  | some n =>
    let s := s.replyError n op r 0x18 (op.setWidth 32)
    { s with host := { s.host with busy := true } }

/-- HOST_PORT_FRAME (R15, R344, R345, R408): one 64-byte CAN FD frame with the module's identifier adds a segment; a missing or repeated
index discards the partial packet; the last segment completes the request. -/
def execHostPortFrame (t : Nat) (id : BitVec 29) (fd : Bool) (data : List Byte) (s : State) :
    Host.Outcome State Fault Refusal :=
  let s := s.at_ t
  let b0 := rd data 0 1
  let first := decide (128 ≤ b0)
  let last := decide (64 ≤ b0 % 128)
  let idx := b0 % 64
  let mine := id.toNat == 0x1C4F0000 + (s.lane s.scribe).tag * 0x100
  let open_ := (s.m.mode == .ready || s.m.mode == .service) && !s.host.silent && !s.host.busOff && s.hostFed
  if (open_ && fd && mine && data.length == 64) = false then done s
  else
    let s := if s.host.partAt + ms 50 < t then { s with host := s.host.drop } else s
    let body := data.drop 1
    if first && idx == 0 then
      let s := { s with host := s.host.drop }
      if s.host.busy then done (s.hostBusy body)
      else if last then done (s.hostRequest body)
      else done { s with host := { s.host with part := body, index := 1, partAt := t } }
    else if s.host.index = 0 then done s
    else if first || idx != s.host.index then done { s with host := s.host.drop }
    else
      let b := s.host.part ++ body
      if last then done (State.hostRequest { s with host := { s.host with part := [], index := 0 } } b)
      else done { s with host := { s.host with part := b, index := s.host.index + 1, partAt := t } }

end Sys2Proof.Machine
end

