-- ==== Sys2Proof/Machine/Legs.lean ====
section
/-! DEFINITION. Protection and diagnostics of phase legs and sets: interlock, di/dt, overcurrent, bootstrap, gate servo and
the off-state test (Power Legs, Gate Drive and Leg Protection). -/

namespace Sys2Proof.Machine

/-- A leg is taken high-impedance (R112): it stays so until an off-state test; the set's share goes to zero while its other
legs keep switching; the lane's own shares re-form at once, its peers' from its next frame (R172). -/
def State.tripLeg (s : State) (n : Lane) (x : Axis) (p : Phase) : State :=
  let s := s.onSet n x (fun c =>
    { (c.onLeg p (fun g => { g with tripped := true, refresh := false })) with unusable := true, share := 0 })
  (s.lostSet n).checkLimp

/-- A lane's legs are driven: it runs and the set switches. -/
def State.driven (s : State) (n : Lane) (x : Axis) : Bool := !(s.lane n).rst.inReset && ((s.lane n).set x).switching

/-- LEG_INTERLOCK (R111): both commands of a leg asserted together. -/
def execLegInterlock (t : Nat) (n : Lane) (x : Axis) (p : Phase) (s : State) : Host.Outcome State Fault Refusal :=
  let s := s.at_ t
  if (s.lane n).rst.inReset then done s else done ((s.log n 0x0202 (legAddr n x p)).tripLeg n x p)

/-- The di/dt threshold of a switch some ns after its newest turn-on command (R118): that of the edge window, which lasts SLEW_TARGET and
4 ns, or the one outside it. -/
def LaneSt.didtLimit (l : LaneSt) (since : Nat) : Rat :=
  l.val (if (since : Rat) < l.val Key.gateSlewTarget + 4 then Key.legDidtEdge else Key.legDidtLimit)

/-- LEG_DIDT (R118): di/dt beyond the threshold for 5 ns. DEDUCED: the 5 ns hold inside an edge window too, where the manual states
another threshold and nothing else. -/
def execLegDidt (t : Nat) (n : Lane) (x : Axis) (p : Phase) (didt : Rat) (since : Nat) (held : Nat) (s : State) :
    Host.Outcome State Fault Refusal :=
  let s := s.at_ t
  if s.driven n x && decide ((s.lane n).didtLimit since < didt) && decide (5 ≤ held) then
    done ((s.log n 0x0201 (legAddr n x p)).tripLeg n x p)
  else done s

/-- The current of a switch in A from its sense current in uA, at 1:5,000 (R119). -/
def cellAmps (ua : Int) : Rat := (ua : Rat) * 5000 / 1000000

/-- For how many ns a comparison has held since the blanking of 40 ns after the switch's newest commanded edge (R119). -/
def unblanked (held since : Nat) : Nat := min held (since - 40)

/-- SET_OVERCURRENT (R119): a switch current above the set threshold for 30 ns outside the blanking; the set goes high-impedance and is
marked in the persistent map. -/
def execSetOvercurrent (t : Nat) (n : Lane) (x : Axis) (i : Int) (held : Nat) (since : Nat) (s : State) :
    Host.Outcome State Fault Refusal :=
  let s := s.at_ t
  let l := s.lane n
  let lim := l.val (match x with | .s => Key.setOcS | .b => Key.setOcB)
  if !l.rst.inReset && decide (30 ≤ unblanked held since) && decide (lim < absQ (cellAmps i)) then
    let s := ((s.onSet n x SetSt.floatLegs).markBit n x.mapBit).log n 0x0301 (setAddr n x)
    done (s.lostSet n).checkLimp
  else done s

/-- BOOTSTRAP_REFRESH (R115): below 4.30 V undervoltage is signalled and a refresh is due in the next period; above 4.50 V the signal
clears, and a refresh that is due still takes place. -/
def execBootstrapRefresh (t : Nat) (n : Lane) (x : Axis) (p : Phase) (mv : Nat) (s : State) :
    Host.Outcome State Fault Refusal :=
  let s := s.at_ t
  if mv < 4300 then
    done (s.onSet n x (·.onLeg p (fun g => { g with uv := true, refresh := true, uvPeriods := if g.uv then g.uvPeriods else 0 })))
  else if 4500 < mv then
    done (s.onSet n x (·.onLeg p (fun g => { g with uv := false, uvPeriods := 0 })))
  else done s

/-- BOOT_UV (R116): still below 4.50 V at the end of the fourth period after the one in which undervoltage was first signalled. -/
def execBootUv (t : Nat) (n : Lane) (x : Axis) (p : Phase) (mv : Nat) (s : State) : Host.Outcome State Fault Refusal :=
  let s := s.at_ t
  let g := ((s.lane n).set x).leg p
  if s.driven n x && g.uv && !g.tripped && decide (5 ≤ g.uvPeriods) && decide (mv < 4500) then
    done ((s.log n 0x0203 (legAddr n x p)).tripLeg n x p)
  else done s

/-- GATE_SERVO_SATURATION (R107): saturation of a code for 64 consecutive gate-controlled edges counts once; the leg keeps switching. -/
def execGateServoSaturation (t : Nat) (n : Lane) (x : Axis) (p : Phase) (s : State) : Host.Outcome State Fault Refusal :=
  done ((s.at_ t).onSet n x (·.onLeg p (fun g =>
    let full := g.satRuns.filter (fun r => decide (64 ≤ r.2.2))
    { g with satCount := full.foldl (fun a _ => satInc a) g.satCount, satRuns := g.satRuns.filter (fun r => decide (r.2.2 < 64)) })))

/-! ### The off-state test (R122 to R126) -/


/-- The value of one phase. -/
def threeAt (v : Three) : Phase → Int
  | .u => v.u
  | .v => v.v
  | .w => v.w

/-- The three phases. -/
def phases : List Phase := [.u, .v, .w]

/-- The readings of the step that injects a phase (R123). -/
def stepOf (m : SetReadings) : Phase → Three
  | .u => m.d1
  | .v => m.d2
  | .w => m.d3

/-- The codes of other terminals at 4.0 V or more in that step. -/
def othersOf (m : SetReadings) : Phase → List Byte
  | .u => m.other1
  | .v => m.other2
  | .w => m.other3

/-- The set stands still: every line-to-line voltage stays below 0.5 V during the first 200 us of D0 (R123). -/
def stillReadings (m : SetReadings) : Bool :=
  m.early.all (fun d => decide (absQ (d.u - d.v) < 500) && decide (absQ (d.v - d.w) < 500) && decide (absQ (d.w - d.u) < 500))

/-- The findings of a set at standstill, each a kind, the terminal concerned and the leg code of a second one, 0 for none
(R124). -/
def findingsOf (n : Lane) (m : SetReadings) : List (Nat × Phase × Nat) :=
  let k1 := (phases.filter (fun p => decide (500 ≤ threeAt m.d0 p))).map (fun p => (1, p, 0))
  let k2 := (phases.filter (fun p => decide (threeAt (stepOf m p) p < 4000))).map (fun p => (2, p, 0))
  let k3 := (phases.filter (fun p => (phases.filter (· != p)).all (fun q =>
    decide (threeAt (stepOf m q) p < 500) && decide (4000 ≤ threeAt (stepOf m q) q)))).map (fun p => (3, p, 0))
  let k45 := (phases.map (fun p => (othersOf m p).map (fun c =>
    ((if c.toNat / 16 = n.num then 4 else 5), p, c.toNat)))).flatten
  k1 ++ k2 ++ k3 ++ k45

/-- Findings are logged one by one; three open terminals once, with the set code (R124, R125). -/
def State.logFindings (s : State) (n : Lane) (x : Axis) (fs : List (Nat × Phase × Nat)) : State :=
  let opens := fs.filter (fun f => f.1 == 3)
  let s := if opens.length = 3 then s.log n 0x0204 (setAddr n x) (BitVec.ofNat 64 (3 * 2 ^ 56)) else s
  (if opens.length = 3 then fs.filter (fun f => f.1 != 3) else fs).foldl (fun s f =>
    s.log n 0x0204 (legAddr n x f.2.1) (BitVec.ofNat 64 (f.1 * 2 ^ 56 + f.2.2 * 2 ^ 48))) s

/-- A set with a finding is unusable until a later test passes; a set without is usable again (R112, R124). -/
def SetSt.judged (c : SetSt) (ok : Bool) : SetSt :=
  if ok then { c.onLegs (fun g => { g with tripped := false }) with unusable := false } else { c with unusable := true }

/-- One set's part of the off-state test; a turning set waits for catch-spin (R123, R125). -/
def State.testSet (s : State) (n : Lane) (x : Axis) (m : SetReadings) : State :=
  if stillReadings m = false then s
  else
    let fs := findingsOf n m
    (s.logFindings n x fs).onSet n x (·.judged fs.isEmpty)

/-- The Geyser's part (R126): open resistor, short to a supply, resistance out of range with the link at 26 V or more. DESIGN CHOICE: with
the link below 26 V, where step 3 is not run, the resistance field of an entry is 0, and a slot without a finding clears an earlier mark
as well; the manual does not say. -/
def State.testGeyser (s : State) (n : Lane) (m : OffStateSample) : State :=
  let nom := (s.lane n).val Key.geyserRNominal
  let r : Rat := (m.link : Rat) / (m.pulseI : Rat)
  let k3 := decide (26000 ≤ m.link) && (m.pulseI == 0 || decide (r < 9 / 5) || decide (r < nom * 3 / 4) || decide (nom * 5 / 4 < r))
  let rr := if m.link < 26000 then 0 else if m.pulseI = 0 then 0xFFFF else (roundAway (100 * r)).toNat
  let s := s.onGey n (fun g => { g with bad := false })
  let s := if 4000 ≤ m.geyInj then s.failGeyser n 1 rr else s
  let s := if 500 ≤ m.geyOff then s.failGeyser n 2 rr else s
  if k3 then s.failGeyser n 3 rr else s

/-- The lane whose slot is next at Run entry: the first Active lane in lane order that has not been tested (R122). -/
def State.nextSlot (s : State) : Option Lane := s.actives.find? (fun n => !s.m.diag.contains n)

/-- OFF_STATE_DIAGNOSTICS (R122 to R126): the slot of a lane at Run entry in lane order, or of a lane in step 3 of its
rejoin. After the last Active lane catch-spin begins (R179). -/
def execOffStateDiagnostics (t : Nat) (n : Lane) (m : OffStateSample) (s : State) : Host.Outcome State Fault Refusal :=
  let s := s.at_ t
  let entry := s.m.runEntry == 1 && s.nextSlot == some n
  let rejoin := (s.lane n).state == .rejoining && (s.lane n).rejoin.step == 3
  if entry || rejoin then
    let s := ((s.testSet n .s m.s).testSet n .b m.b).testGeyser n m
    let s := if entry then s.onM (fun k => { k with diag := n :: k.diag }) else s
    let s := if entry && s.nextSlot.isNone then
        let clear := fun (c : SetSt) => { c with obs := { c.obs with
          caught := false, sweepFrom := none, turning := false, latched := false, injFault := false, valid := false, suspect := false, region := 3, stage := 0, tries := 0 } }
        (s.onM (fun k => { k with runEntry := 2, stepAt := t, acq := [], acqEnd := [], polDone := [] })).onLanes
          (fun _ l => { l with s := clear l.s, b := clear l.b })
      else s
    done (s.lostSet n)
  else done s

end Sys2Proof.Machine
end

