-- ==== Sys2Proof/Machine/Twin.lean ====
section
/-! DEFINITION. The twin (Lanes, Votes and Leadership R74 to R79; Corner Module R32; Terminals R468). -/

namespace Sys2Proof.Machine

/-- A twin link. -/
def TwinSt.link (w : TwinSt) : TwinLink → TwinLinkSt
  | .k1 => w.k1
  | .k2 => w.k2

/-- The twin with one link changed. -/
def TwinSt.onLink (w : TwinSt) (k : TwinLink) (f : TwinLinkSt → TwinLinkSt) : TwinSt :=
  match k with
  | .k1 => { w with k1 := f w.k1 }
  | .k2 => { w with k2 := f w.k2 }

/-- The lane that serves a twin link (R32). -/
def twinLane : TwinLink → Lane
  | .k1 => .l1
  | .k2 => .l2

/-- Link number. -/
def twinNum : TwinLink → Nat
  | .k1 => 1
  | .k2 => 2

/-- TWIN.POSITION: 0 none, 1 A, 2 B. -/
def State.twinPos (s : State) : Nat := (s.lane s.scribe).codeN Key.twinPosition

/-- The lane of a twin link runs (R32). -/
def State.twinServed (s : State) (k : TwinLink) : Bool :=
  !(s.lane (twinLane k)).rst.inReset && (s.lane (twinLane k)).state != .off

/-- The authority of an axis in percent of rated (R75): T_max against the axis peak reference (DEDUCED). -/
def State.authority (s : State) (x : Axis) : Nat :=
  let n := s.scribe
  let p := (s.lane n).axisPeak x
  if p = 0 then 0 else (clampI 0 255 (roundAway ((s.tMax n x : Rat) * 100 / p))).toNat

/-- The seven words of a twin frame sent over a link (R75), with the torque references for the partner's motor. -/
def State.twinWords (s : State) (k : TwinLink) (tS tB : Int) : List Dword :=
  let n := s.scribe
  let l := s.lane n
  [BitVec.ofNat 64 (pack [(1, 4), (s.twinPos, 2), ((twinLane k).num, 2), (s.m.mode.code, 3), (bit s.twin.lead, 1),
      (s.actives.length, 2), (0, 2), (s.twin.epoch.toNat, 16), (l.epoch.toNat, 16), (l.prof.step.toNat, 16)]),
   BitVec.ofNat 64 l.prof.s1, BitVec.ofNat 64 l.prof.s2, BitVec.ofNat 64 (pack [(sgn 32 tS, 32), (sgn 32 tB, 32)]),
   BitVec.ofNat 64 (pack [(l.conS.theta.toNat, 16), (l.conB.theta.toNat, 16), (sgn 16 l.conS.omega, 16), (sgn 16 l.conB.omega, 16)]),
   BitVec.ofNat 64 (pack [(sat 32 (s.measured n .s), 32), (sat 32 (s.measured n .b), 32)]),
   BitVec.ofNat 64 (pack [(s.authority .s, 8), (s.authority .b, 8), (0, 48)])]

/-- The module's part of the actuator torque for its own and the partner's authority (R77): TWIN.SHARE goes to module A. DESIGN CHOICE:
with both authorities zero the manual gives no split, and each module counts for half. -/
def twinSplit (pos share own other : Nat) : Rat :=
  let w : Rat := if pos = 1 then (share : Rat) else 100 - (share : Rat)
  let a := w * (own : Rat)
  let b := (100 - w) * (other : Rat)
  if a + b = 0 then 1 / 2 else a / (a + b)

/-- The module holds the twin Leader (R76): module A with at least two Active lanes, otherwise module B. `others`: the Active
lanes the partner reports. -/
def State.twinElect (s : State) (others : Nat) : Bool :=
  if s.twinPos = 1 then decide (2 ≤ s.actives.length) else decide (others < 2)

/-- The setpoints of the two modules agree within SHADOW.SETPOINT_LIMIT (R79). DEDUCED: a brake force and a brake position, which stand in
unlike units, do not agree. -/
def State.twinAgrees (s : State) (ws : List Dword) : Bool :=
  let l := s.lane s.scribe
  let lim := l.val Key.shadowSetpointLimit / 100
  let mode := fld (ws.getD 2 0) 30 2
  (l.prof.brakeIsPos == (mode == 1 || mode == 2)) &&
  decide (absQ (l.prof.steer.pos - (hi32 (ws.getD 1 0) : Rat)) ≤ lim * l.fullScale .s false) &&
  decide (absQ (l.prof.brake.pos - (hi32 (ws.getD 2 0) : Rat)) ≤ lim * l.fullScale .b l.prof.brakeIsPos)

/-- The election of R76 with the partner's newest report; a change of twin Leader increments the twin epoch, which the new twin
Leader does (DEDUCED). -/
def State.reviewTwin (s : State) (others : Nat) : State :=
  let lead := s.twinElect others
  if lead = s.twin.lead then s
  else { s with twin := { s.twin with lead := lead, epoch := if lead then nextEpoch s.twin.epoch else s.twin.epoch } }

/-- The twin forms (R79): the election, a new twin epoch, and the share ramp of the module that is not twin Leader. At its first
forming no agreement of setpoints is asked for. -/
def State.formTwin (s : State) (ws : List Dword) : State :=
  let w0 := ws.getD 0 0
  let others := fld w0 50 2
  let pe : Half := BitVec.ofNat 16 (fld w0 32 16)
  let ready := s.m.mode.votes && decide (2 ≤ fld w0 53 3)
  if s.twin.formed || !ready || (s.twin.ever && !s.twinAgrees ws) then s
  else
    let s := s.takeEffect .twinForming
    let lead := s.twinElect others
    let e := if newer pe s.twin.epoch then pe else s.twin.epoch
    { s with
      twin := { s.twin with formed := true, ever := true, lost := false, lead := lead, epoch := nextEpoch e
                            rampAt := if lead then none else some s.now } }

/-- A held motion command comes into effect in a module that follows a twin Leader (R76). -/
def State.applyHeld (s : State) (n : Lane) (h : Half × Req × Half) : State :=
  let op := h.2.2
  let c := (s.lane n).call op h.2.1
  if op = 0x0C01 then s.applyHoming n c
  else if op = 0x0C03 then s.applyCompareSet n c
  else if op = 0x0401 then s.applyLimits n c
  else s.applyMotion n c (motionEffect op) (op == 0x0402 || op.extractLsb' 8 8 == 0x03)

/-- When TW2 first reports the sequence number of a command that the Leader of a following module holds, it comes into effect there;
the commands held before it lapse (R43, R76). -/
def State.followTwin (s : State) (w2 : Dword) : State :=
  let n := s.scribe
  let held := (s.lane n).prof.held
  let seq : Half := BitVec.ofNat 16 (fld w2 0 16)
  match held.find? (fun h => h.1 == seq) with
  | none => s
  | some h =>
    let rest := (held.dropWhile (fun x => x.1 != seq)).drop 1
    (s.onProf n (fun p => { p with held := rest })).applyHeld n h

/-- What a used frame brings (R74 to R77): an older twin epoch loses TW1 to TW3 and is counted; a newer one is adopted. -/
def State.useTwin (s : State) (ws : List Dword) : State :=
  let w0 := ws.getD 0 0
  let pe : Half := BitVec.ofNat 16 (fld w0 32 16)
  let stale := s.twin.formed && newer s.twin.epoch pe
  let s := if stale then s.onCtr s.scribe (fun c => { c with stale := satInc c.stale })
    else { s with twin := { s.twin with
      partner := ws, refS := hi32 (ws.getD 3 0), refB := lo32 (ws.getD 3 0)
      epoch := if s.twin.formed && newer pe s.twin.epoch then pe else s.twin.epoch } }
  let s := if s.twin.formed then s.reviewTwin (fld w0 50 2) else s.formTwin ws
  let s := if s.twinFollows && !stale then s.followTwin (ws.getD 2 0) else s
  let share := (s.lane s.scribe).codeN Key.twinShare
  { s with twin := { s.twin with
    splitS := if s.twin.formed then twinSplit s.twinPos share (s.authority .s) (fld (ws.getD 6 0) 56 8) else 1
    splitB := if s.twin.formed then twinSplit s.twinPos share (s.authority .b) (fld (ws.getD 6 0) 48 8) else 1 } }

/-- TWIN_FRAME (R33, R74): a frame that does not check is as lost; the receiver's own position is a loopback; the second copy of a step
only shows the link alive; the first is used. DESIGN CHOICE: where the manual says that the receiver logs TWIN_WIRING, the Leader and the
lane that serves the link write it. -/
def execTwinFrame (t : Nat) (k : TwinLink) (ws : List XWord) (s : State) : Host.Outcome State Fault Refusal :=
  let s := s.at_ t
  let pos := s.twinPos
  if pos = 0 ∨ s.twinServed k = false ∨ ws.length ≠ 7 then done s
  else match checkWords twinId 0 ws with
    | none => done s
    | some (ds, _) =>
      let w0 := ds.getD 0 0
      let from_ := fld w0 58 2
      let idx : Half := BitVec.ofNat 16 (fld w0 0 16)
      if fld w0 60 4 ≠ 1 then done s
      else if from_ = pos then
        done (s.logModule (twinLane k) 0x0604 (BitVec.ofNat 32 from_))
      else if from_ = 0 ∨ from_ = 3 then done s
      else
        let again := s.twin.used.contains idx
        let s := { s with twin := (s.twin.onLink k (fun x => { x with last := ds, stepIdx := some idx, lost := 0, down := false })) }
        if again then done s
        else done (State.useTwin { s with twin := { s.twin with used := (idx :: s.twin.used).take 16 } } ds)

/-- The twin is lost (R78): the module goes on alone from the last twin setpoints, which it holds: the partner's, or where it was twin Leader
its own. -/
def State.loseTwin (s : State) : State :=
  let was := s.twin
  let s := { s with
    twin := { s.twin with formed := false, lead := false, lost := true, rampAt := none, splitS := 1, splitB := 1, used := [] } }
  let s := if was.formed then
      s.onEngines (fun s n =>
        let p := (s.lane n).prof
        let hold := fun (a : AxisProf) (q : Rat) =>
          { a with pos := q, target := q, rate := 0, accel := 0, segs := [], arrive := none, kind := 3 }
        if was.lead then { p with steer := hold p.steer p.steer.pos, brake := hold p.brake p.brake.pos }
        else { p with steer := hold p.steer (hi32 (was.partner.getD 1 0)), brake := hold p.brake (hi32 (was.partner.getD 2 0))
                      bMode := BitVec.ofNat 2 (fld (was.partner.getD 2 0) 30 2), held := [] })
    else s
  s.logLeader 0x0603 0

/-- TWIN_LINK_DOWN (R32, R78): TWIN.LOSS_STEPS steps without a checked frame; with both links down the twin is lost. DESIGN CHOICE: where
the manual says that the module logs it, the Leader and the lane that serves the link write it. -/
def execTwinLinkDown (t : Nat) (k : TwinLink) (s : State) : Host.Outcome State Fault Refusal :=
  let s := s.at_ t
  let x := s.twin.link k
  if s.twinPos = 0 ∨ x.down = true ∨ x.lost < (s.lane s.scribe).codeN Key.twinLossSteps then done s
  else
    let s := { s with twin := s.twin.onLink k (fun x => { x with down := true }) }
    let s := s.logModule (twinLane k) 0x0602 (BitVec.ofNat 32 (twinNum k))
    if s.twin.k1.down && s.twin.k2.down && !s.twin.lost then done s.loseTwin else done s

end Sys2Proof.Machine
end

