-- ==== Sys2Proof/Machine/OuterLoop.lean ====
section
/-! DEFINITION. The 8 kHz step: setpoints, outer loops, shares and clamps, holds, the energising sequence and catch-spin (Field Control
R169 to R182; Astrolabe R197 to R204; Setpoint Profiles R240 to R249; Behaviour After Faults R91, R92, R95). -/

namespace Sys2Proof.Machine

/-! ### Setpoints -/

/-- The extension of the QUAD counter (R223): 64 bits, signed. -/
def QuadSt.extend (q : QuadSt) : QuadSt :=
  { q with ext := q.count, prev := q.raw }

/-- The setpoints a Member, or a Deputy without a snapshot, uses: those of the Leader's frame, with the kinds of the Leader's axes
(R38, R61). -/
def ProfSt.follow (p lead : ProfSt) (v : XView) : ProfSt :=
  { p with
    steer := { p.steer with pos := (hi32 v.s1 : Rat), rate := (((v.s1.extractLsb' 16 16).toInt * 256 * 8000 : Int) : Rat), accel := 0
                            segs := [], arrive := none, kind := lead.steer.kind, speed := lead.steer.speed, torque := lead.steer.torque }
    brake := { p.brake with pos := (hi32 v.s2 : Rat), rate := lead.brake.rate, accel := 0, segs := [], arrive := none
                            kind := lead.brake.kind, speed := lead.brake.speed }
    bMode := v.s2.extractLsb' 30 2, lastSeq := v.s2.extractLsb' 0 16 }

/-- The setpoints of the step (R38, R43, R60, R243): Leader and Deputy evaluate their trajectories at their own Meridian reading of its
start, unless the profile engine is unusable; every other lane takes the Leader's. While it uses the last agreed reference a lane but
the Leader holds its setpoints; DEDUCED: the Deputy's trajectory, a function of global time, then goes on from where that time has come
to (R61, R243). -/
def State.stepSetpoints (s : State) (n : Lane) : State :=
  let l := s.lane n
  if l.role = .leader ∨ (l.role = .deputy ∧ l.prof.snapshot = true) then
    if l.mapBit 3 = true ∨ (l.role = .deputy ∧ s.holding n = true) then s
    else s.onProf n (fun p => { p with steer := p.steer.advance (s.stepStart n), brake := p.brake.advance (s.stepStart n) })
  else match s.leaderLink n, l.leader with
    | some k, some d => if s.holding n then s else s.onProf n (fun p => p.follow (s.lane d).prof k.view)
    | _, _ => s

/-- A lane's trajectories are evaluated by itself. -/
def State.plans (s : State) (n : Lane) : Bool := (s.lane n).role == .leader || (s.lane n).role == .deputy

/-- A brake position setpoint with fewer than two valid positions becomes the measured force (R225); brake homing runs on the Leader's
own count (R254). -/
def State.dropTravel (s : State) (n : Lane) : State :=
  let p := (s.lane n).prof
  if s.plans n && p.brakeIsPos && (s.brakePos n).isNone && !s.hom.axB then
    let f := s.measured n .b
    s.onProf n (fun p => { p with bMode := 0, brake := { p.brake with
      pos := f, target := f, rate := 0, accel := 0, segs := [], arrive := none, kind := 0, stepAt := s.stepStart n } })
  else s

/-- LOC.STEER_ANGLE in axis units (R95, R373): a part of the learned half-travel from the end-stop midpoint; before a learn, of the
sensor's. -/
def LaneSt.locTarget (l : LaneSt) : Rat × Rat :=
  let half := match l.cal.endNeg, l.cal.endPos with
    | some a, some b => ((b - a : Int) : Rat) / 2
    | _, _ => 2147483648
  (l.midStop + half * l.val Key.locSteerAngle / 100, half * l.val Key.locSteerRate / 100)

/-- The second phase of the steer reaction to loss of command (R95): after the stop, a move toward LOC.STEER_ANGLE at LOC.STEER_RATE. -/
def State.locMove (s : State) (n : Lane) : State :=
  let l := s.lane n
  let a := l.prof.steer
  let g := l.locTarget
  if s.m.loc && !s.m.stopOn && !s.m.holdOnly && s.plans n && a.kind == 3 && a.resting && decide (0 < g.2) && a.pos != g.1 then
    let m := l.steerLimits s.m s.m.mode
    s.onProf n (fun p => { p with steer := p.steer.moveTo { m with v := min m.v g.2 } g.1 (s.stepStart n) })
  else s

/-- The observer-integrated steer angle over one step of 125 us (R91). -/
def State.integrateAngle (s : State) (n : Lane) : State :=
  let w : Rat := (s.omega n .s : Rat) / 10
  s.onLane n (fun l => { l with obsAngle := l.obsAngle.map (fun a => a + w * (125 / 1000000) * Config.steerUnitsPerRev) })

/-! ### Shares -/

/-- f_leg's latch of one set (R177): at 0 until the hottest leg, as its lane publishes it, is below T_d less 10 K. -/
def SetTerm.latchLeg (c : SetTerm) (td t : Rat) : SetTerm :=
  { c with legZero := if 150 ≤ t then true else if t < td - 10 then false else c.legZero }

/-- Lane n's latches of every set (R170, R177). -/
def State.latchLegs (s : State) (n : Lane) : State :=
  let go := fun (m : Lane) (k : LaneTerms) =>
    { k with s := k.s.latchLeg ((s.lane n).tDerate .s) (s.pubHot n m), b := k.b.latchLeg ((s.lane n).tDerate .b) (s.pubHot n m) }
  s.onLane n (fun l => { l with k1 := go .l1 l.k1, k2 := go .l2 l.k2, k3 := go .l3 l.k3 })

/-- The sets of a lane back from level 6 count again once they switch (R401). -/
def LaneSt.resumeDone (l : LaneSt) : Bool :=
  !l.sup.resumed && l.sup.level != 6 && [Axis.s, .b].all (fun x => l.setBad x || (l.set x).switching)

/-- The ramp fraction of step 5 of a rejoin (R70). -/
def LaneSt.rampOf (l : LaneSt) (now : Nat) : Rat :=
  let d := ms (l.codeN Key.rejoinRamp)
  if d = 0 then 1 else min 1 (((now - l.rejoin.at_ : Nat) : Rat) / (d : Rat))

/-- Availabilities and shares of the step (R70, R169, R177, R401). -/
def State.stepShares (s : State) (n : Lane) : State :=
  let now := s.now
  let s := (s.latchLegs n).onLane n (fun l => { l with sup := { l.sup with resumed := l.sup.resumed || l.resumeDone } })
  if (s.lane n).state = .rejoining ∧ (s.lane n).rejoin.step = 5 then
    (s.onLane n (fun l => { l with s := { l.s with ramp := l.rampOf now }, b := { l.b with ramp := l.rampOf now } })).reform n
  else s.reform n

/-! ### Torque -/

/-- What the outer loop of an axis regulates (R240): force or steer position, or the brake travel. -/
def State.feedback (s : State) (n : Lane) (x : Axis) : Rat :=
  if x = Axis.b ∧ (s.lane n).prof.brakeIsPos = true then
    if s.hom.axB then ((s.lane s.scribe).quad.p : Rat) else ((s.brakePos n).map (fun p => (p : Rat))).getD ((s.travel n).getD 0)
  else s.measured n x

/-- The outer-loop state of an axis. -/
def ProfSt.int (p : ProfSt) : Axis → Int
  | .s => p.intS
  | .b => p.intB

/-- New loop state and torque demand of an axis (R240, R355): a direct torque, the speed mode, or the position or force loop. -/
def State.demand (s : State) (n : Lane) (x : Axis) : Int × Int :=
  let p := (s.lane n).prof
  let a := p.axis x
  if a.kind = 2 then (p.int x, a.torque)
  else if a.kind = 1 then Config.speedLaw x (p.int x) a.rate (s.omega n x)
  else Config.outerLaw (x, if x = Axis.b ∧ p.brakeIsPos = true then 1 else 0) (p.int x) a.pos a.rate (s.feedback n x) (s.omega n x)

/-- The module's part of the actuator torque of an axis (R77). -/
def TwinSt.split (w : TwinSt) : Axis → Rat
  | .s => if w.formed then w.splitS else 1
  | .b => if w.formed then w.splitB else 1

/-- The clamp on |T| of an axis for its own motor (R174, R180, R181, R197, R250): zero while the angle is acquired, the push limit
while it is homed, the hold clamp while it holds. -/
def State.clampOf (s : State) (n : Lane) (x : Axis) : Int :=
  let cap := s.tMax n x
  if s.m.acq.contains x then 0
  else if s.hom.homes x then min cap ((s.lane n).pushClamp x)
  else match x with
    | .s =>
      if s.hold.sOn then
        let k : Rat := min 1 (((s.now - s.hold.sAt : Nat) : Rat) / 100000000)
        min cap (roundAway ((s.hold.sFrom : Rat) + ((s.hold.sClamp - s.hold.sFrom : Int) : Rat) * k))
      else cap
    | .b => if s.hold.bOn then min cap s.hold.bClamp else cap

/-- The axis is driven: some set of it switches. -/
def State.axisDriven (s : State) (x : Axis) : Bool := allLanes.any (fun m => ((s.lane m).set x).switching)

/-- The share ramp of a re-formed twin (R79). -/
def State.twinRamp (s : State) : Rat :=
  match s.twin.rampAt with
  | none => 1
  | some a =>
    let d := ms ((s.lane s.scribe).codeN Key.rejoinRamp)
    if d = 0 then 1 else min 1 (((s.now - a : Nat) : Rat) / (d : Rat))

/-- Loop state, own torque reference and the partner's of one axis (R74 to R79, R174, R197): while the axis is not driven or its
angle is acquired the loop is held; a module that is not twin Leader uses the reference of the partner. -/
def State.axisTorque (s : State) (n : Lane) (x : Axis) : Int × Int × Int :=
  let p := (s.lane n).prof
  let cap := s.clampOf n x
  if s.axisDriven x = false ∨ s.m.acq.contains x = true then (p.int x, 0, 0)
  else if s.twin.formed = true ∧ s.twin.lead = false then
    let r : Int := match x with | .s => s.twin.refS | .b => s.twin.refB
    (p.int x, clampI (-cap) cap (roundAway ((r : Rat) * s.twinRamp)), 0)
  else
    let d := s.demand n x
    let k := s.twin.split x
    (d.1, clampI (-cap) cap (roundAway ((d.2 : Rat) * k)), roundAway ((d.2 : Rat) * (1 - k)))

/-- The axis regenerates (R171), from whether it did: T against the speed, above 1 % of rated, until below 0.5 %. -/
def LaneSt.regenerates (l : LaneSt) (x : Axis) (was : Bool) (q : Int) (om : Int) : Bool :=
  decide (q * om < 0) && (decide (l.rated x / 100 < absQ (om : Rat)) || (was && decide (l.rated x / 200 ≤ absQ (om : Rat))))

/-- The thermal integrator of a set over one step, from the share in force and T (R176). -/
def LaneSt.heatStep (l : LaneSt) (x : Axis) (q : Int) (c : SetTerm) : SetTerm :=
  let i := c.share * (q : Rat) / 1000
  { c with heat := clampQ 0 (l.eMax x) (c.heat + (i * i - l.iCont x * l.iCont x) * (125 / 1000000)) }

/-- A lane's thermal integrators of the two sets of one lane (R176). -/
def LaneSt.heatBoth (l : LaneSt) (qs qb : Int) (k : LaneTerms) : LaneTerms :=
  { k with s := l.heatStep .s qs k.s, b := l.heatStep .b qb k.b }

/-- The outer loops of the step (R44, R60, R171, R174, R176). The Leader's references come into use at once, unless it uses the last
agreed ones. The second component: the partner's references. -/
def State.stepTorque (s : State) (n : Lane) : State × Int × Int :=
  let a := s.axisTorque n .s
  let b := s.axisTorque n .b
  let s := s.onProf n (fun p => { p with intS := a.1, intB := b.1, tS := a.2.1, tB := b.2.1 })
  let s := if (s.lane n).role = .leader ∧ s.holding n = false then
      s.onProf n (fun p => { p with useS := p.tS, useB := p.tB, okS := p.tS, okB := p.tB })
    else s
  let l := s.lane n
  let qs := s.refOf n .s
  let qb := s.refOf n .b
  let rs := l.regenerates .s l.prof.regS qs (s.omega n .s)
  let rb := l.regenerates .b l.prof.regB qb (s.omega n .b)
  let onset := (rs && !l.prof.regS) || (rb && !l.prof.regB)
  let s := s.onLane n (fun l => { l with
    k1 := l.heatBoth qs qb l.k1, k2 := l.heatBoth qs qb l.k2, k3 := l.heatBoth qs qb l.k3
    prof := { l.prof with regS := rs, regB := rb } })
  (if onset then s.reform n else s, a.2.2, b.2.2)

/-! ### The Leader's decisions at its step -/

/-- The end of a stop (R249, R271, R275, R276). -/
def State.stopEnd (s : State) (n : Lane) : State :=
  let p := (s.lane n).prof
  if s.m.stopping && p.steer.rate == 0 && p.steer.segs.isEmpty && p.brake.rate == 0 && p.brake.segs.isEmpty then
    let s := s.onM (fun m => { m with stopping := false, stopDone := m.stopOn, stopAt := s.now })
    if s.m.mode = .service ∧ s.m.pend = .ready then s.leaveService else s.reviewStop
  else s

/-- An axis is below HOLD.SPEED_BAND (R180, R181, R272). -/
def State.slowAxis (s : State) (n : Lane) (x : Axis) : Bool :=
  let l := s.lane n
  decide (absQ ((s.omega n x : Int) : Rat) < l.rated x * l.val Key.holdSpeedBand / 100)

/-- Both axes below the speed band after a stop with Ready pending (R272). -/
def State.noteSlow (s : State) (n : Lane) : State :=
  let due := (s.m.mode == .run || s.m.mode == .limp) && s.m.pend == .ready && !s.m.stopping && s.slowAxis n .s && s.slowAxis n .b
  s.onM (fun m => { m with slowSince := if due then m.slowSince.orElse (fun _ => some s.now) else none })

/-- The modes in which the holds act (R180, R181). -/
def Mode.holds : Mode → Bool
  | .run | .limp => true
  | _ => false

/-- The steer hold and its timer (R180, R250). -/
def State.followSteer (s : State) (n : Lane) : State :=
  let l := s.lane n
  let a := l.prof.steer
  let inBand := decide (absQ (a.pos - s.measured n .s) ≤ pctUnits (l.val Key.holdSteerBand))
  let still := a.rate == 0 && a.kind != 2
  if s.hom.axS || !Mode.holds s.m.mode then s.endSteerHold
  else if s.hold.sOn then (if still && inBand then s else s.endSteerHold)
  else
    let ok := still && inBand && s.slowAxis n .s
    { s with hold := { s.hold with sSince := if ok then s.hold.sSince.orElse (fun _ => some s.now) else none } }

/-- The brake hold and its timer (R181, R182, R250): it ends when the force setpoint changes; a force below the band ends a search with
one step back, or after the search gives I_e back; a lost set restarts a search. -/
def State.followBrake (s : State) (n : Lane) : State :=
  let l := s.lane n
  let p := l.prof
  let h := s.hold
  let tol := pctUnits (l.val Key.holdBTol)
  let f := s.measured n .b
  let force := !p.brakeIsPos
  let low := decide (f < p.brake.pos - tol)
  let ok := force && p.brake.rate == 0 && decide (absQ (f - p.brake.pos) ≤ tol) && s.slowAxis n .b
  let sets := s.usableCount n .b
  let step : Int := roundAway (l.val Key.holdBStep / 100 * (h.bStart : Rat))
  let timer := fun (h : HoldSt) => { h with bSince := if ok then h.bSince.orElse (fun _ => some s.now) else none }
  let s' :=
    if s.hom.axB || !Mode.holds s.m.mode then s.endBrakeHold
    else if h.bOn = false then { s with hold := timer h }
    else if force = false ∨ tol < absQ (p.brake.pos - h.bTarget) then s.endBrakeHold
    else if sets < h.bSets ∧ h.bDone = false then
      { s with hold := { h with bStart := (p.tB.natAbs : Int), bClamp := (p.tB.natAbs : Int), bAt := s.now } }
    else if low = true ∧ h.bDone = false then { s with hold := { h with bClamp := h.bClamp + step, bDone := true } }
    else if low = true then { s with hold := { h with bClamp := h.bStart, bAgain := true, bSince := none } }
    else if h.bAgain then { s with hold := timer h } else s
  { s' with hold := { s'.hold with bSets := sets } }

/-- The setpoints of an axis stand where it stands (R179, R197): position or force. -/
def State.effHere (x : Axis) (s : State) (n : Lane) : ProfSt :=
  let p := (s.lane n).prof
  let at_ := fun (a : AxisProf) (q : Rat) =>
    { a with pos := q, target := q, rate := 0, accel := 0, segs := [], arrive := none, kind := 3, stepAt := s.stepStart n }
  match x with
  | .s => { p with steer := at_ p.steer (s.measured n .s) }
  | .b => { p with bMode := if p.bMode = 3 then 3 else 0, brake := at_ p.brake (s.measured n .b) }

/-- The clamp of R197 lifts at the step after the polarity has been settled; with no valid estimate a run of R204 repeats; an axis that
lost its consensus while turning regains its sets with the first valid estimate, from the next step on (R197 step 4, R204). -/
def State.liftAxis (s : State) (n : Lane) (x : Axis) : State :=
  let back := fun (m : ModSt) => match x with | .s => { m with noConS := false } | .b => { m with noConB := false }
  if s.m.acq.contains x then
    if s.m.polDone.contains x = false then s
    else
      let ok := (s.acquirers x).any (fun m => ((s.lane m).set x).angleOk)
      if s.m.noCon x && !ok then s.startAcquisition x true
      else
        let s := s.onM (fun m => { (if ok then back m else m) with
          acq := m.acq.filter (· != x), acqEnd := m.acqEnd.filter (· != x), polDone := m.polDone.filter (· != x) })
        let now := s.now
        let s := s.onLanes (fun _ l => l.onCon x (fun c => { c with seen := now }))
        if (s.m.mode = .service ∧ s.meas.loadOn = false) ∨ s.hom.homes x = true then s else s.onEngines (State.effHere x)
  else if s.m.noCon x && decide (0 < ((s.lane n).con x).count) then s.onM back
  else s

/-- Every set of every Active lane has ended its catch-spin (R179). -/
def State.allCaught (s : State) : Bool :=
  s.actives.all (fun m => [Axis.s, .b].all (fun x => (s.lane m).setBad x || ((s.lane m).set x).obs.caught))

/-- The energising sequence at the Leader's step (R179): after the last catch-spin the start of the sets is due; once no axis acquires
its angle any more, every axis carries torque. -/
def State.stepEntry (s : State) : State :=
  if s.m.runEntry = 2 ∧ s.allCaught = true then s.onM (fun m => { m with runEntry := 3, stepAt := s.now })
  else if s.m.runEntry = 4 ∧ s.m.acq.isEmpty = true then s.onM (fun m => { m with runEntry := 5 })
  else s

/-- A service move that has ended leaves the sets high-impedance again (R269, R275). -/
def State.endServiceMove (s : State) (n : Lane) : State :=
  let p := (s.lane n).prof
  if s.m.mode = .service ∧ s.m.runEntry = 0 ∧ s.meas.loadOn = false ∧ s.meas.testOn = false ∧ p.steer.resting = true ∧
      p.brake.resting = true ∧ allLanes.any (fun m => (s.lane m).s.switching || (s.lane m).b.switching) = true then s.floatAll
  else s

/-- The stop of a homing run aborted in Ready has ended: its sets go back to high-impedance (R249, R250). -/
def State.endAborted (s : State) (n : Lane) : State :=
  let p := (s.lane n).prof
  if s.hom.ending && p.steer.rate == 0 && p.steer.segs.isEmpty && p.brake.rate == 0 && p.brake.segs.isEmpty then s.floatAll else s

/-- One twin frame goes out on each served link; a link without a checked frame since the last step counts it as lost (R74, R75, R78). -/
def State.stepTwin (s : State) (qs qb : Int) : State :=
  if s.twinPos = 0 then s
  else [TwinLink.k1, .k2].foldl (fun s k =>
    if s.twinServed k then
      let w := s.twinWords k qs qb
      { s with twin := s.twin.onLink k (fun x => { x with tx := w, lost := x.lost + 1 }) }
    else { s with twin := s.twin.onLink k (fun x => { x with lost := x.lost + 1 }) }) s

/-- What the Leader decides at its step (R92, R179, R180 to R182, R197, R204, R249, R250, R272, R443). -/
def State.leaderStep (s : State) (n : Lane) (qs qb : Int) : State :=
  let run := s.m.mode == .run || s.m.mode == .limp
  let s := ((s.stopEnd n).noteSlow n).onM (fun m => { m with
    runNs := if run then m.runNs + 125000 else m.runNs })
  let s := (((s.noteLate n).followSteer n).followBrake n)
  let s := ((((s.liftAxis n .s).liftAxis n .b).stepEntry).endServiceMove n).endAborted n
  ((s.homingStep n).checkLimp).stepTwin qs qb

/-- OUTER_LOOP_STEP (R243): one 8 kHz step of a lane; the T word of the frame on the line takes the newest value (R34). -/
def execOuterLoopStep (t : Nat) (n : Lane) (s : State) : Host.Outcome State Fault Refusal :=
  let s := s.at_ t
  let l := s.lane n
  if l.rst.inReset = true ∨ l.state = .off then done s
  else
    let s := s.onLane n (fun l => { l with quad := l.quad.extend })
    if l.state = .starting then done s
    else
      let g := s.global n
      let s := s.onProf n (fun p => { p with step := p.step + 1, stepT := some g })
      let s := ((s.stepSetpoints n).integrateAngle n)
      let s := if l.state = .active then ((s.agreeSent n .a true).agreeSent n .b true).agreeQuad n else s
      let s := ((s.dropTravel n).locMove n).stepShares n
      let r := s.stepTorque n
      let s := (r.1.compareStep n).latchT n
      if (s.lane n).role = .leader then done (s.leaderStep n r.2.1 r.2.2) else done s

/-! ### Holds -/

/-- The instants from which a hold may start. -/
def State.holdDue (s : State) (since : Option Nat) : Bool :=
  match since with
  | some a => decide (a + ms (100 * (s.lane s.scribe).codeN Key.holdDelay) ≤ s.now)
  | none => false

/-- STEER_HOLD_START (R180): the clamp on |T| ramps over 100 ms to its hold value. -/
def execSteerHoldStart (t : Nat) (s : State) : Host.Outcome State Fault Refusal :=
  let s := s.at_ t
  if Mode.holds s.m.mode && !s.hold.sOn && s.holdDue s.hold.sSince then
    let s := s.takeEffect .holdStart
    let n := s.scribe
    let l := s.lane n
    let q : Rat := (l.prof.tS.natAbs : Rat)
    let goal := l.val Key.holdFraction / 100 * max q (l.axisPeak .s / 20)
    done { s with hold := { s.hold with sOn := true, sAt := t, sFrom := s.tMax n .s, sClamp := roundAway goal } }
  else done s

/-- The first or a further lowering of the brake clamp (R181): below the floor the search ends. -/
def HoldSt.lower (h : HoldSt) (step floor : Rat) (now : Nat) : HoldSt :=
  let next := (h.bClamp : Rat) - step / 100 * (h.bStart : Rat)
  if next < floor / 100 * (h.bStart : Rat) then { h with bDone := true }
  else { h with bClamp := roundAway next, bAt := now }

/-- BRAKE_HOLD_START (R181): the search starts from I_e, and begins with a lowering. -/
def execBrakeHoldStart (t : Nat) (s : State) : Host.Outcome State Fault Refusal :=
  let s := s.at_ t
  if Mode.holds s.m.mode && (!s.hold.bOn || s.hold.bAgain) && s.holdDue s.hold.bSince then
    let s := s.takeEffect .holdStart
    let l := s.lane s.scribe
    let q : Int := (l.prof.tB.natAbs : Int)
    let h := { s.hold with bOn := true, bDone := false, bAgain := false, bStart := q, bClamp := q, bAt := t, bTarget := l.prof.brake.pos }
    done { s with hold := h.lower (l.val Key.holdBStep) (l.val Key.holdBFloor) t }
  else done s

/-- BRAKE_HOLD_DWELL (R181): each HOLD.B_DWELL lowers the clamp one step or ends the search. -/
def execBrakeHoldDwell (t : Nat) (s : State) : Host.Outcome State Fault Refusal :=
  let s := s.at_ t
  let l := s.lane s.scribe
  if s.hold.bOn && !s.hold.bDone && decide (s.hold.bAt + ms (l.codeN Key.holdBDwell) ≤ t) then
    done { s with hold := s.hold.lower (l.val Key.holdBStep) (l.val Key.holdBFloor) t }
  else done s

/-! ### Energising -/

/-- The axes an energising sequence is for: those of a homing run in Ready, those of a measured set, else both (R179, R250, R376). -/
def State.entryAxes (s : State) : List Axis :=
  if s.hom.inReady then [Axis.s, .b].filter s.hom.homes
  else if s.meas.loadOn then [Axis.s, .b].filter (fun x => match x with | .s => s.meas.loadS | .b => s.meas.loadB)
  else [.s, .b]

/-- Every permitted Active lane starts the usable sets of an axis, their injection index at the Leader's; a turning one gives the lanes its
consensus to start from, an axis at standstill acquires its angle; one that turns with every catch-spin failed waits for an estimate
(R179, R193, R197, R200, R203, R204). -/
def State.startAxis (s : State) (x : Axis) : State :=
  let now := s.now
  let j := ((s.lane s.scribe).set x).obs.j
  let on := s.actives.filter (fun m => s.usable m m x)
  let s := on.foldl (fun s m => s.onLane m (fun l => l.onSet x (fun c => l.startSet x c))) s
  let s := s.actives.foldl (fun s m => s.onSet m x (fun c => { c with obs := { c.obs with j := j } })) s
  let turning := on.filter (fun m => ((s.lane m).set x).obs.turning)
  let seen := fun (s : State) => s.onLanes (fun _ l => l.onCon x (fun c => { c with seen := now }))
  match turning.find? (fun m => ((s.lane m).set x).angleOk) with
  | some k =>
    let o := ((s.lane k).set x).obs
    seen (s.onLanes (fun _ l => l.onCon x (fun c => { c with theta := o.theta, omega := o.omega, at_ := now })))
  | none => seen (if turning.isEmpty then s.startAcquisition x false else s)

/-- SETS_START_SWITCHING (R106, R109, R117, R161, R179): at the first PWM peak strictly later than the step boundary that follows the
last catch-spin. The outer loops start from the present angle and force. -/
def execSetsStartSwitching (t : Nat) (s : State) : Host.Outcome State Fault Refusal :=
  let s := s.at_ t
  if s.m.runEntry = 3 ∧ s.m.stepAt < t then
    let s := s.actives.foldl (fun s m => s.onLane m (fun l =>
      { l with ena := { l.ena with withdrawn := !(l.ena.test == 2 && l.ena.filt) }, sup := { l.sup with resumed := l.sup.level != 6 } })) s
    let s := s.onM (fun m => { m with noConS := false, noConB := false })
    let s := s.reformAll
    let s := s.entryAxes.foldl State.startAxis s
    let s := if s.m.mode = .service ∧ s.meas.loadOn = false then s
      else (s.onEngines (State.effHere .s)).onEngines (State.effHere .b)
    let s := s.onLanes (fun _ l => { l with prof := { l.prof with intS := 0, intB := 0, regS := false, regB := false } })
    done ((s.onM (fun m => { m with runEntry := 4, stepAt := t })).reformAll)
  else done s

/-- RUN_ENTRY_COMPLETE (R92, R179, R250): every axis carries torque; the mode becomes Run, or Limp. Sets energised for homing, a
measurement or a service move leave the mode as it is. -/
def execRunEntryComplete (t : Nat) (s : State) : Host.Outcome State Fault Refusal :=
  let s := s.at_ t
  if s.m.runEntry ≠ 5 then done s
  else
    let s := s.onM (fun m => { m with runEntry := 0, diag := [], freshAt := t, missed := 0 })
    if s.hom.inReady then done s.launchHoming
    else if s.m.mode ≠ .ready ∨ s.meas.loadOn = true then done s
    else if s.limpDue s.scribe then done (s.enterLimp s.scribe) else done s.enterRun

/-! ### Catch-spin (R125, R200, R201, R208) -/

/-- The largest induced line-to-line peak of a sample in mV (R200). -/
def linePeak (m : CatchSample) : Nat := max m.lines.u.natAbs (max m.lines.v.natAbs m.lines.w.natAbs)

/-- A catch-spin sample shows a turning rotor: a line-to-line peak of 0.5 V or more (R200). -/
def catchTurning (m : CatchSample) : Bool := decide (500 ≤ linePeak m)

/-- The peak comes within 2 V of the DC link, so that reverse conduction clamps the terminals (R201). -/
def LaneSt.catchClamped (l : LaneSt) (m : CatchSample) : Bool := decide (l.sup.auxLink ≤ linePeak m + 2000)

/-- The place of a zero crossing in the turn: 30 degrees and 60 more for each count (R201). DEDUCED: phase U's flux is greatest at angle 0,
and U, V, W follow each other by 120 degrees. -/
def crossIndex (c : Crossing) : Nat :=
  match c.pair, c.rising with
  | .w, true => 0
  | .v, false => 1
  | .u, true => 2
  | .w, false => 3
  | .v, true => 4
  | .u, false => 5

/-- How the places of successive crossings follow each other. -/
def crossSteps (cs : List Crossing) : List Nat := (cs.zip (cs.drop 1)).map (fun p => (6 + crossIndex p.2 - crossIndex p.1) % 6)

/-- The direction that the crossings give where they fit one phase sequence (R201, R208): 1 forward, -1 backward. -/
def crossTurn (cs : List Crossing) : Option Int :=
  let rising := (cs.zip (cs.drop 1)).all (fun p => decide (p.1.at_ < p.2.at_))
  if rising = false then none
  else if (crossSteps cs).all (· == 1) then some 1
  else if (crossSteps cs).all (· == 5) then some (-1) else none

/-- Speed in 0.1 Hz electrical from the crossings (R201). -/
def crossSpeed (cs : List Crossing) : Int :=
  match cs.head?, cs.getLast? with
  | some a, some b =>
    roundAway ((((crossTurn cs).getD 0 * (cs.length - 1 : Nat) : Int) : Rat) * 10000000000 / (6 * ((b.at_ - a.at_ : Nat) : Rat)))
  | _, _ => 0

/-- The angle in the set's own frame at an instant, from the newest crossing (R201). -/
def crossAngle (cs : List Crossing) (now : Nat) : Half :=
  match cs.getLast? with
  | some b => turned (degCode ((30 + 60 * crossIndex b : Nat) : Rat)) (crossSpeed cs) ((now - b.at_ : Nat) : Rat)
  | none => 0

/-- Speed in 0.1 Hz from the turn of the corrected flux over the catch time (R200). -/
def ObsSt.sweepSpeed (o : ObsSt) : Int :=
  match o.sweepFrom with
  | some a => if o.at_ ≤ a then 0 else roundAway ((o.sweep : Rat) * 10000000000 / (65536 * ((o.at_ - a : Nat) : Rat)))
  | none => 0

/-- The crossings fit one phase sequence, and the flux, where it is used, lies within 75 to 125 % of PSI (R200, R201, R208). -/
def LaneSt.catchOk (l : LaneSt) (x : Axis) (m : CatchSample) : Bool :=
  let psi := (l.motor x).psi
  let flux := (l.set x).obs.mag
  (crossTurn m.cross).isSome && (l.catchClamped m || (decide (psi * 3 / 4 ≤ flux) && decide (flux ≤ psi * 5 / 4)))

/-- The phase of the largest, or of the smallest, of three values. -/
def extremePhase (big : Bool) (v : Three) : Phase :=
  let f := fun (a b : Int) => if big then decide (b ≤ a) else decide (a ≤ b)
  if f v.u v.v && f v.u v.w then .u else if f v.v v.w then .v else .w

/-- The findings of a turning set (R125), in the form of the off-state test. DESIGN CHOICE: the phase back-EMF amplitude is the largest
line-to-line peak over sqrt 3; kind 1, for which the manual names no terminal, names that of the largest DC part, and kind 2 that of the
smallest AC part. -/
def catchFindings (m : CatchSample) : List (Nat × Phase × Nat) :=
  let dc : Rat := ((m.dc.u + m.dc.v + m.dc.w : Int) : Rat) / 3
  let emf : Rat := (linePeak m : Rat) / Config.sqrt 3
  let uv := m.lines.u.natAbs
  let vw := m.lines.v.natAbs
  let wu := m.lines.w.natAbs
  let low := fun (a b c : Nat) => decide (2 * a < c) && decide (2 * b < c)
  (if 2000 < dc then [(1, extremePhase true m.dc, 0)]
   else if emf * 3 / 10 < (m.meanAc : Rat) then [(2, extremePhase false m.ac, 0)] else []) ++
  (if low uv wu vw then [(3, .u, 0)] else []) ++ (if low uv vw wu then [(3, .v, 0)] else []) ++
  (if low vw wu uv then [(3, .w, 0)] else [])

/-- One set's catch-spin ends (R125, R200, R201): its findings, its angle and speed, or standstill. The flag: CATCH_FAIL. -/
def State.catchSet (s : State) (n : Lane) (x : Axis) (m : CatchSample) : State × Bool :=
  let l := s.lane n
  if catchTurning m = false then
    (s.onSet n x (fun c => { c with obs := { c.obs with caught := true, turning := false, region := 3 } }), false)
  else
    let fs := catchFindings m
    let ok := l.catchOk x m
    let s := (s.logFindings n x fs).onSet n x (fun c => { (c.judged fs.isEmpty) with lastMove := s.now })
    let o := (l.set x).obs
    let clamped := l.catchClamped m
    let om := if clamped then crossSpeed m.cross else o.sweepSpeed
    let th := if clamped then crossAngle m.cross s.now + l.setOffset n x else turned o.phi om ((s.now - o.at_ : Nat) : Rat)
    let fast := decide (l.rated x / 10 ≤ absQ (om : Rat))
    let psi := (roundAway (o.mag * 100000)).toNat
    let s := s.onSet n x (fun c => { c with obs := { c.obs with
      caught := true, turning := true, theta := th, omega := om, at_ := s.now, valid := ok, region := 3
      psi := if ok && !clamped && fast then some psi else c.obs.psi } })
    let s := if ok then s else s.log n 0x040E (setAddr n x)
    (s, !ok)

/-- The catch time that a lane's sets are in has passed: at Run entry, at step 3 of a rejoin, or after a suspension (R179, R69, R401). -/
def State.catchDue (s : State) (n : Lane) : Option Nat :=
  let l := s.lane n
  let d := ms (l.codeN Key.obsCatchTime)
  if s.m.runEntry = 2 ∧ l.state = .active ∧ s.m.stepAt + d ≤ s.now ∧ l.s.obs.caught = false then some 0
  else if l.state = .rejoining ∧ l.rejoin.step = 3 ∧ l.rejoin.at_ + d ≤ s.now then some 1
  else if l.state = .active ∧ l.sup.resumed = false ∧ l.sup.level ≠ 6 ∧ Mode.holds s.m.mode = true ∧ l.sup.resumeAt + d ≤ s.now ∧
      l.s.obs.caught = false then some 2
  else none

/-- A set whose terminals are clamped has not seen two zero crossings yet: the catch time goes on (R201). -/
def LaneSt.catchWaits (l : LaneSt) (m : CatchSample) : Bool :=
  catchTurning m && l.catchClamped m && decide (m.cross.length < 2)

/-- Step 3 of a rejoin has passed: the injection indices stand at the Leader's, and convergence begins (R69, R193). -/
def State.endCatchStep (s : State) (n : Lane) : State :=
  let d := s.lane s.scribe
  let now := s.now
  s.onLane n (fun l => { l with
    s := { l.s with obs := { l.s.obs with near := 0, j := d.s.obs.j } }, b := { l.b with obs := { l.b.obs with near := 0, j := d.b.obs.j } }
    rejoin := { l.rejoin with step := 4, at_ := now } })

/-- CATCH_SPIN_END (R69, R125, R200, R201, R208, R401): both sets of a lane. A turning set of a measured axis ends the load measurement
(R379). -/
def execCatchSpinEnd (t : Nat) (n : Lane) (m : CatchPair) (s : State) : Host.Outcome State Fault Refusal :=
  let s := s.at_ t
  match s.catchDue n with
  | none => done s
  | some k =>
    if (s.lane n).catchWaits m.s || (s.lane n).catchWaits m.b then done s
    else
      let a := s.catchSet n .s m.s
      let b := a.1.catchSet n .b m.b
      if k = 1 then (if a.2 || b.2 then done (b.1.failRejoin n 0x0704 3) else done (b.1.endCatchStep n))
      else
        let keep := fun (s : State) (x : Axis) => s.onSet n x (fun c => { c with obs := { c.obs with latched := true } })
        let s := if a.2 then keep b.1 .s else b.1
        let s := if b.2 then keep s .b else s
        done (if (s.meas.onAxis .s && catchTurning m.s) || (s.meas.onAxis .b && catchTurning m.b) then s.endLoad else s)

end Sys2Proof.Machine
end

