-- ==== Sys2Proof/Machine/Dispatch.lean ====
section
/-! DEFINITION. The dispatch table: one arm per command. -/

namespace Sys2Proof.Machine

/-- The effect of a command on everything but the queue. -/
def exec (i : Instr) (s : State) : Host.Outcome State Fault Refusal :=
  match i with
  | .modeRequestReady r => Sys2Proof.Machine.execModeRequestReady r s
  | .modeRequestRun r => Sys2Proof.Machine.execModeRequestRun r s
  | .modeRequestService r => Sys2Proof.Machine.execModeRequestService r s
  | .modeRequestDormant r => Sys2Proof.Machine.execModeRequestDormant r s
  | .modeStatus r => Sys2Proof.Machine.execModeStatus r s
  | .enableTestStatus r => Sys2Proof.Machine.execEnableTestStatus r s
  | .steerAngle r => Sys2Proof.Machine.execSteerAngle r s
  | .steerTorque r => Sys2Proof.Machine.execSteerTorque r s
  | .steerMoveAt r => Sys2Proof.Machine.execSteerMoveAt r s
  | .steerHold r => Sys2Proof.Machine.execSteerHold r s
  | .brakeForce r => Sys2Proof.Machine.execBrakeForce r s
  | .brakePosition r => Sys2Proof.Machine.execBrakePosition r s
  | .brakeRelease r => Sys2Proof.Machine.execBrakeRelease r s
  | .brakeParkApply r => Sys2Proof.Machine.execBrakeParkApply r s
  | .brakeParkRelease r => Sys2Proof.Machine.execBrakeParkRelease r s
  | .profileLimits r => Sys2Proof.Machine.execProfileLimits r s
  | .vectorMove r => Sys2Proof.Machine.execVectorMove r s
  | .paramReadKey r => Sys2Proof.Machine.execParamReadKey r s
  | .paramReadMemory r => Sys2Proof.Machine.execParamReadMemory r s
  | .paramWrite r => Sys2Proof.Machine.execParamWrite r s
  | .paramCommit r => Sys2Proof.Machine.execParamCommit r s
  | .paramCommitDone t => Sys2Proof.Machine.execParamCommitDone t s
  | .paramImageInfo r => Sys2Proof.Machine.execParamImageInfo r s
  | .measureLoadStart r => Sys2Proof.Machine.execMeasureLoadStart r s
  | .measureLoadRead r => Sys2Proof.Machine.execMeasureLoadRead r s
  | .measureLoadComplete t n x m => Sys2Proof.Machine.execMeasureLoadComplete t n x m s
  | .measureCableStart r => Sys2Proof.Machine.execMeasureCableStart r s
  | .measureCableRead r => Sys2Proof.Machine.execMeasureCableRead r s
  | .measureCableComplete t n refl delay => Sys2Proof.Machine.execMeasureCableComplete t n refl delay s
  | .measureSupply r => Sys2Proof.Machine.execMeasureSupply r s
  | .capsExchange r => Sys2Proof.Machine.execCapsExchange r s
  | .selftestRun r => Sys2Proof.Machine.execSelftestRun r s
  | .selftestComplete t n done bad badBits => Sys2Proof.Machine.execSelftestComplete t n done bad badBits s
  | .selftestResult r => Sys2Proof.Machine.execSelftestResult r s
  | .healthRead r => Sys2Proof.Machine.execHealthRead r s
  | .attestChallenge r => Sys2Proof.Machine.execAttestChallenge r s
  | .sessionOpen r => Sys2Proof.Machine.execSessionOpen r s
  | .sessionClose r => Sys2Proof.Machine.execSessionClose r s
  | .keyProvision r => Sys2Proof.Machine.execKeyProvision r s
  | .fwBegin r => Sys2Proof.Machine.execFwBegin r s
  | .fwChunk r => Sys2Proof.Machine.execFwChunk r s
  | .fwVerifyStart r => Sys2Proof.Machine.execFwVerifyStart r s
  | .fwVerifyRead r => Sys2Proof.Machine.execFwVerifyRead r s
  | .fwActivate r => Sys2Proof.Machine.execFwActivate r s
  | .timeStatus r => Sys2Proof.Machine.execTimeStatus r s
  | .scheduleLoad r => Sys2Proof.Machine.execScheduleLoad r s
  | .logRead r => Sys2Proof.Machine.execLogRead r s
  | .logClear r => Sys2Proof.Machine.execLogClear r s
  | .homingStart r => Sys2Proof.Machine.execHomingStart r s
  | .homingStartAbort r => Sys2Proof.Machine.execHomingStartAbort r s
  | .homingStatus r => Sys2Proof.Machine.execHomingStatus r s
  | .compareSet r => Sys2Proof.Machine.execCompareSet r s
  | .arbitrate r => Sys2Proof.Machine.execArbitrate r s
  | .quench r => Sys2Proof.Machine.execQuench r s
  | .quenchTimeout t => Sys2Proof.Machine.execQuenchTimeout t s
  | .calderaClear r => Sys2Proof.Machine.execCalderaClear r s
  | .commandFrame t n c f => Sys2Proof.Machine.execCommandFrame t n c f s
  | .nullFrame t n c f => Sys2Proof.Machine.execNullFrame t n c f s
  | .referenceFrame t n c f => Sys2Proof.Machine.execReferenceFrame t n c f s
  | .capsFrame t n c f => Sys2Proof.Machine.execCapsFrame t n c f s
  | .hostPortFrame t id fd data => Sys2Proof.Machine.execHostPortFrame t id fd data s
  | .hostPortSegmentTimeout t => Sys2Proof.Machine.execHostPortSegmentTimeout t s
  | .crossLaneFrameCommit t src dst ws => Sys2Proof.Machine.execCrossLaneFrameCommit t src dst ws s
  | .linkLossOfSignal t src dst => Sys2Proof.Machine.execLinkLossOfSignal t src dst s
  | .linkDown t src dst => Sys2Proof.Machine.execLinkDown t src dst s
  | .linkUp t src dst => Sys2Proof.Machine.execLinkUp t src dst s
  | .twinFrame t k ws => Sys2Proof.Machine.execTwinFrame t k ws s
  | .twinLinkDown t k => Sys2Proof.Machine.execTwinLinkDown t k s
  | .enableStateItem t src dst on => Sys2Proof.Machine.execEnableStateItem t src dst on s
  | .inboundFrameItem t src dst c f => Sys2Proof.Machine.execInboundFrameItem t src dst c f s
  | .outboundStatusItem t src dst epoch fresh payload => Sys2Proof.Machine.execOutboundStatusItem t src dst epoch fresh payload s
  | .relayItemDrop t n outbound => Sys2Proof.Machine.execRelayItemDrop t n outbound s
  | .almanacSegmentItem t src dst g => Sys2Proof.Machine.execAlmanacSegmentItem t src dst g s
  | .scheduleReportItem t src dst act pend at_ => Sys2Proof.Machine.execScheduleReportItem t src dst act pend at_ s
  | .timeItem t src dst synced integ reading => Sys2Proof.Machine.execTimeItem t src dst synced integ reading s
  | .sessionItem t src dst c => Sys2Proof.Machine.execSessionItem t src dst c s
  | .supplyItem t src dst e => Sys2Proof.Machine.execSupplyItem t src dst e s
  | .bootReportItem t src dst e => Sys2Proof.Machine.execBootReportItem t src dst e s
  | .firmwareCopyItem t src dst off len data => Sys2Proof.Machine.execFirmwareCopyItem t src dst off len data s
  | .keyItem t src dst e => Sys2Proof.Machine.execKeyItem t src dst e s
  | .sentFrame t n p f => Sys2Proof.Machine.execSentFrame t n p f s
  | .sentSerialMessage t n p id data crcOk => Sys2Proof.Machine.execSentSerialMessage t n p id data crcOk s
  | .sentTimeout t n p => Sys2Proof.Machine.execSentTimeout t n p s
  | .applicationCycle t n => Sys2Proof.Machine.execApplicationCycle t n s
  | .outerLoopStep t n => Sys2Proof.Machine.execOuterLoopStep t n s
  | .pwmPeriod t n m => Sys2Proof.Machine.execPwmPeriod t n m s
  | .currentLoopUpdate t n x m => Sys2Proof.Machine.execCurrentLoopUpdate t n x m s
  | .auxConversion t n m => Sys2Proof.Machine.execAuxConversion t n m s
  | .statusFrameSend t n => Sys2Proof.Machine.execStatusFrameSend t n s
  | .capsFrameSend t n c m => Sys2Proof.Machine.execCapsFrameSend t n c m s
  | .offsetCorrection t n => Sys2Proof.Machine.execOffsetCorrection t n s
  | .rateCorrection t n => Sys2Proof.Machine.execRateCorrection t n s
  | .shutterPhaseCheck t n c k high => Sys2Proof.Machine.execShutterPhaseCheck t n c k high s
  | .syncHoldover t n => Sys2Proof.Machine.execSyncHoldover t n s
  | .timeStep t n c => Sys2Proof.Machine.execTimeStep t n c s
  | .channelIntegrated t n c => Sys2Proof.Machine.execChannelIntegrated t n c s
  | .joinTimeout t n c => Sys2Proof.Machine.execJoinTimeout t n c s
  | .peerSkew t n => Sys2Proof.Machine.execPeerSkew t n s
  | .channelLost t n c => Sys2Proof.Machine.execChannelLost t n c s
  | .almanacSwitch t n => Sys2Proof.Machine.execAlmanacSwitch t n s
  | .sessionIdleTimeout t num => Sys2Proof.Machine.execSessionIdleTimeout t num s
  | .sessionDropped t num => Sys2Proof.Machine.execSessionDropped t num s
  | .piecewiseSnapshotExpiry t n session => Sys2Proof.Machine.execPiecewiseSnapshotExpiry t n session s
  | .healthRecordLatch t n => Sys2Proof.Machine.execHealthRecordLatch t n s
  | .memoryScrub t n a e => Sys2Proof.Machine.execMemoryScrub t n a e s
  | .lifetimeCounterWrite t n => Sys2Proof.Machine.execLifetimeCounterWrite t n s
  | .thermalCycleSample t n => Sys2Proof.Machine.execThermalCycleSample t n s
  | .lockstepMismatch t n a => Sys2Proof.Machine.execLockstepMismatch t n a s
  | .votedIsolated t n => Sys2Proof.Machine.execVotedIsolated t n s
  | .calderaSet t n => Sys2Proof.Machine.execCalderaSet t n s
  | .torqueShadow t n => Sys2Proof.Machine.execTorqueShadow t n s
  | .profileReseed t n => Sys2Proof.Machine.execProfileReseed t n s
  | .deputySelftestFail t n => Sys2Proof.Machine.execDeputySelftestFail t n s
  | .profileShadow t n => Sys2Proof.Machine.execProfileShadow t n s
  | .linkSilence t n target => Sys2Proof.Machine.execLinkSilence t n target s
  | .epochClaim t n target => Sys2Proof.Machine.execEpochClaim t n target s
  | .dispute t n target => Sys2Proof.Machine.execDispute t n target s
  | .disputeTimeout t n target => Sys2Proof.Machine.execDisputeTimeout t n target s
  | .leaderHandover t n => Sys2Proof.Machine.execLeaderHandover t n s
  | .leaderReturn t n => Sys2Proof.Machine.execLeaderReturn t n s
  | .deputyAssign t n => Sys2Proof.Machine.execDeputyAssign t n s
  | .deputyShadowApply t n => Sys2Proof.Machine.execDeputyShadowApply t n s
  | .shadowSnapshotDone t n => Sys2Proof.Machine.execShadowSnapshotDone t n s
  | .rejoinRecordsCopied t n => Sys2Proof.Machine.execRejoinRecordsCopied t n s
  | .rejoinSnapshotReceived t n => Sys2Proof.Machine.execRejoinSnapshotReceived t n s
  | .rejoinConverged t n => Sys2Proof.Machine.execRejoinConverged t n s
  | .rejoinRampEnd t n => Sys2Proof.Machine.execRejoinRampEnd t n s
  | .rejoinFail t n => Sys2Proof.Machine.execRejoinFail t n s
  | .rejoinRetry t n => Sys2Proof.Machine.execRejoinRetry t n s
  | .cmdHold t => Sys2Proof.Machine.execCmdHold t s
  | .lossOfCommand t => Sys2Proof.Machine.execLossOfCommand t s
  | .legInterlock t n x p => Sys2Proof.Machine.execLegInterlock t n x p s
  | .legDidt t n x p didt since held => Sys2Proof.Machine.execLegDidt t n x p didt since held s
  | .setOvercurrent t n x ua held since => Sys2Proof.Machine.execSetOvercurrent t n x ua held since s
  | .bootstrapRefresh t n x p mv => Sys2Proof.Machine.execBootstrapRefresh t n x p mv s
  | .bootUv t n x p mv => Sys2Proof.Machine.execBootUv t n x p mv s
  | .gateServoSaturation t n x p => Sys2Proof.Machine.execGateServoSaturation t n x p s
  | .offStateDiagnostics t n m => Sys2Proof.Machine.execOffStateDiagnostics t n m s
  | .firmwareGeyser t n mv => Sys2Proof.Machine.execFirmwareGeyser t n mv s
  | .hardwareGeyser t n mv => Sys2Proof.Machine.execHardwareGeyser t n mv s
  | .geyserCurrentCheck t n mv cur => Sys2Proof.Machine.execGeyserCurrentCheck t n mv cur s
  | .geyserNotBlocking t n cur held => Sys2Proof.Machine.execGeyserNotBlocking t n cur held s
  | .geyserHot t n temp => Sys2Proof.Machine.execGeyserHot t n temp s
  | .geyserHotRelease t n temp => Sys2Proof.Machine.execGeyserHotRelease t n temp s
  | .activeShort t n mv => Sys2Proof.Machine.execActiveShort t n mv s
  | .activeShortEnd t n x mv => Sys2Proof.Machine.execActiveShortEnd t n x mv s
  | .inputDisconnectOpen t n mv => Sys2Proof.Machine.execInputDisconnectOpen t n mv s
  | .inputDisconnectClose t n vsup mv held => Sys2Proof.Machine.execInputDisconnectClose t n vsup mv held s
  | .windowLimited t n x => Sys2Proof.Machine.execWindowLimited t n x s
  | .windowLimitedClear t n x => Sys2Proof.Machine.execWindowLimitedClear t n x s
  | .senseMismatch t n x p => Sys2Proof.Machine.execSenseMismatch t n x p s
  | .carrierUnlock t n => Sys2Proof.Machine.execCarrierUnlock t n s
  | .i2tLimit t n x => Sys2Proof.Machine.execI2tLimit t n x s
  | .i2tRecover t n x => Sys2Proof.Machine.execI2tRecover t n x s
  | .setsStartSwitching t => Sys2Proof.Machine.execSetsStartSwitching t s
  | .runEntryComplete t => Sys2Proof.Machine.execRunEntryComplete t s
  | .steerHoldStart t => Sys2Proof.Machine.execSteerHoldStart t s
  | .brakeHoldStart t => Sys2Proof.Machine.execBrakeHoldStart t s
  | .brakeHoldDwell t => Sys2Proof.Machine.execBrakeHoldDwell t s
  | .catchSpinEnd t n m => Sys2Proof.Machine.execCatchSpinEnd t n m s
  | .angleAcquisitionEnd t x => Sys2Proof.Machine.execAngleAcquisitionEnd t x s
  | .polarityDetection t n ms mb => Sys2Proof.Machine.execPolarityDetection t n ms mb s
  | .polarityCompare t x => Sys2Proof.Machine.execPolarityCompare t x s
  | .consensusLost t x => Sys2Proof.Machine.execConsensusLost t x s
  | .angleSuspect t n x => Sys2Proof.Machine.execAngleSuspect t n x s
  | .angleOutlier t n x => Sys2Proof.Machine.execAngleOutlier t n x s
  | .obsInjFault t n x => Sys2Proof.Machine.execObsInjFault t n x s
  | .obsPsiMismatch t n x => Sys2Proof.Machine.execObsPsiMismatch t n x s
  | .svccFault t n mv held => Sys2Proof.Machine.execSvccFault t n mv held s
  | .svccRecover t n mv held => Sys2Proof.Machine.execSvccRecover t n mv held s
  | .svccRetry t n => Sys2Proof.Machine.execSvccRetry t n s
  | .quadInvalid t n => Sys2Proof.Machine.execQuadInvalid t n s
  | .quadOverrate t n => Sys2Proof.Machine.execQuadOverrate t n s
  | .quadRecover t n => Sys2Proof.Machine.execQuadRecover t n s
  | .switchChange t n k high held => Sys2Proof.Machine.execSwitchChange t n k high held s
  | .chatter t n k ats => Sys2Proof.Machine.execChatter t n k ats s
  | .chatterEnd t n k high held => Sys2Proof.Machine.execChatterEnd t n k high held s
  | .stuck t n k => Sys2Proof.Machine.execStuck t n k s
  | .compareFire t n k stamp v => Sys2Proof.Machine.execCompareFire t n k stamp v s
  | .homingEndDetected t => Sys2Proof.Machine.execHomingEndDetected t s
  | .homingSwitchUnexpected t => Sys2Proof.Machine.execHomingSwitchUnexpected t s
  | .brakeRetractDone t => Sys2Proof.Machine.execBrakeRetractDone t s
  | .brakeKissPoint t => Sys2Proof.Machine.execBrakeKissPoint t s
  | .brakeStiffnessPoint t => Sys2Proof.Machine.execBrakeStiffnessPoint t s
  | .homingDone t x => Sys2Proof.Machine.execHomingDone t x s
  | .homingTimeout t => Sys2Proof.Machine.execHomingTimeout t s
  | .wake t n held => Sys2Proof.Machine.execWake t n held s
  | .enaFilterChange t n on held => Sys2Proof.Machine.execEnaFilterChange t n on held s
  | .enaTestTimeout t n => Sys2Proof.Machine.execEnaTestTimeout t n s
  | .enaWithdrawn t n => Sys2Proof.Machine.execEnaWithdrawn t n s
  | .stopToReady t => Sys2Proof.Machine.execStopToReady t s
  | .enaSleepDelay t => Sys2Proof.Machine.execEnaSleepDelay t s
  | .dormantEntry t => Sys2Proof.Machine.execDormantEntry t s
  | .serviceTimeout t => Sys2Proof.Machine.execServiceTimeout t s
  | .bootWaitTimeout t => Sys2Proof.Machine.execBootWaitTimeout t s
  | .bootToDormant t held => Sys2Proof.Machine.execBootToDormant t held s
  | .voteLineTest t seen => Sys2Proof.Machine.execVoteLineTest t seen s
  | .fwTrialTimeout t => Sys2Proof.Machine.execFwTrialTimeout t s
  | .rollbackRaised t => Sys2Proof.Machine.execRollbackRaised t s
  | .supplyShed t n vsup link => Sys2Proof.Machine.execSupplyShed t n vsup link s
  | .supplyQuench t n v held => Sys2Proof.Machine.execSupplyQuench t n v held s
  | .supplyRestart t n v held => Sys2Proof.Machine.execSupplyRestart t n v held s
  | .supplyOvOpen t n mv => Sys2Proof.Machine.execSupplyOvOpen t n mv s
  | .supplyOvClose t n mv held => Sys2Proof.Machine.execSupplyOvClose t n mv held s
  | .disconnectBlock t n vsup mv => Sys2Proof.Machine.execDisconnectBlock t n vsup mv s
  | .prechargeComplete t n vsup mv => Sys2Proof.Machine.execPrechargeComplete t n vsup mv s
  | .prechargeRetry t n => Sys2Proof.Machine.execPrechargeRetry t n s
  | .resetAssert t n src => Sys2Proof.Machine.execResetAssert t n src s
  | .externalReset t n low => Sys2Proof.Machine.execExternalReset t n low s
  | .rstHandshakeSample t n low => Sys2Proof.Machine.execRstHandshakeSample t n low s
  | .resetRelease t n b => Sys2Proof.Machine.execResetRelease t n b s
  | .clockQualified t n d taps count => Sys2Proof.Machine.execClockQualified t n d taps count s
  | .clockQualFail t n d waited => Sys2Proof.Machine.execClockQualFail t n d waited s
  | .clockQualRetry t n => Sys2Proof.Machine.execClockQualRetry t n s
  | .clockLoss t n d taps => Sys2Proof.Machine.execClockLoss t n d taps s
  | .watchdog t n => Sys2Proof.Machine.execWatchdog t n s
  | .watchdogReset t n => Sys2Proof.Machine.execWatchdogReset t n s
  | .voteWithdrawn t n => Sys2Proof.Machine.execVoteWithdrawn t n s
  | .quadEdge t n v stable => Sys2Proof.Machine.execQuadEdge t n v stable s
  | .fwVerifyComplete t => Sys2Proof.Machine.execFwVerifyComplete t s
  | .attestReportDone t n => Sys2Proof.Machine.execAttestReportDone t n s
  | .bleederOff t n mv => Sys2Proof.Machine.execBleederOff t n mv s
  | .disconnectConductForward t n vsup mv => Sys2Proof.Machine.execDisconnectConductForward t n vsup mv s
  | .busOffRecovery t bits => Sys2Proof.Machine.execBusOffRecovery t bits s
  | .dominantTimeout t held => Sys2Proof.Machine.execDominantTimeout t held s

end Sys2Proof.Machine
end

