-- ==== Sys2Proof/Safety.lean ====
section
/-! DEFINITION. What counts as a safe run, and the words the statements use: which lane takes a request and what answering
does, the invariant every step keeps, and what no command ever takes back. -/

namespace Sys2Proof.Machine

/-! ### Requests -/

/-- Lane n answers the request: it is the answering lane of R329, the request addresses it or no lane in particular, the mode
and the carriage take it in, and every check of orders 3 to 12 of R335 passes in the state it meets. -/
def State.Takes (s : State) (n : Lane) (op : Half) (r : Req) (peer : PeerPart) : Prop :=
  (s.at_ r.at_).answerer r = some n ∧ (Lane.ofCode? r.target = none ∨ Lane.ofCode? r.target = some n) ∧
  takesIn (s.met op r peer).m.mode op r = true ∧ ((s.met op r peer).lane n).check (s.met op r peer).m.mode op r = none

/-- The state once lane n has answered an accepted request: the reply sent, the request noted in its session table and, where its
effect reaches every lane (R498), in all of them, the Service time-out restarted. -/
def State.answered (p : State) (n : Lane) (op : Half) (r : Req) (a : Answer) : State :=
  (((p.reply n op r a).onLane n (fun l => l.noteRequest op r p.now)).noteSpread op r).noteAccepted

/-- The call a lane sees of a request in a state. -/
def State.callAt (p : State) (n : Lane) (op : Half) (r : Req) : Call := (p.lane n).call op r

/-- A piecewise read at an offset finds a byte to answer (R352): the offset lies below the record's length, at offset 0 of the
present record, later of the snapshot taken for the session and opcode. -/
def State.pieceOk (p : State) (n : Lane) (c : Call) (off : Nat) (record : List Byte) : Bool :=
  decide (off < ((if off = 0 then some record else (p.lane n).sec.snap c.r.session c.op p.now).getD []).length)

/-! ### The invariant -/

/-- What every lane keeps: its memory in the canonical form, a fault log within its ring (R97), a reply queue within its 32
places (R338). -/
def LaneSt.Sound (l : LaneSt) : Prop :=
  Memory.wf l.mem = true ∧ l.log.length ≤ logSize ∧ l.net.replies.length ≤ 32

/-- The invariant of the module: every lane is sound. -/
def State.Inv (s : State) : Prop := ∀ n : Lane, (s.lane n).Sound

/-- What the one-time programmable memory of a lane never takes back: the serial number, a written owner hash, a retired owner
key, and each anti-rollback step (R429, R430). -/
def LaneSt.OneWay (a b : LaneSt) : Prop :=
  b.serial = a.serial ∧ (a.sec.owner0.isSome = true → b.sec.owner0 = a.sec.owner0) ∧
  (a.sec.owner1.isSome = true → b.sec.owner1 = a.sec.owner1) ∧ (a.sec.retired = true → b.sec.retired = true) ∧
  a.sec.rollback <+: b.sec.rollback

/-- A state in which nothing one-way has been taken back since another. -/
def State.OneWay (s t : State) : Prop := ∀ n : Lane, LaneSt.OneWay (s.lane n) (t.lane n)

/-! ### The commands -/

end Sys2Proof.Machine

namespace Sys2Proof
open Machine

/-- The instant a command takes place: its own for an event, the request's for a request. -/
def Instr.instant : Instr → Nat
  | .modeRequestReady r => r.at_
  | .modeRequestRun r => r.at_
  | .modeRequestService r => r.at_
  | .modeRequestDormant r => r.at_
  | .modeStatus r => r.at_
  | .enableTestStatus r => r.at_
  | .steerAngle r => r.at_
  | .steerTorque r => r.at_
  | .steerMoveAt r => r.at_
  | .steerHold r => r.at_
  | .brakeForce r => r.at_
  | .brakePosition r => r.at_
  | .brakeRelease r => r.at_
  | .brakeParkApply r => r.at_
  | .brakeParkRelease r => r.at_
  | .profileLimits r => r.at_
  | .vectorMove r => r.at_
  | .paramReadKey r => r.at_
  | .paramReadMemory r => r.at_
  | .paramWrite r => r.at_
  | .paramCommit r => r.at_
  | .paramCommitDone t => t
  | .paramImageInfo r => r.at_
  | .measureLoadStart r => r.at_
  | .measureLoadRead r => r.at_
  | .measureLoadComplete t _ _ _ => t
  | .measureCableStart r => r.at_
  | .measureCableRead r => r.at_
  | .measureCableComplete t _ _ _ => t
  | .measureSupply r => r.at_
  | .capsExchange r => r.at_
  | .selftestRun r => r.at_
  | .selftestComplete t _ _ _ _ => t
  | .selftestResult r => r.at_
  | .healthRead r => r.at_
  | .attestChallenge r => r.at_
  | .sessionOpen r => r.at_
  | .sessionClose r => r.at_
  | .keyProvision r => r.at_
  | .fwBegin r => r.at_
  | .fwChunk r => r.at_
  | .fwVerifyStart r => r.at_
  | .fwVerifyRead r => r.at_
  | .fwActivate r => r.at_
  | .timeStatus r => r.at_
  | .scheduleLoad r => r.at_
  | .logRead r => r.at_
  | .logClear r => r.at_
  | .homingStart r => r.at_
  | .homingStartAbort r => r.at_
  | .homingStatus r => r.at_
  | .compareSet r => r.at_
  | .arbitrate r => r.at_
  | .quench r => r.at_
  | .quenchTimeout t => t
  | .calderaClear r => r.at_
  | .commandFrame t _ _ _ => t
  | .nullFrame t _ _ _ => t
  | .referenceFrame t _ _ _ => t
  | .capsFrame t _ _ _ => t
  | .hostPortFrame t _ _ _ => t
  | .hostPortSegmentTimeout t => t
  | .crossLaneFrameCommit t _ _ _ => t
  | .linkLossOfSignal t _ _ => t
  | .linkDown t _ _ => t
  | .linkUp t _ _ => t
  | .twinFrame t _ _ => t
  | .twinLinkDown t _ => t
  | .enableStateItem t _ _ _ => t
  | .inboundFrameItem t _ _ _ _ => t
  | .outboundStatusItem t _ _ _ _ _ => t
  | .relayItemDrop t _ _ => t
  | .almanacSegmentItem t _ _ _ => t
  | .scheduleReportItem t _ _ _ _ _ => t
  | .timeItem t _ _ _ _ _ => t
  | .sessionItem t _ _ _ => t
  | .supplyItem t _ _ _ => t
  | .bootReportItem t _ _ _ => t
  | .firmwareCopyItem t _ _ _ _ _ => t
  | .keyItem t _ _ _ => t
  | .sentFrame t _ _ _ => t
  | .sentSerialMessage t _ _ _ _ _ => t
  | .sentTimeout t _ _ => t
  | .applicationCycle t _ => t
  | .outerLoopStep t _ => t
  | .pwmPeriod t _ _ => t
  | .currentLoopUpdate t _ _ _ => t
  | .auxConversion t _ _ => t
  | .statusFrameSend t _ => t
  | .capsFrameSend t _ _ _ => t
  | .offsetCorrection t _ => t
  | .rateCorrection t _ => t
  | .shutterPhaseCheck t _ _ _ _ => t
  | .syncHoldover t _ => t
  | .timeStep t _ _ => t
  | .channelIntegrated t _ _ => t
  | .joinTimeout t _ _ => t
  | .peerSkew t _ => t
  | .channelLost t _ _ => t
  | .almanacSwitch t _ => t
  | .sessionIdleTimeout t _ => t
  | .sessionDropped t _ => t
  | .piecewiseSnapshotExpiry t _ _ => t
  | .healthRecordLatch t _ => t
  | .memoryScrub t _ _ _ => t
  | .lifetimeCounterWrite t _ => t
  | .thermalCycleSample t _ => t
  | .lockstepMismatch t _ _ => t
  | .votedIsolated t _ => t
  | .calderaSet t _ => t
  | .torqueShadow t _ => t
  | .profileReseed t _ => t
  | .deputySelftestFail t _ => t
  | .profileShadow t _ => t
  | .linkSilence t _ _ => t
  | .epochClaim t _ _ => t
  | .dispute t _ _ => t
  | .disputeTimeout t _ _ => t
  | .leaderHandover t _ => t
  | .leaderReturn t _ => t
  | .deputyAssign t _ => t
  | .deputyShadowApply t _ => t
  | .shadowSnapshotDone t _ => t
  | .rejoinRecordsCopied t _ => t
  | .rejoinSnapshotReceived t _ => t
  | .rejoinConverged t _ => t
  | .rejoinRampEnd t _ => t
  | .rejoinFail t _ => t
  | .rejoinRetry t _ => t
  | .cmdHold t => t
  | .lossOfCommand t => t
  | .legInterlock t _ _ _ => t
  | .legDidt t _ _ _ _ _ _ => t
  | .setOvercurrent t _ _ _ _ _ => t
  | .bootstrapRefresh t _ _ _ _ => t
  | .bootUv t _ _ _ _ => t
  | .gateServoSaturation t _ _ _ => t
  | .offStateDiagnostics t _ _ => t
  | .firmwareGeyser t _ _ => t
  | .hardwareGeyser t _ _ => t
  | .geyserCurrentCheck t _ _ _ => t
  | .geyserNotBlocking t _ _ _ => t
  | .geyserHot t _ _ => t
  | .geyserHotRelease t _ _ => t
  | .activeShort t _ _ => t
  | .activeShortEnd t _ _ _ => t
  | .inputDisconnectOpen t _ _ => t
  | .inputDisconnectClose t _ _ _ _ => t
  | .windowLimited t _ _ => t
  | .windowLimitedClear t _ _ => t
  | .senseMismatch t _ _ _ => t
  | .carrierUnlock t _ => t
  | .i2tLimit t _ _ => t
  | .i2tRecover t _ _ => t
  | .setsStartSwitching t => t
  | .runEntryComplete t => t
  | .steerHoldStart t => t
  | .brakeHoldStart t => t
  | .brakeHoldDwell t => t
  | .catchSpinEnd t _ _ => t
  | .angleAcquisitionEnd t _ => t
  | .polarityDetection t _ _ _ => t
  | .polarityCompare t _ => t
  | .consensusLost t _ => t
  | .angleSuspect t _ _ => t
  | .angleOutlier t _ _ => t
  | .obsInjFault t _ _ => t
  | .obsPsiMismatch t _ _ => t
  | .svccFault t _ _ _ => t
  | .svccRecover t _ _ _ => t
  | .svccRetry t _ => t
  | .quadInvalid t _ => t
  | .quadOverrate t _ => t
  | .quadRecover t _ => t
  | .switchChange t _ _ _ _ => t
  | .chatter t _ _ _ => t
  | .chatterEnd t _ _ _ _ => t
  | .stuck t _ _ => t
  | .compareFire t _ _ _ _ => t
  | .homingEndDetected t => t
  | .homingSwitchUnexpected t => t
  | .brakeRetractDone t => t
  | .brakeKissPoint t => t
  | .brakeStiffnessPoint t => t
  | .homingDone t _ => t
  | .homingTimeout t => t
  | .wake t _ _ => t
  | .enaFilterChange t _ _ _ => t
  | .enaTestTimeout t _ => t
  | .enaWithdrawn t _ => t
  | .stopToReady t => t
  | .enaSleepDelay t => t
  | .dormantEntry t => t
  | .serviceTimeout t => t
  | .bootWaitTimeout t => t
  | .bootToDormant t _ => t
  | .voteLineTest t _ => t
  | .fwTrialTimeout t => t
  | .rollbackRaised t => t
  | .supplyShed t _ _ _ => t
  | .supplyQuench t _ _ _ => t
  | .supplyRestart t _ _ _ => t
  | .supplyOvOpen t _ _ => t
  | .supplyOvClose t _ _ _ => t
  | .disconnectBlock t _ _ _ => t
  | .prechargeComplete t _ _ _ => t
  | .prechargeRetry t _ => t
  | .resetAssert t _ _ => t
  | .externalReset t _ _ => t
  | .rstHandshakeSample t _ _ => t
  | .resetRelease t _ _ => t
  | .clockQualified t _ _ _ _ => t
  | .clockQualFail t _ _ _ => t
  | .clockQualRetry t _ => t
  | .clockLoss t _ _ _ => t
  | .watchdog t _ => t
  | .watchdogReset t _ => t
  | .voteWithdrawn t _ => t
  | .quadEdge t _ _ _ => t
  | .fwVerifyComplete t => t
  | .attestReportDone t _ => t
  | .bleederOff t _ _ => t
  | .disconnectConductForward t _ _ _ => t
  | .busOffRecovery t _ => t
  | .dominantTimeout t _ => t

/-- The request of a command, none for an event. -/
def Instr.request? : Instr → Option Req
  | .modeRequestReady r => some r
  | .modeRequestRun r => some r
  | .modeRequestService r => some r
  | .modeRequestDormant r => some r
  | .modeStatus r => some r
  | .enableTestStatus r => some r
  | .steerAngle r => some r
  | .steerTorque r => some r
  | .steerMoveAt r => some r
  | .steerHold r => some r
  | .brakeForce r => some r
  | .brakePosition r => some r
  | .brakeRelease r => some r
  | .brakeParkApply r => some r
  | .brakeParkRelease r => some r
  | .profileLimits r => some r
  | .vectorMove r => some r
  | .paramReadKey r => some r
  | .paramReadMemory r => some r
  | .paramWrite r => some r
  | .paramCommit r => some r
  | .paramCommitDone _ => none
  | .paramImageInfo r => some r
  | .measureLoadStart r => some r
  | .measureLoadRead r => some r
  | .measureLoadComplete _ _ _ _ => none
  | .measureCableStart r => some r
  | .measureCableRead r => some r
  | .measureCableComplete _ _ _ _ => none
  | .measureSupply r => some r
  | .capsExchange r => some r
  | .selftestRun r => some r
  | .selftestComplete _ _ _ _ _ => none
  | .selftestResult r => some r
  | .healthRead r => some r
  | .attestChallenge r => some r
  | .sessionOpen r => some r
  | .sessionClose r => some r
  | .keyProvision r => some r
  | .fwBegin r => some r
  | .fwChunk r => some r
  | .fwVerifyStart r => some r
  | .fwVerifyRead r => some r
  | .fwActivate r => some r
  | .timeStatus r => some r
  | .scheduleLoad r => some r
  | .logRead r => some r
  | .logClear r => some r
  | .homingStart r => some r
  | .homingStartAbort r => some r
  | .homingStatus r => some r
  | .compareSet r => some r
  | .arbitrate r => some r
  | .quench r => some r
  | .quenchTimeout _ => none
  | .calderaClear r => some r
  | .commandFrame _ _ _ _ => none
  | .nullFrame _ _ _ _ => none
  | .referenceFrame _ _ _ _ => none
  | .capsFrame _ _ _ _ => none
  | .hostPortFrame _ _ _ _ => none
  | .hostPortSegmentTimeout _ => none
  | .crossLaneFrameCommit _ _ _ _ => none
  | .linkLossOfSignal _ _ _ => none
  | .linkDown _ _ _ => none
  | .linkUp _ _ _ => none
  | .twinFrame _ _ _ => none
  | .twinLinkDown _ _ => none
  | .enableStateItem _ _ _ _ => none
  | .inboundFrameItem _ _ _ _ _ => none
  | .outboundStatusItem _ _ _ _ _ _ => none
  | .relayItemDrop _ _ _ => none
  | .almanacSegmentItem _ _ _ _ => none
  | .scheduleReportItem _ _ _ _ _ _ => none
  | .timeItem _ _ _ _ _ _ => none
  | .sessionItem _ _ _ _ => none
  | .supplyItem _ _ _ _ => none
  | .bootReportItem _ _ _ _ => none
  | .firmwareCopyItem _ _ _ _ _ _ => none
  | .keyItem _ _ _ _ => none
  | .sentFrame _ _ _ _ => none
  | .sentSerialMessage _ _ _ _ _ _ => none
  | .sentTimeout _ _ _ => none
  | .applicationCycle _ _ => none
  | .outerLoopStep _ _ => none
  | .pwmPeriod _ _ _ => none
  | .currentLoopUpdate _ _ _ _ => none
  | .auxConversion _ _ _ => none
  | .statusFrameSend _ _ => none
  | .capsFrameSend _ _ _ _ => none
  | .offsetCorrection _ _ => none
  | .rateCorrection _ _ => none
  | .shutterPhaseCheck _ _ _ _ _ => none
  | .syncHoldover _ _ => none
  | .timeStep _ _ _ => none
  | .channelIntegrated _ _ _ => none
  | .joinTimeout _ _ _ => none
  | .peerSkew _ _ => none
  | .channelLost _ _ _ => none
  | .almanacSwitch _ _ => none
  | .sessionIdleTimeout _ _ => none
  | .sessionDropped _ _ => none
  | .piecewiseSnapshotExpiry _ _ _ => none
  | .healthRecordLatch _ _ => none
  | .memoryScrub _ _ _ _ => none
  | .lifetimeCounterWrite _ _ => none
  | .thermalCycleSample _ _ => none
  | .lockstepMismatch _ _ _ => none
  | .votedIsolated _ _ => none
  | .calderaSet _ _ => none
  | .torqueShadow _ _ => none
  | .profileReseed _ _ => none
  | .deputySelftestFail _ _ => none
  | .profileShadow _ _ => none
  | .linkSilence _ _ _ => none
  | .epochClaim _ _ _ => none
  | .dispute _ _ _ => none
  | .disputeTimeout _ _ _ => none
  | .leaderHandover _ _ => none
  | .leaderReturn _ _ => none
  | .deputyAssign _ _ => none
  | .deputyShadowApply _ _ => none
  | .shadowSnapshotDone _ _ => none
  | .rejoinRecordsCopied _ _ => none
  | .rejoinSnapshotReceived _ _ => none
  | .rejoinConverged _ _ => none
  | .rejoinRampEnd _ _ => none
  | .rejoinFail _ _ => none
  | .rejoinRetry _ _ => none
  | .cmdHold _ => none
  | .lossOfCommand _ => none
  | .legInterlock _ _ _ _ => none
  | .legDidt _ _ _ _ _ _ _ => none
  | .setOvercurrent _ _ _ _ _ _ => none
  | .bootstrapRefresh _ _ _ _ _ => none
  | .bootUv _ _ _ _ _ => none
  | .gateServoSaturation _ _ _ _ => none
  | .offStateDiagnostics _ _ _ => none
  | .firmwareGeyser _ _ _ => none
  | .hardwareGeyser _ _ _ => none
  | .geyserCurrentCheck _ _ _ _ => none
  | .geyserNotBlocking _ _ _ _ => none
  | .geyserHot _ _ _ => none
  | .geyserHotRelease _ _ _ => none
  | .activeShort _ _ _ => none
  | .activeShortEnd _ _ _ _ => none
  | .inputDisconnectOpen _ _ _ => none
  | .inputDisconnectClose _ _ _ _ _ => none
  | .windowLimited _ _ _ => none
  | .windowLimitedClear _ _ _ => none
  | .senseMismatch _ _ _ _ => none
  | .carrierUnlock _ _ => none
  | .i2tLimit _ _ _ => none
  | .i2tRecover _ _ _ => none
  | .setsStartSwitching _ => none
  | .runEntryComplete _ => none
  | .steerHoldStart _ => none
  | .brakeHoldStart _ => none
  | .brakeHoldDwell _ => none
  | .catchSpinEnd _ _ _ => none
  | .angleAcquisitionEnd _ _ => none
  | .polarityDetection _ _ _ _ => none
  | .polarityCompare _ _ => none
  | .consensusLost _ _ => none
  | .angleSuspect _ _ _ => none
  | .angleOutlier _ _ _ => none
  | .obsInjFault _ _ _ => none
  | .obsPsiMismatch _ _ _ => none
  | .svccFault _ _ _ _ => none
  | .svccRecover _ _ _ _ => none
  | .svccRetry _ _ => none
  | .quadInvalid _ _ => none
  | .quadOverrate _ _ => none
  | .quadRecover _ _ => none
  | .switchChange _ _ _ _ _ => none
  | .chatter _ _ _ _ => none
  | .chatterEnd _ _ _ _ _ => none
  | .stuck _ _ _ => none
  | .compareFire _ _ _ _ _ => none
  | .homingEndDetected _ => none
  | .homingSwitchUnexpected _ => none
  | .brakeRetractDone _ => none
  | .brakeKissPoint _ => none
  | .brakeStiffnessPoint _ => none
  | .homingDone _ _ => none
  | .homingTimeout _ => none
  | .wake _ _ _ => none
  | .enaFilterChange _ _ _ _ => none
  | .enaTestTimeout _ _ => none
  | .enaWithdrawn _ _ => none
  | .stopToReady _ => none
  | .enaSleepDelay _ => none
  | .dormantEntry _ => none
  | .serviceTimeout _ => none
  | .bootWaitTimeout _ => none
  | .bootToDormant _ _ => none
  | .voteLineTest _ _ => none
  | .fwTrialTimeout _ => none
  | .rollbackRaised _ => none
  | .supplyShed _ _ _ _ => none
  | .supplyQuench _ _ _ _ => none
  | .supplyRestart _ _ _ _ => none
  | .supplyOvOpen _ _ _ => none
  | .supplyOvClose _ _ _ _ => none
  | .disconnectBlock _ _ _ _ => none
  | .prechargeComplete _ _ _ _ => none
  | .prechargeRetry _ _ => none
  | .resetAssert _ _ _ => none
  | .externalReset _ _ _ => none
  | .rstHandshakeSample _ _ _ => none
  | .resetRelease _ _ _ => none
  | .clockQualified _ _ _ _ _ => none
  | .clockQualFail _ _ _ _ => none
  | .clockQualRetry _ _ => none
  | .clockLoss _ _ _ _ => none
  | .watchdog _ _ => none
  | .watchdogReset _ _ => none
  | .voteWithdrawn _ _ => none
  | .quadEdge _ _ _ _ => none
  | .fwVerifyComplete _ => none
  | .attestReportDone _ _ => none
  | .bleederOff _ _ _ => none
  | .disconnectConductForward _ _ _ _ => none
  | .busOffRecovery _ _ => none
  | .dominantTimeout _ _ => none

/-- The commands that may clear a lane's Caldera (R50, R402, R413): the two resets that are a power cycle, CALDERA_CLEAR, and the
carriers of requests, an application cycle and a segment of the host port. -/
def Instr.mayClear : Instr → Bool
  | .resetAssert _ _ (.supply _ _) => true
  | .resetAssert _ _ .supplyRestart => true
  | .supplyRestart _ _ _ _ => true
  | .calderaClear _ => true
  | .applicationCycle _ _ => true
  | .hostPortFrame _ _ _ _ => true
  | _ => false

/-- The commands that may write a lane's memory: the segments of a firmware transfer and of an Almanac and their carriers (R366), the
Almanac of the Leader (R295), and the copy of a governing package (R440). -/
def Instr.mayWrite : Instr → Bool
  | .scheduleLoad _ => true
  | .almanacSegmentItem _ _ _ _ => true
  | .firmwareCopyItem _ _ _ _ _ _ => true
  | .fwChunk _ => true
  | .applicationCycle _ _ => true
  | .hostPortFrame _ _ _ _ => true
  | _ => false

/-- The bytes of a request's packet on the wire: header, parameters, CRC and, where the request carries one, the MAC (R327 to R331). -/
def Req.wire (r : Req) (op : Half) : List Byte := r.bytes op ++ (match r.mac with | some m => beBytes 8 m.toNat | none => [])

/-- What a request stands for in the protocol: its opcode, the request with the parameter its row fixes, the operation at the lane
that answers and the part of the others (R335). -/
def Instr.asRequest : Instr → Option (Half × Req × Handler × PeerPart)
  | .modeRequestReady r => some (0x0101, (r.withByte 0 2), handleModeRequest, noPart)
  | .modeRequestRun r => some (0x0101, (r.withByte 0 3), handleModeRequest, noPart)
  | .modeRequestService r => some (0x0101, (r.withByte 0 5), handleModeRequest, noPart)
  | .modeRequestDormant r => some (0x0101, (r.withByte 0 0), handleModeRequest, noPart)
  | .modeStatus r => some (0x0102, r, handleModeStatus, noPart)
  | .enableTestStatus r => some (0x0110, r, handleEnableStatus, noPart)
  | .steerAngle r => some (0x0201, r, (motionHandler chkSteerAngle effSteerAngle false), (holdMotion chkSteerAngle))
  | .steerTorque r => some (0x0202, r, (motionHandler chkSteerTorque effSteerTorque false), (holdMotion chkSteerTorque))
  | .steerMoveAt r => some (0x0203, r, (motionHandler chkSteerMoveAt effSteerMoveAt false), (holdMotion chkSteerMoveAt))
  | .steerHold r => some (0x0204, r, (motionHandler chkSteerHold effSteerHold false), (holdMotion chkSteerHold))
  | .brakeForce r => some (0x0301, r, (motionHandler chkBrakeForce effBrakeForce true), (holdMotion chkBrakeForce))
  | .brakePosition r => some (0x0302, r, (motionHandler chkBrakePosition effBrakePosition true), (holdMotion chkBrakePosition))
  | .brakeRelease r => some (0x0303, r, (motionHandler chkBrakeRelease effBrakeRelease true), (holdMotion chkBrakeRelease))
  | .brakeParkApply r => some (0x0304, (r.withByte 0 0), (motionHandler chkBrakePark effBrakePark true), (holdMotion chkBrakePark))
  | .brakeParkRelease r => some (0x0304, (r.withByte 0 1), (motionHandler chkBrakePark effBrakePark true), (holdMotion chkBrakePark))
  | .profileLimits r => some (0x0401, r, handleProfileLimits, (holdMotion chkProfileLimits))
  | .vectorMove r => some (0x0402, r, (motionHandler chkVectorMove effVectorMove true), (holdMotion chkVectorMove))
  | .paramReadKey r => some (0x0501, (r.withByte 0 0), handleParamRead, noPart)
  | .paramReadMemory r => some (0x0501, (r.withByte 0 1), handleParamRead, noPart)
  | .paramWrite r => some (0x0502, r, handleParamWrite, noPart)
  | .paramCommit r => some (0x0503, r, handleParamCommit, noPart)
  | .paramImageInfo r => some (0x0504, r, handleImageInfo, noPart)
  | .measureLoadStart r => some (0x0601, (r.withByte 0 0), handleMeasureLoad, noPart)
  | .measureLoadRead r => some (0x0601, (r.withByte 0 1), handleMeasureLoad, noPart)
  | .measureCableStart r => some (0x0602, (r.withByte 0 0), handleMeasureCable, noPart)
  | .measureCableRead r => some (0x0602, (r.withByte 0 1), handleMeasureCable, noPart)
  | .measureSupply r => some (0x0603, r, handleMeasureSupply, noPart)
  | .capsExchange r => some (0x0604, r, handleCapsExchange, peerCapsExchange)
  | .selftestRun r => some (0x0701, r, handleSelftestRun, noPart)
  | .selftestResult r => some (0x0702, r, handleSelftestResult, noPart)
  | .healthRead r => some (0x0703, r, handleHealthRead, noPart)
  | .attestChallenge r => some (0x0801, r, handleAttest, noPart)
  | .sessionOpen r => some (0x0802, r, handleSessionOpen, noPart)
  | .sessionClose r => some (0x0803, r, handleSessionClose, noPart)
  | .keyProvision r => some (0x0804, r, handleKeyProvision, noPart)
  | .fwBegin r => some (0x0901, r, handleFwBegin, noPart)
  | .fwChunk r => some (0x0902, r, handleFwChunk, noPart)
  | .fwVerifyStart r => some (0x0903, (r.withByte 0 0), handleFwVerify, noPart)
  | .fwVerifyRead r => some (0x0903, (r.withByte 0 1), handleFwVerify, noPart)
  | .fwActivate r => some (0x0904, r, handleFwActivate, noPart)
  | .timeStatus r => some (0x0A01, r, handleTimeStatus, noPart)
  | .scheduleLoad r => some (0x0A02, r, handleScheduleLoad, noPart)
  | .logRead r => some (0x0B01, r, handleLogRead, noPart)
  | .logClear r => some (0x0B02, r, handleLogClear, noPart)
  | .homingStart r => some (0x0C01, (r.withByte 0 ((BitVec.ofNat 8 (rd r.params 0 1)) &&& 0x7F)), handleHomingStart, holdMotion chkHomingStart)
  | .homingStartAbort r => some (0x0C01, (r.withByte 0 ((BitVec.ofNat 8 (rd r.params 0 1)) ||| 0x80)), handleHomingStart, holdMotion chkHomingStart)
  | .homingStatus r => some (0x0C02, r, handleHomingStatus, noPart)
  | .compareSet r => some (0x0C03, r, handleCompareSet, holdMotion chkCompareSet)
  | .arbitrate r => some (0x0D01, r, handleArbitrate, peerArbitrate)
  | .quench r => some (0x0D02, r, handleQuench, peerQuench)
  | .calderaClear r => some (0x0D03, r, handleCalderaClear, noPart)
  | _ => none

/-- The commands that act on one lane alone, and that lane. -/
def Instr.ownLane : Instr → Option Lane
  | .commandFrame _ n _ _ => some n
  | .nullFrame _ n _ _ => some n
  | .referenceFrame _ n _ _ => some n
  | .capsFrame _ n _ _ => some n
  | .sentFrame _ n _ _ => some n
  | .sentTimeout _ n _ => some n
  | .currentLoopUpdate _ n _ _ => some n
  | .timeStep _ n _ => some n
  | .joinTimeout _ n _ => some n
  | .channelLost _ n _ => some n
  | .almanacSwitch _ n => some n
  | .piecewiseSnapshotExpiry _ n _ => some n
  | .healthRecordLatch _ n => some n
  | .lifetimeCounterWrite _ n => some n
  | .thermalCycleSample _ n => some n
  | .torqueShadow _ n => some n
  | .profileReseed _ n => some n
  | .linkSilence _ n _ => some n
  | .epochClaim _ n _ => some n
  | .disputeTimeout _ n _ => some n
  | .deputyAssign _ n => some n
  | .deputyShadowApply _ n => some n
  | .shadowSnapshotDone _ n => some n
  | .rejoinConverged _ n => some n
  | .bootstrapRefresh _ n _ _ _ => some n
  | .gateServoSaturation _ n _ _ => some n
  | .firmwareGeyser _ n _ => some n
  | .hardwareGeyser _ n _ => some n
  | .inputDisconnectOpen _ n _ => some n
  | .inputDisconnectClose _ n _ _ _ => some n
  | .windowLimited _ n _ => some n
  | .windowLimitedClear _ n _ => some n
  | .carrierUnlock _ n => some n
  | .i2tLimit _ n _ => some n
  | .i2tRecover _ n _ => some n
  | .polarityDetection _ n _ _ => some n
  | .obsInjFault _ n _ => some n
  | .obsPsiMismatch _ n _ => some n
  | .svccFault _ n _ _ => some n
  | .svccRetry _ n => some n
  | .quadRecover _ n => some n
  | .switchChange _ n _ _ _ => some n
  | .chatter _ n _ _ => some n
  | .chatterEnd _ n _ _ _ => some n
  | .stuck _ n _ => some n
  | .compareFire _ n _ _ _ => some n
  | .enaTestTimeout _ n => some n
  | .supplyOvClose _ n _ _ => some n
  | .disconnectBlock _ n _ _ => some n
  | .prechargeComplete _ n _ _ => some n
  | .prechargeRetry _ n => some n
  | .rstHandshakeSample _ n _ => some n
  | .clockQualified _ n _ _ _ => some n
  | .clockQualRetry _ n => some n
  | .quadEdge _ n _ _ => some n
  | .bleederOff _ n _ => some n
  | .disconnectConductForward _ n _ _ => some n
  | _ => none

end Sys2Proof

namespace Sys2Proof.Machine

/-- The opcode and the request a packet was read as, none for a broken one. -/
def Parsed.request : Parsed → Option (Half × Req)
  | .packet op r _ => some (op, r)
  | .broken _ _ _ => none

/-- An address of a memory that survives a reset (R25, R414). -/
def keptAt (a : Nat) : Bool := keptCell (a, 0)

/-- A lane's memory reads as before, except that what a reset does not keep may read as unlisted (R414). -/
def LaneSt.memKept (a b : LaneSt) : Prop :=
  ∀ x, Memory.read b.mem x = Memory.read a.mem x ∨ (keptAt x = false ∧ Memory.read b.mem x = Memory.unlisted)

end Sys2Proof.Machine
end

