-- ==== Sys2Proof/Certificates/Slice0/Obligations.lean ====
section
/-! DEFINITION. The statements for the provers. -/

open Sys2Proof Sys2Proof.Machine

/-- A MODE_REQUEST that passes every check of R335 at the answering lane is answered with the next state its target asks for: Ready from Run or Limp begins a controlled stop, Ready from Service ends Service, Run from Ready starts the energising sequence, Run from Limp, with no condition of Limp left, returns and is answered with ACCEPTED_PENDING, Service is entered at standstill, Dormant is prepared while every filtered ENA is inactive. The answer, the note in the session table and the Service time-out are the whole rest. A MODE_STATUS that passes every check is answered with OK and the 8 bytes of the mode status word, an ENABLE_TEST_STATUS with one byte per lane and a reserved byte; nothing but the reply and the note of the request changes.
(R267, R272, R273, R274, R179, R355, R357, R276) -/
def Obligations.ModeAndStatusRequestsComplete : Prop :=
  (∀ (s : State) (n : Lane) (r : Req),
    (s.Takes n 0x0101 (r.withByte 0 2) noPart →
      let p := s.met 0x0101 (r.withByte 0 2) noPart
      (p.m.mode = .run ∨ p.m.mode = .limp) →
      p.m.pend = p.m.mode →
      p.m.stopOn = false →
      exec (.modeRequestReady r) s = .next (p.answered n 0x0101 (r.withByte 0 2) (.pending (p.beginStop.onM (fun m => { m with pend := .ready, slowSince := none })) []))) ∧
    (s.Takes n 0x0101 (r.withByte 0 2) noPart →
      let p := s.met 0x0101 (r.withByte 0 2) noPart
      p.m.mode = .service →
      p.m.pend = .service →
      exec (.modeRequestReady r) s = .next (p.answered n 0x0101 (r.withByte 0 2) (if p.endService.m.mode = .ready then .ok p.endService [] else .pending p.endService []))) ∧
    (s.Takes n 0x0101 (r.withByte 0 3) noPart →
      let p := s.met 0x0101 (r.withByte 0 3) noPart
      p.m.mode = .ready →
      p.m.pend = .ready →
      p.somePermitted n = true →
      (p.lane n).stampBad = false →
      (p.lane n).par.defaults = false →
      p.occupied = false →
      exec (.modeRequestRun r) s = .next (p.answered n 0x0101 (r.withByte 0 3) (.pending ((p.onM (fun m => { m with pend := .run, runEntry := 1, diag := [], acq := [] })).takeEffect .runEntry) []))) ∧
    (s.Takes n 0x0101 (r.withByte 0 3) noPart →
      let p := s.met 0x0101 (r.withByte 0 3) noPart
      p.m.mode = .limp →
      p.m.pend = .limp →
      p.m.stopOn = false →
      p.limpDue n = false →
      exec (.modeRequestRun r) s = .next (p.answered n 0x0101 (r.withByte 0 3) (.pending (p.enterRun.onM (fun m => { m with stopReq := m.loc || m.holdOnly })) []))) ∧
    (s.Takes n 0x0101 (r.withByte 0 5) noPart →
      let p := s.met 0x0101 (r.withByte 0 5) noPart
      p.m.mode = .ready →
      p.m.pend = .ready →
      p.allStill = true →
      p.serviceStopped = false →
      p.occupied = false →
      exec (.modeRequestService r) s = .next (p.answered n 0x0101 (r.withByte 0 5) (.ok (p.enterService r.session) []))) ∧
    (s.Takes n 0x0101 (r.withByte 0 0) noPart →
      let p := s.met 0x0101 (r.withByte 0 0) noPart
      p.m.mode = .ready →
      p.m.pend = .ready →
      p.allEnaOff = true →
      p.occupied = false →
      exec (.modeRequestDormant r) s = .next (p.answered n 0x0101 (r.withByte 0 0) (.ok (p.onM (fun m => { m with dormReq := true, dormSent := false })) [])))) ∧
  (∀ (s : State) (n : Lane) (r : Req),
    (s.Takes n 0x0102 r noPart →
      let p := s.met 0x0102 r noPart
      exec (.modeStatus r) s = .next (p.answered n 0x0102 r (.ok p (beBytes 8 p.modeWord.toNat)))) ∧
    (s.Takes n 0x0110 r noPart →
      let p := s.met 0x0110 r noPart
      exec (.enableTestStatus r) s = .next (p.answered n 0x0110 r (.ok p (allLanes.map (p.enableByte n) ++ [0])))))

/-- STEER_ANGLE, STEER_TORQUE, STEER_MOVE_AT and STEER_HOLD, once past the checks of R335 and the tests of their own in the order of R353, are applied by the Leader to its profile engine and answered with OK without data; holds and loss of command end with them. The Leader of a module that follows a twin Leader holds the command instead, as a Deputy does. BRAKE_FORCE, BRAKE_POSITION, BRAKE_RELEASE and both actions of BRAKE_PARK, once past the checks of R335 and their own tests, are applied by the Leader to its profile engine and answered with OK without data; the brake hold ends with them as well. PROFILE_LIMITS that passes its tests stores the three values as the limits of its kind and changes no trajectory; VECTOR_MOVE that passes its tests is applied to both axes. Both are answered with OK.
(R355, R356, R353, R183, R244, R245, R249, R399, R241, R246) -/
def Obligations.MotionCommandsComplete : Prop :=
  (∀ (s : State) (n : Lane) (r : Req),
    (s.Takes n 0x0201 r (holdMotion chkSteerAngle) →
      let p := s.met 0x0201 r (holdMotion chkSteerAngle)
      let c := p.callAt n 0x0201 r
      chkSteerAngle p n c = none →
      exec (.steerAngle r) s = .next (p.answered n 0x0201 r (.ok (if p.twinFollows then p.holdCommand n c else p.applyMotion n c effSteerAngle false) []))) ∧
    (s.Takes n 0x0202 r (holdMotion chkSteerTorque) →
      let p := s.met 0x0202 r (holdMotion chkSteerTorque)
      let c := p.callAt n 0x0202 r
      chkSteerTorque p n c = none →
      exec (.steerTorque r) s = .next (p.answered n 0x0202 r (.ok (if p.twinFollows then p.holdCommand n c else p.applyMotion n c effSteerTorque false) []))) ∧
    (s.Takes n 0x0203 r (holdMotion chkSteerMoveAt) →
      let p := s.met 0x0203 r (holdMotion chkSteerMoveAt)
      let c := p.callAt n 0x0203 r
      chkSteerMoveAt p n c = none →
      exec (.steerMoveAt r) s = .next (p.answered n 0x0203 r (.ok (if p.twinFollows then p.holdCommand n c else p.applyMotion n c effSteerMoveAt false) []))) ∧
    (s.Takes n 0x0204 r (holdMotion chkSteerHold) →
      let p := s.met 0x0204 r (holdMotion chkSteerHold)
      let c := p.callAt n 0x0204 r
      chkSteerHold p n c = none →
      exec (.steerHold r) s = .next (p.answered n 0x0204 r (.ok (if p.twinFollows then p.holdCommand n c else p.applyMotion n c effSteerHold false) [])))) ∧
  (∀ (s : State) (n : Lane) (r : Req),
    (s.Takes n 0x0301 r (holdMotion chkBrakeForce) →
      let p := s.met 0x0301 r (holdMotion chkBrakeForce)
      let c := p.callAt n 0x0301 r
      chkBrakeForce p n c = none →
      exec (.brakeForce r) s = .next (p.answered n 0x0301 r (.ok (if p.twinFollows then p.holdCommand n c else p.applyMotion n c effBrakeForce true) []))) ∧
    (s.Takes n 0x0302 r (holdMotion chkBrakePosition) →
      let p := s.met 0x0302 r (holdMotion chkBrakePosition)
      let c := p.callAt n 0x0302 r
      chkBrakePosition p n c = none →
      exec (.brakePosition r) s = .next (p.answered n 0x0302 r (.ok (if p.twinFollows then p.holdCommand n c else p.applyMotion n c effBrakePosition true) []))) ∧
    (s.Takes n 0x0303 r (holdMotion chkBrakeRelease) →
      let p := s.met 0x0303 r (holdMotion chkBrakeRelease)
      let c := p.callAt n 0x0303 r
      chkBrakeRelease p n c = none →
      exec (.brakeRelease r) s = .next (p.answered n 0x0303 r (.ok (if p.twinFollows then p.holdCommand n c else p.applyMotion n c effBrakeRelease true) []))) ∧
    (s.Takes n 0x0304 (r.withByte 0 0) (holdMotion chkBrakePark) →
      let p := s.met 0x0304 (r.withByte 0 0) (holdMotion chkBrakePark)
      let c := p.callAt n 0x0304 (r.withByte 0 0)
      chkBrakePark p n c = none →
      exec (.brakeParkApply r) s = .next (p.answered n 0x0304 (r.withByte 0 0) (.ok (if p.twinFollows then p.holdCommand n c else p.applyMotion n c effBrakePark true) []))) ∧
    (s.Takes n 0x0304 (r.withByte 0 1) (holdMotion chkBrakePark) →
      let p := s.met 0x0304 (r.withByte 0 1) (holdMotion chkBrakePark)
      let c := p.callAt n 0x0304 (r.withByte 0 1)
      chkBrakePark p n c = none →
      exec (.brakeParkRelease r) s = .next (p.answered n 0x0304 (r.withByte 0 1) (.ok (if p.twinFollows then p.holdCommand n c else p.applyMotion n c effBrakePark true) [])))) ∧
  (∀ (s : State) (n : Lane) (r : Req),
    (s.Takes n 0x0401 r (holdMotion chkProfileLimits) →
      let p := s.met 0x0401 r (holdMotion chkProfileLimits)
      let c := p.callAt n 0x0401 r
      chkProfileLimits p n c = none →
      exec (.profileLimits r) s = .next (p.answered n 0x0401 r (.ok (if p.twinFollows then p.holdCommand n c else (p.applyMotion n c effProfileLimits (rd c.p 0 1 != 0)).onM (fun m =>
        let v := (rd c.p 4 4, rd c.p 8 4, rd c.p 12 4)
        if rd c.p 0 1 = 0 then { m with lim0 := v } else if rd c.p 0 1 = 1 then { m with lim1 := v } else { m with lim2 := v })) []))) ∧
    (s.Takes n 0x0402 r (holdMotion chkVectorMove) →
      let p := s.met 0x0402 r (holdMotion chkVectorMove)
      let c := p.callAt n 0x0402 r
      chkVectorMove p n c = none →
      exec (.vectorMove r) s = .next (p.answered n 0x0402 r (.ok (if p.twinFollows then p.holdCommand n c else p.applyMotion n c effVectorMove true) []))))

/-- The key form of PARAM_READ answers a key of the parameter tables with its flags, working and committed code; the memory form answers 1 to 1,024 mapped bytes outside the key store while no Active lane is at level 1 or deeper, where no word of the range is uncorrectable; PARAM_IMAGE_INFO answers a piece of the record at an offset below its length. Nothing but the reply, the snapshot and a corrected word changes. PARAM_WRITE of 1 to 32 pairs that all pass the four steps of R360 puts them into the working image of every Active and Rejoining lane; PARAM_COMMIT whose working image breaks no commit rule makes every Active lane begin to write and is answered later; the completion commits the image of every lane that wrote and lets the Leader answer OK.
(R352, R358, R359, R398, R354, R360, R361) -/
def Obligations.ParamCommandsComplete : Prop :=
  (∀ (s : State) (n : Lane) (r : Req),
    (∀ (row : ParamRow), s.Takes n 0x0501 (r.withByte 0 0) noPart →
      let p := s.met 0x0501 (r.withByte 0 0) noPart
      let c := p.callAt n 0x0501 (r.withByte 0 0)
      paramRow (BitVec.ofNat 16 (rd c.p 2 2)) = some row →
      exec (.paramReadKey r) s = .next (p.answered n 0x0501 (r.withByte 0 0) (.ok p ((p.lane n).par.keyReply row)))) ∧
    (∀ (b : List Byte), s.Takes n 0x0501 (r.withByte 0 1) noPart →
      let p := s.met 0x0501 (r.withByte 0 1) noPart
      let c := p.callAt n 0x0501 (r.withByte 0 1)
      1 ≤ rd c.p 2 2 →
      rd c.p 2 2 ≤ 1024 →
      (∀ i < rd c.p 2 2, mapped (rd c.p 4 4 + i) = true ∧ inKeyStore (rd c.p 4 4 + i) = false) →
      p.serviceStopped = false →
      let q := p.readBytes n (rd c.p 4 4) (min (rd c.p 2 2) (p.maxData n c.r.carriage - 4))
      q.2 = some b →
      exec (.paramReadMemory r) s = .next (p.answered n 0x0501 (r.withByte 0 1) (.ok q.1 (beBytes 4 (rd c.p 4 4) ++ b)))) ∧
    (s.Takes n 0x0504 r noPart →
      let p := s.met 0x0504 r noPart
      let c := p.callAt n 0x0504 r
      p.pieceOk n c (rd c.p 0 2) (p.lane n).imageInfo = true →
      exec (.paramImageInfo r) s = .next (p.answered n 0x0504 r (p.piecewise n c (rd c.p 0 2) (p.lane n).imageInfo)))) ∧
  (∀ (s : State) (n : Lane) (r : Req),
    (s.Takes n 0x0502 r noPart →
      let p := s.met 0x0502 r noPart
      let c := p.callAt n 0x0502 r
      1 ≤ rd c.p 0 1 →
      rd c.p 0 1 ≤ 32 →
      checkPairs p.m.mode c.expert [] (pairsOf c.p) = none →
      exec (.paramWrite r) s = .next (p.answered n 0x0502 r (.ok (p.writePairs (pairsOf c.p)) []))) ∧
    (s.Takes n 0x0503 r noPart →
      let p := s.met 0x0503 r noPart
      brokenRule (p.lane n).par = none →
      p.m.commitDue = none →
      exec (.paramCommit r) s = .next (p.answered n 0x0503 r (.later (p.beginCommit r)))) ∧
    (∀ t : Nat, (s.at_ t).m.commitDue = some r →
      let w := ((s.at_ t).onLanes (fun _ l => if l.par.commitAt.isSome then { l with par := l.par.commit } else l)).onM
        (fun m => { m with commitDue := none })
      exec (.paramCommitDone t) s = .next (w.reply w.scribe 0x0503 r (.ok w []))))

/-- MEASURE_LOAD with action 0 naming sets of the answering lane, with permission, at standstill, with every Active lane at level 0, usable sets and nothing else running, begins the measurement and is answered with ACCEPTED_PENDING; with action 1 it answers the records of the named sets from offset 0. MEASURE_CABLE with action 0 on a channel whose partner is Integrated, no cable measurement running and no lane at level 1 or deeper, begins and is answered with ACCEPTED_PENDING; with action 1 it answers state, finding and distance. MEASURE_SUPPLY answers a piece of the three supply entries.
(R362, R376, R379, R398, R375, R380) -/
def Obligations.MeasureRequestsComplete : Prop :=
  (∀ (s : State) (n : Lane) (r : Req),
    (∀ (xs : List Axis), s.Takes n 0x0601 (r.withByte 0 0) noPart →
      let p := s.met 0x0601 (r.withByte 0 0) noPart
      let c := p.callAt n 0x0601 (r.withByte 0 0)
      loadSets n (rd c.p 1 1) = some xs →
      p.seesPermitted n n = true →
      (∀ x ∈ xs, p.moving n x = false ∧ (p.lane n).setBad x = false) →
      p.serviceStopped = false →
      p.occupied = false →
      p.m.runEntry = 0 →
      exec (.measureLoadStart r) s = .next (p.answered n 0x0601 (r.withByte 0 0) (.pending (p.beginLoad n xs (BitVec.ofNat 4 (rd c.p 2 1))) []))) ∧
    (∀ (xs : List Axis), s.Takes n 0x0601 (r.withByte 0 1) noPart →
      let p := s.met 0x0601 (r.withByte 0 1) noPart
      let c := p.callAt n 0x0601 (r.withByte 0 1)
      loadSets n (rd c.p 1 1) = some xs →
      p.serviceStopped = false →
      exec (.measureLoadRead r) s = .next (p.answered n 0x0601 (r.withByte 0 1) (p.piecewise n c 0 ((xs.map (fun x => ((p.lane n).set x).loadRecord n x)).flatten))))) ∧
  (∀ (s : State) (n : Lane) (r : Req),
    (s.Takes n 0x0602 (r.withByte 0 0) noPart →
      let p := s.met 0x0602 (r.withByte 0 0) noPart
      let c := p.callAt n 0x0602 (r.withByte 0 0)
      rd c.p 1 1 ≤ 1 →
      let ch : Chan := if rd c.p 1 1 = 0 then .x else .y
      p.serviceStopped = false →
      ((p.lane n).net.chan ch.other).state = 3 →
      p.meas.cableOn = false →
      exec (.measureCableStart r) s = .next (p.answered n 0x0602 (r.withByte 0 0) (.pending (p.beginCable n ch) []))) ∧
    (s.Takes n 0x0602 (r.withByte 0 1) noPart →
      let p := s.met 0x0602 (r.withByte 0 1) noPart
      let c := p.callAt n 0x0602 (r.withByte 0 1)
      rd c.p 1 1 ≤ 1 →
      let ch : Chan := if rd c.p 1 1 = 0 then .x else .y
      p.serviceStopped = false →
      exec (.measureCableRead r) s = .next (p.answered n 0x0602 (r.withByte 0 1) (.ok p ([(p.meas.cable n ch).1, (p.meas.cable n ch).2.1] ++ beBytes 2 (p.meas.cable n ch).2.2.toNat)))) ∧
    (s.Takes n 0x0603 r noPart →
      let p := s.met 0x0603 r noPart
      let c := p.callAt n 0x0603 r
      p.pieceOk n c (rd c.p 0 2) ((allLanes.map (p.supplyBytes n)).flatten) = true →
      exec (.measureSupply r) s = .next (p.answered n 0x0603 r (p.piecewise n c (rd c.p 0 2) ((allLanes.map (p.supplyBytes n)).flatten)))))

/-- CAPS_EXCHANGE with a common FCP version is answered with the ranges of the module and the highest common versions, which the lane keeps for the sender; HEALTH_READ of a known selector, TIME_STATUS and SELFTEST_RESULT answer the piece of their record at an offset below its length. SELFTEST_RUN with at least one test, no self-test running and no lane at level 1 or deeper arms the tests on the addressed lanes; LOG_READ of 1 to 32 entries from a start below the count answers the entries, newest first, as many as fit, read from the ring with the check of each word; LOG_CLEAR with a scope clears the addressed lanes and each writes LOG_CLEARED.
(R341, R352, R363, R364, R387, R398) -/
def Obligations.RecordAndSelftestRequestsComplete : Prop :=
  (∀ (s : State) (n : Lane) (r : Req),
    (s.Takes n 0x0604 r peerCapsExchange →
      let p := s.met 0x0604 r peerCapsExchange
      let c := p.callAt n 0x0604 r
      let g := capsAgreed c.p
      g.1 ≠ 0 →
      exec (.capsExchange r) s = .next (p.answered n 0x0604 r (.ok (p.capsPart n c g.1 g.2.1) (ownRanges ++ beBytes 2 g.1 ++ beBytes 2 g.2.1 ++ beBytes 2 g.2.2)))) ∧
    (∀ (b : List Byte), s.Takes n 0x0703 r noPart →
      let p := s.met 0x0703 r noPart
      let c := p.callAt n 0x0703 r
      p.healthOf n (rd c.p 0 2) = some b →
      p.pieceOk n c (if ver 3 1 ≤ c.ver then rd c.p 2 2 else 0) b = true →
      exec (.healthRead r) s = .next (p.answered n 0x0703 r (p.piecewise n c (if ver 3 1 ≤ c.ver then rd c.p 2 2 else 0) b))) ∧
    (s.Takes n 0x0A01 r noPart →
      let p := s.met 0x0A01 r noPart
      let c := p.callAt n 0x0A01 r
      p.pieceOk n c (rd c.p 0 2) (p.timeRecord n) = true →
      exec (.timeStatus r) s = .next (p.answered n 0x0A01 r (p.piecewise n c (rd c.p 0 2) (p.timeRecord n)))) ∧
    (s.Takes n 0x0702 r noPart →
      let p := s.met 0x0702 r noPart
      let c := p.callAt n 0x0702 r
      p.pieceOk n c (rd c.p 0 2) (p.testRecord n) = true →
      exec (.selftestResult r) s = .next (p.answered n 0x0702 r (p.piecewise n c (rd c.p 0 2) (p.testRecord n))))) ∧
  (∀ (s : State) (n : Lane) (r : Req),
    (s.Takes n 0x0701 r noPart →
      let p := s.met 0x0701 r noPart
      let c := p.callAt n 0x0701 r
      let k : Half := BitVec.ofNat 16 (rd c.p 0 2)
      k &&& 0x3F ≠ 0 →
      p.serviceStopped = false →
      p.meas.testOn = false →
      exec (.selftestRun r) s = .next (p.answered n 0x0701 r (.pending (p.beginTest (if r.target = 0 then p.actives else [n]) (k &&& 0x3F)) []))) ∧
    (∀ (b : List Byte), s.Takes n 0x0B01 r noPart →
      let p := s.met 0x0B01 r noPart
      let c := p.callAt n 0x0B01 r
      1 ≤ rd c.p 2 2 →
      rd c.p 2 2 ≤ 32 →
      rd c.p 0 2 < (p.lane n).log.length →
      p.serviceStopped = false →
      0 < (p.maxData n r.carriage - 4) / 32 →
      let k := (((p.lane n).log.drop (rd c.p 0 2)).take (min (rd c.p 2 2) ((p.maxData n r.carriage - 4) / 32))).length
      let q := p.readEntries n (rd c.p 0 2) k
      q.2 = some b →
      exec (.logRead r) s = .next (p.answered n 0x0B01 r (.ok q.1 (beBytes 2 (p.lane n).log.length ++ beBytes 2 k ++ b)))) ∧
    (s.Takes n 0x0B02 r noPart →
      let p := s.met 0x0B02 r noPart
      let c := p.callAt n 0x0B02 r
      let k : Byte := BitVec.ofNat 8 (rd c.p 0 1)
      k &&& 7 ≠ 0 →
      exec (.logClear r) s = .next (p.answered n 0x0B02 r (.ok (p.clearLanes (if r.target = 0 then p.actives else [n]) k r.session) []))))

/-- SESSION_OPEN naming a filled key slot of sufficient level allowed for the carriage, with fewer than four sessions open and no second expert session, adds a session with a new number, sends it to the other lanes and answers number and module nonce; SESSION_CLOSE drops the own or, in an expert session, another open session; ATTEST_CHALLENGE at offset 0 makes the report (at most one in 100 ms) and is answered when it is done, at later offsets it answers pieces. A KEY_PROVISION segment in turn of a transfer of at most 16,384 bytes is kept; the completing segment of a key package that passes R434 and R450 puts the keys into every Active lane, and of an owner enrolment that passes R434 and R451 fuses the owner hash in every Active lane. Each is answered with OK.
(R332, R365, R446, R448, R449, R366, R434, R450, R451) -/
def Obligations.SessionAndKeyRequestsComplete : Prop :=
  (∀ (s : State) (n : Lane) (r : Req),
    (s.Takes n 0x0802 r noPart →
      let p := s.met 0x0802 r noPart
      let c := p.callAt n 0x0802 r
      rd c.p 0 1 ≤ 1 →
      rd c.p 1 1 ≤ 7 →
      let k := (p.lane n).sec.slot (rd c.p 1 1)
      k.filled = true →
      (rd c.p 0 1 = 1 → k.expert = true) →
      k.mask.getLsbD (if r.carriage = .host then 1 else 0) = true →
      (p.lane n).sec.sessions.length < 4 →
      (rd c.p 0 1 = 1 → (p.lane n).sec.sessions.any (·.expert) = false) →
      let w := p.takeEffectIn n .sessionOpen
      exec (.sessionOpen r) s = .next (p.answered n 0x0802 r (.ok ((w.addSession n (w.newSession n c)).pushBoth n (sessionItemBytes true (w.newSession n c))) (beBytes 2 (w.newSession n c).num.toNat ++ [0, 0] ++ w.moduleNonce)))) ∧
    (s.Takes n 0x0803 r noPart →
      let p := s.met 0x0803 r noPart
      let c := p.callAt n 0x0803 r
      let k : Half := if rd c.p 0 2 = 0 then r.session else BitVec.ofNat 16 (rd c.p 0 2)
      (k = r.session ∨ c.expert = true) →
      (p.lane n).sec.session k ≠ none →
      exec (.sessionClose r) s = .next (p.answered n 0x0803 r (.ok (p.closeSession n k) []))) ∧
    (s.Takes n 0x0801 r noPart →
      let p := s.met 0x0801 r noPart
      let c := p.callAt n 0x0801 r
      (p.lane n).sec.idBad = false →
      rd c.p 32 2 = 0 →
      (∀ a, (p.lane n).sec.attestAt = some a → a + ms 100 ≤ p.now) →
      exec (.attestChallenge r) s = .next (p.answered n 0x0801 r (.later (p.onSec n (fun x => { x with
        attest := p.attestReport n (c.p.take 32), attestAt := some p.now, attestReady := false, attestReq := some r }))))) ∧
    (s.Takes n 0x0801 r noPart →
      let p := s.met 0x0801 r noPart
      let c := p.callAt n 0x0801 r
      (p.lane n).sec.idBad = false →
      rd c.p 32 2 ≠ 0 →
      p.pieceOk n c (rd c.p 32 2) (p.lane n).sec.attest = true →
      exec (.attestChallenge r) s = .next (p.answered n 0x0801 r (p.piecewise n c (rd c.p 32 2) (p.lane n).sec.attest)))) ∧
  (∀ (s : State) (n : Lane) (r : Req) (x : Xfer),
    (s.Takes n 0x0804 r noPart →
      let p := s.met 0x0804 r noPart
      let c := p.callAt n 0x0804 r
      rd c.p 4 4 ≤ 16384 →
      1 ≤ rd c.p 8 2 →
      rd c.p 8 2 ≤ 1024 →
      segStep p.m.keyX (some (rd c.p 4 4)) (rd c.p 0 4) ((c.p.drop 12).take (rd c.p 8 2)) = .go x →
      x.got.length < x.total →
      exec (.keyProvision r) s = .next (p.answered n 0x0804 r (.ok (p.onM (fun m => { m with keyX := some x })) []))) ∧
    (s.Takes n 0x0804 r noPart →
      let p := s.met 0x0804 r noPart
      let c := p.callAt n 0x0804 r
      rd c.p 4 4 ≤ 16384 →
      1 ≤ rd c.p 8 2 →
      rd c.p 8 2 ≤ 1024 →
      segStep p.m.keyX (some (rd c.p 4 4)) (rd c.p 0 4) ((c.p.drop 12).take (rd c.p 8 2)) = .go x →
      x.total ≤ x.got.length →
      let pkg := x.got.take x.total
      let w := p.onM (fun m => { m with keyX := none })
      (w.lane n).pkgOrders [4, 5] pkg = none →
      pkgKind pkg = 4 →
      keyBodyBad (pkgBodyBytes pkg) = none →
      (∀ m ∈ w.actives, (Config.unwrapKeys m pkg).isSome = true) →
      exec (.keyProvision r) s = .next (p.answered n 0x0804 r (.ok (w.putKeys n pkg) []))) ∧
    (s.Takes n 0x0804 r noPart →
      let p := s.met 0x0804 r noPart
      let c := p.callAt n 0x0804 r
      rd c.p 4 4 ≤ 16384 →
      1 ≤ rd c.p 8 2 →
      rd c.p 8 2 ≤ 1024 →
      segStep p.m.keyX (some (rd c.p 4 4)) (rd c.p 0 4) ((c.p.drop 12).take (rd c.p 8 2)) = .go x →
      x.total ≤ x.got.length →
      let pkg := x.got.take x.total
      let w := p.onM (fun m => { m with keyX := none })
      (w.lane n).pkgOrders [4, 5] pkg = none →
      pkgKind pkg = 5 →
      enrolBad (w.lane n).sec (pkgBodyBytes pkg) = none →
      exec (.keyProvision r) s = .next (p.answered n 0x0804 r (.ok (w.fuseAll pkg) []))))

/-- FW_BEGIN of kind 1 or 2 within the largest package of the kind, with no unusable bank for kind 1, opens the transfer; FW_CHUNK of 1 to 1,024 bytes within the total, in turn and with no lane at level 1 or deeper, is written in every Active lane that holds the transfer, and a repeated segment changes nothing. Both are answered with OK. FW_VERIFY with action 0 starts once the last byte has arrived and none runs; with action 1 it answers the state while there is no failure; FW_ACTIVATE after a passed verification activates the transfer in every Active lane that holds it and asks for the restart, which over the host port follows at once.
(R366, R367, R398, R441) -/
def Obligations.FirmwareRequestsComplete : Prop :=
  (∀ (s : State) (n : Lane) (r : Req),
    (s.Takes n 0x0901 r noPart →
      let p := s.met 0x0901 r noPart
      let c := p.callAt n 0x0901 r
      (rd c.p 0 1 = 1 ∨ rd c.p 0 1 = 2) →
      rd c.p 4 4 ≤ pkgMax (rd c.p 0 1) →
      (rd c.p 0 1 = 1 → ∀ m ∈ p.actives, (p.lane m).bankBad = false) →
      exec (.fwBegin r) s = .next (p.answered n 0x0901 r (.ok (p.openTransfer (rd c.p 0 1) (rd c.p 4 4) (BitVec.ofNat 32 (rd c.p 8 4))) []))) ∧
    (∀ (x y : Xfer), s.Takes n 0x0902 r noPart →
      let p := s.met 0x0902 r noPart
      let c := p.callAt n 0x0902 r
      let data := (c.p.drop 8).take (rd c.p 4 2)
      (p.lane n).sec.fw = some x →
      1 ≤ rd c.p 4 2 →
      rd c.p 4 2 ≤ 1024 →
      rd c.p 0 4 + rd c.p 4 2 ≤ x.total →
      segStep (some x) none (rd c.p 0 4) data = .go y →
      p.serviceStopped = false →
      exec (.fwChunk r) s = .next (p.answered n 0x0902 r (.ok (p.onLanes (fun _ l =>
        if l.state = .active ∧ l.sec.fwHave = true then l.putChunk y (rd c.p 0 4) data else l)) []))) ∧
    (∀ (x : Xfer), s.Takes n 0x0902 r noPart →
      let p := s.met 0x0902 r noPart
      let c := p.callAt n 0x0902 r
      let data := (c.p.drop 8).take (rd c.p 4 2)
      (p.lane n).sec.fw = some x →
      1 ≤ rd c.p 4 2 →
      rd c.p 4 2 ≤ 1024 →
      rd c.p 0 4 + rd c.p 4 2 ≤ x.total →
      segStep (some x) none (rd c.p 0 4) data = .again →
      p.serviceStopped = false →
      exec (.fwChunk r) s = .next (p.answered n 0x0902 r (.ok p [])))) ∧
  (∀ (s : State) (n : Lane) (r : Req),
    (∀ (x : Xfer), s.Takes n 0x0903 (r.withByte 0 0) noPart →
      let p := s.met 0x0903 (r.withByte 0 0) noPart
      (p.lane n).sec.fw = some x →
      x.total ≤ x.got.length →
      p.m.fwState ≠ 1 →
      exec (.fwVerifyStart r) s = .next (p.answered n 0x0903 (r.withByte 0 0) (.pending (p.onM (fun m => { m with fwState := 1 })) []))) ∧
    (s.Takes n 0x0903 (r.withByte 0 1) noPart →
      let p := s.met 0x0903 (r.withByte 0 1) noPart
      p.m.fwState ≠ 3 →
      exec (.fwVerifyRead r) s = .next (p.answered n 0x0903 (r.withByte 0 1) (.ok p [p.m.fwState.setWidth 8]))) ∧
    (s.Takes n 0x0904 r noPart →
      let p := s.met 0x0904 r noPart
      p.m.fwState = 2 →
      let w := (p.takeEffect .fwActivate).onLanes (fun _ l => if l.state = .active ∧ l.sec.fwHave = true then l.activate else l)
      let u := p.answered n 0x0904 r (.ok (w.onM (fun m => { m with fwReq := true, fwState := 0 })) [])
      exec (.fwActivate r) s = .next (if r.carriage = .host then u.restartModule else u)))

/-- A SCHEDULE_LOAD segment in turn of a transfer of at most 8,192 bytes is kept; a repeated segment changes nothing; the completing segment of a package that passes R434 and R292 makes the Almanac pending in every Active lane and is answered with its schedule ID and activation time.
(R292, R366, R434) -/
def Obligations.ScheduleLoadCompletes : Prop :=
  ∀ (s : State) (n : Lane) (r : Req) (x : Xfer),
    (s.Takes n 0x0A02 r noPart →
      let p := s.met 0x0A02 r noPart
      let c := p.callAt n 0x0A02 r
      rd c.p 4 4 ≤ 8192 →
      1 ≤ rd c.p 8 2 →
      rd c.p 8 2 ≤ 1024 →
      segStep p.m.almX (some (rd c.p 4 4)) (rd c.p 0 4) ((c.p.drop 12).take (rd c.p 8 2)) = .again →
      exec (.scheduleLoad r) s = .next (p.answered n 0x0A02 r (.ok p []))) ∧
    (s.Takes n 0x0A02 r noPart →
      let p := s.met 0x0A02 r noPart
      let c := p.callAt n 0x0A02 r
      rd c.p 4 4 ≤ 8192 →
      1 ≤ rd c.p 8 2 →
      rd c.p 8 2 ≤ 1024 →
      segStep p.m.almX (some (rd c.p 4 4)) (rd c.p 0 4) ((c.p.drop 12).take (rd c.p 8 2)) = .go x →
      x.got.length < x.total →
      exec (.scheduleLoad r) s = .next (p.answered n 0x0A02 r (.ok (p.onM (fun m => { m with almX := some x })) []))) ∧
    (s.Takes n 0x0A02 r noPart →
      let p := s.met 0x0A02 r noPart
      let c := p.callAt n 0x0A02 r
      rd c.p 4 4 ≤ 8192 →
      1 ≤ rd c.p 8 2 →
      rd c.p 8 2 ≤ 1024 →
      segStep p.m.almX (some (rd c.p 4 4)) (rd c.p 0 4) ((c.p.drop 12).take (rd c.p 8 2)) = .go x →
      x.total ≤ x.got.length →
      let pkg := x.got.take x.total
      let w := p.onM (fun m => { m with almX := none })
      (w.lane n).pkgOrders [3] pkg = none →
      checkAlmanac (pkgBodyBytes pkg) (w.lane n).nodeIds (w.lane n).tag (w.meridian n) = none →
      exec (.scheduleLoad r) s = .next (p.answered n 0x0A02 r (.ok (w.pendAlmanac pkg) (beBytes 4 (almId (pkgBodyBytes pkg)).toNat ++ beBytes 8 (almTime (pkgBodyBytes pkg))))))

/-- HOMING_START naming at least one axis with permission, standstill in Run, an image in force, usable sets and nothing else running begins the run and is answered with ACCEPTED_PENDING; with the abort bit, in a module whose Leader may hold the role, the named axes abort; HOMING_STATUS answers a piece of its record; COMPARE_SET whose fields are in range and which passes the tests of a motion command sets the named slot of an Active lane, in its own lane at once and in another by an item.
(R230, R250, R256, R352, R353, R368) -/
def Obligations.HomingCommandsComplete : Prop :=
  ∀ (s : State) (n : Lane) (r : Req),
    (s.Takes n 0x0C01 (r.withByte 0 ((BitVec.ofNat 8 (rd r.params 0 1)) &&& 0x7F)) (holdMotion chkHomingStart) →
      let p := s.met 0x0C01 (r.withByte 0 ((BitVec.ofNat 8 (rd r.params 0 1)) &&& 0x7F)) (holdMotion chkHomingStart)
      let c := p.callAt n 0x0C01 (r.withByte 0 ((BitVec.ofNat 8 (rd r.params 0 1)) &&& 0x7F))
      let b := rd c.p 0 1
      let axes := (if b % 2 = 1 then [Axis.s] else []) ++ (if b / 2 % 2 = 1 then [Axis.b] else [])
      axes ≠ [] →
      p.somePermitted n = true →
      p.m.stopOn = false →
      (p.m.mode = .run → ∀ x ∈ axes, p.homingMoves n x = false) →
      (p.lane n).par.defaults = false →
      p.m.holdOnly = false →
      (p.lane p.scribe).mapBit 3 = false →
      (∀ x ∈ axes, p.usableCount n x ≠ 0) →
      p.occupied = false →
      p.m.pend = p.m.mode →
      p.m.runEntry = 0 →
      p.twinFollows = false →
      exec (.homingStart r) s = .next (p.answered n 0x0C01 (r.withByte 0 ((BitVec.ofNat 8 (rd r.params 0 1)) &&& 0x7F)) (.pending (((p.startHoming n (b % 2 == 1) (b / 2 % 2 == 1)).keepDeputy p).onProf n (fun q => { q with lastSeq := r.seq })) []))) ∧
    (s.Takes n 0x0C01 (r.withByte 0 ((BitVec.ofNat 8 (rd r.params 0 1)) ||| 0x80)) (holdMotion chkHomingStart) →
      let p := s.met 0x0C01 (r.withByte 0 ((BitVec.ofNat 8 (rd r.params 0 1)) ||| 0x80)) (holdMotion chkHomingStart)
      let c := p.callAt n 0x0C01 (r.withByte 0 ((BitVec.ofNat 8 (rd r.params 0 1)) ||| 0x80))
      let b := rd c.p 0 1
      (b % 2 = 1 ∨ b / 2 % 2 = 1) →
      (p.lane p.scribe).mapBit 3 = false →
      exec (.homingStartAbort r) s = .next (p.answered n 0x0C01 (r.withByte 0 ((BitVec.ofNat 8 (rd r.params 0 1)) ||| 0x80)) (.ok (((p.abortNamed (b % 2 == 1) (b / 2 % 2 == 1)).motionApplied.keepDeputy p).onProf n (fun q => { q with lastSeq := r.seq })) []))) ∧
    (s.Takes n 0x0C02 r noPart →
      let p := s.met 0x0C02 r noPart
      let c := p.callAt n 0x0C02 r
      p.pieceOk n c (rd c.p 0 2) (p.homingRecord n) = true →
      exec (.homingStatus r) s = .next (p.answered n 0x0C02 r (p.piecewise n c (rd c.p 0 2) (p.homingRecord n)))) ∧
    (∀ (m : Lane), s.Takes n 0x0C03 r (holdMotion chkCompareSet) →
      let p := s.met 0x0C03 r (holdMotion chkCompareSet)
      let c := p.callAt n 0x0C03 r
      Lane.ofCode? (BitVec.ofNat 8 (rd c.p 0 1)) = some m →
      compareFieldsOk c.p = true →
      firstErr (p.motionTests n c.opAddr [] false false false false) = none →
      (p.lane m).state = .active →
      (p.lane m).mapBit 12 = false →
      exec (.compareSet r) s = .next (p.answered n 0x0C03 r (.ok (if p.twinFollows then p.holdCommand n c else ((if m = n then p.setSlot n c.p else p.pushItem n m (settingItem (p.lane n).epoch c.p)).onProf n (fun q => { q with lastSeq := r.seq })).motionApplied.endSteerHold) [])))

/-- ARBITRATE naming an open dispute and a verdict 1 to 3 is logged and carried out; QUENCH of a lane is answered at once when the lane is Quenched and otherwise waits for its report; QUENCH_TIMEOUT answers FAULT_LANE 5 ms later; CALDERA_CLEAR of a Quenched lane withdraws the votes against it, clears its Caldera and restarts it with cause 8.
(R50, R51, R55, R56, R58, R369) -/
def Obligations.ArbitrationCommandsComplete : Prop :=
  ∀ (s : State) (n : Lane) (r : Req),
    (s.Takes n 0x0D01 r peerArbitrate →
      let p := s.met 0x0D01 r peerArbitrate
      let c := p.callAt n 0x0D01 r
      let id : Byte := BitVec.ofNat 8 (rd c.p 0 1)
      let v : Byte := BitVec.ofNat 8 (rd c.p 1 1)
      (p.openFor n id).isSome = true →
      v ≠ 0 →
      v.toNat ≤ 3 →
      exec (.arbitrate r) s = .next (p.answered n 0x0D01 r (.ok ((p.log n 0x0B06 (id.setWidth 32)).rulePart n id v) []))) ∧
    (∀ (k : Lane), s.Takes n 0x0D02 r peerQuench →
      let p := s.met 0x0D02 r peerQuench
      let c := p.callAt n 0x0D02 r
      Lane.ofCode? (BitVec.ofNat 8 (rd c.p 0 1)) = some k →
      exec (.quench r) s = .next (p.answered n 0x0D02 r (if p.sees n k = .quenched then .ok p [] else .later ((p.quenchPart n k).onM (fun m => { m with quenchOf := m.quenchOf ++ [(k, p.now, r)] }))))) ∧
    (∀ (t a : Nat) (k : Lane) (rest : List (Lane × Nat × Req)), (s.at_ t).m.quenchOf = (k, a, r) :: rest → a + ms 5 ≤ t →
      (s.at_ t).leader = some n → (s.at_ t).sees n k ≠ .quenched →
      exec (.quenchTimeout t) s =
        .next (((s.at_ t).onM (fun m => { m with quenchOf := rest })).replyError n 0x0D02 r 0x30 (laneAddr k))) ∧
    (∀ (k : Lane), s.Takes n 0x0D03 r noPart →
      let p := s.met 0x0D03 r noPart
      let c := p.callAt n 0x0D03 r
      Lane.ofCode? (BitVec.ofNat 8 (rd c.p 0 1)) = some k →
      p.sees n k = .quenched →
      exec (.calderaClear r) s = .next (p.answered n 0x0D03 r (.pending (((allLanes.foldl (fun s v => s.withdraw v k) p).clearCaldera k).restart k 8) [])))

/-- A level of ENA_n stable for 200 us becomes the filtered state of a running lane, in a lane that is not Active with the Enable test advancing once Boot is over, in an Active lane whose test passes in Run or Limp with the lane joining the torque through Rejoining, and in an Active lane whose level falls with the measurements of its sets abandoned; an open test is logged once at its time-out; a lone inactive ENA withdraws the permission of its lane. With Ready pending and both axes slow for 100 ms the module enters Ready; with every filtered ENA inactive for the delay it goes from Ready to Dormant; after the reply to a Dormant request has left, every lane enters Dormant; Service ends at its time-out; missing commands hold the setpoints first and then run the loss-of-command behaviour.
(R262, R264, R265, R266, R271, R95, R256, R267, R272, R275) -/
def Obligations.EnableAndModeEventsComplete : Prop :=
  (∀ (s : State) (t : Nat) (n : Lane),
    (∀ (on : Bool) (held : Nat),
      let u := s.at_ t
      let v := u.onLane n (fun l => { l with ena := { l.ena with pin := on } })
      (u.lane n).rst.inReset = false →
      (u.lane n).state ≠ .off →
      (u.lane n).state ≠ .active →
      us 200 ≤ held →
      (u.lane n).ena.filt ≠ on →
      let e := v.onLane n (fun l => { l with ena :=
        let f := { l.ena with filt := on, lowAt := if on then l.ena.lowAt else t }
        if l.state = .starting then f else f.advance on })
      let w := (if on then e else (e.abortMeasure n .s).abortMeasure n .b).reviewStop
      exec (.enaFilterChange t n on held) s = .next (if w.m.mode = .ready then w.noteSleep else w)) ∧
    (∀ (held : Nat),
      let u := s.at_ t
      (u.lane n).rst.inReset = false →
      (u.lane n).state = .active →
      (u.m.mode = .run ∨ u.m.mode = .limp) →
      us 200 ≤ held →
      (u.lane n).ena.filt = false →
      (u.lane n).ena.test = 1 →
      let w := ((u.onLane n (fun l => { l with ena := { l.ena with pin := true, filt := true }.advance true })).joinTorque n).reviewStop
      exec (.enaFilterChange t n true held) s = .next (if w.m.mode = .ready then w.noteSleep else w)) ∧
    (∀ (held : Nat),
      let u := s.at_ t
      (u.lane n).rst.inReset = false →
      (u.lane n).state = .active →
      us 200 ≤ held →
      (u.lane n).ena.filt = true →
      let e := u.onLane n (fun l => { l with ena := { l.ena with pin := false, filt := false, lowAt := t }.advance false })
      let w := ((e.abortMeasure n .s).abortMeasure n .b).reviewStop
      exec (.enaFilterChange t n false held) s = .next (if w.m.mode = .ready then w.noteSleep else w)) ∧
    (
      let u := s.at_ t
      (u.lane n).state = .active →
      (u.lane n).ena.test ≠ 2 →
      (u.lane n).ena.timeoutLogged = false →
      (u.lane n).activeAt + ms (100 * (u.lane n).codeN Key.enaTestTimeout) ≤ t →
      exec (.enaTestTimeout t n) s = .next ((u.onLane n (fun l => { l with ena := { l.ena with timeoutLogged := true } })).log n 0x0412 (laneAddr n))) ∧
    (
      let u := s.at_ t
      (u.m.mode = .run ∨ u.m.mode = .limp) →
      u.inactiveLanes n = [n] →
      2 ≤ (u.passedLanes n).length →
      (u.lane n).ena.withdrawn = false →
      (u.lane n).ena.lowAt + ms ((u.lane n).codeN Key.enaDisagreeTime) ≤ t →
      exec (.enaWithdrawn t n) s = .next ((((u.onLane n (fun l => { l.floatLegs with ena := { l.ena with withdrawn := true } })).logModule n 0x0907 (laneAddr n)).reform n).checkLimp))) ∧
  (∀ (s : State) (t : Nat),
    (∀ (a : Nat),
      let u := s.at_ t
      (u.m.mode = .run ∨ u.m.mode = .limp) →
      u.m.pend = .ready →
      u.m.slowSince = some a →
      a + ms 100 ≤ t →
      exec (.stopToReady t) s = .next (u.enterReady)) ∧
    (∀ (a : Nat),
      let u := s.at_ t
      u.m.mode = .ready →
      u.m.sleepAt = some a →
      a + ms (1000 * (u.lane u.scribe).codeN Key.enaSleepDelay) ≤ t →
      u.allEnaOff = true →
      u.hom.axS = false →
      u.hom.axB = false →
      exec (.enaSleepDelay t) s = .next (u.enterDormant)) ∧
    (
      let u := s.at_ t
      u.m.mode = .ready →
      u.m.dormReq = true →
      u.m.dormSent = true →
      exec (.dormantEntry t) s = .next (u.enterDormant)) ∧
    (
      let u := s.at_ t
      u.m.mode = .service →
      u.m.svcAt + ms (60000 * (u.lane u.scribe).codeN Key.modeServiceTimeout) ≤ t →
      exec (.serviceTimeout t) s = .next (u.endService)) ∧
    (
      let u := s.at_ t
      (u.m.mode = .run ∨ u.m.mode = .limp) →
      u.m.stale = false →
      (u.lane u.scribe).codeN Key.locHoldCycles ≤ u.m.missed →
      exec (.cmdHold t) s = .next ((u.onM (fun m => { m with stale := true })).logLeader 0x0503 0)) ∧
    (
      let u := s.at_ t
      (u.m.mode = .run ∨ u.m.mode = .limp) →
      u.m.loc = false →
      u.m.freshAt + ms ((u.lane u.scribe).codeN Key.locTimeout) ≤ t →
      let w := (((u.abortHoming 6).logLeader 0x0504 0).onM (fun m => { m with loc := true, locAt := t })).requestStop
      exec (.lossOfCommand t) s = .next (w.endSteerHold.endBrakeHold.onEngines State.effLoc)))

/-- A running lane takes the deepest level its comparators hold, with the log, hold-only and Limp following; a lane in reset whose supply is back ends the supply causes; an armed lane below 14.0 V for 20 us quenches itself; a lane quenched only through the supply path restarts; at 61.0 V the disconnect opens and below 58.0 V for 1 ms it closes unless the DC link keeps it open; a supply item is kept with its instant.
(R374, R396, R399, R400, R402, R406) -/
def Obligations.SupplyEventsComplete : Prop :=
  ∀ (s : State) (t : Nat) (n : Lane),
    (∀ (vsup link : Nat),
      let u := (s.at_ t).seeSupply n vsup link
      (u.lane n).rst.inReset = false →
      (u.lane n).state ≠ .off →
      (u.lane n).sup.level ≠ 5 →
      let w := u.onLane n (·.shedTrack t)
      exec (.supplyShed t n vsup link) s = .next ((w.onSup n (fun p => { p with levels := (w.lane n).shedHeld t })).setLevel n (deepest ((w.lane n).shedHeld t)))) ∧
    (∀ (vsup link : Nat),
      let u := (s.at_ t).seeSupply n vsup link
      (u.lane n).rst.inReset = true →
      exec (.supplyShed t n vsup link) s = .next (u.supplyBack n (u.lane n).sup.eff)) ∧
    (∀ (vsup link held : Nat),
      let u := (s.at_ t).seeSupply n vsup link
      (u.lane n).sup.armed = true →
      (u.lane n).vote.caldera = false →
      (u.lane n).rst.inReset = false →
      (u.lane n).sup.eff < 14000 →
      us 20 ≤ held →
      exec (.supplyQuench t n ⟨vsup, link⟩ held) s = .next (u.supplyQuench n)) ∧
    (∀ (vsup link held : Nat),
      let u := (s.at_ t).seeSupply n vsup link
      (u.lane n).vote.caldera = true →
      (u.lane n).vote.supplyOnly = true →
      u.voters n = [] →
      15000 ≤ (u.lane n).sup.eff →
      ms ((u.lane n).codeN Key.supplyRestartDelay) ≤ held →
      let recent := (u.lane n).sup.restarts.filter (fun a => decide (t < a + ms 600000))
      recent.length < (u.lane n).codeN Key.supplyRestartMax →
      exec (.supplyRestart t n ⟨vsup, link⟩ held) s = .next ((((u.log n 0x0B15 (laneAddr n)).resetLane n 3).onSup n (fun p => { p with restarts := t :: recent })).clearCause n 3)) ∧
    (∀ (mv : Nat),
      let u := s.at_ t
      61000 ≤ mv →
      (u.lane n).sup.ovOpen = false →
      ((u.lane n).sup.disc ≠ 0 ∨ (u.lane n).sup.linkOpen = true) →
      exec (.supplyOvOpen t n mv) s = .next ((u.onSup n (fun p => { p with disc := 0, ovOpen := true, vsup := mv })).logModule n 0x0909 (laneAddr n))) ∧
    (∀ (mv held : Nat),
      let u := s.at_ t
      (u.lane n).sup.ovOpen = true →
      mv < 58000 →
      ms 1 ≤ held →
      exec (.supplyOvClose t n mv held) s = .next (u.onSup n (fun p => { p with vsup := mv, ovOpen := false, disc := if p.linkOpen || p.geyOpen then 0 else 2 }))) ∧
    (∀ (src dst : Lane) (e : SupplyEntry),
      let u := s.at_ t
      src ≠ dst →
      (u.lane dst).rst.inReset = false →
      let b := supplyItemBytes e
      u.nextItem src dst 0x40 = some b →
      let v := u.dropItem src dst 0x40
      exec (.supplyItem t src dst e) s = .next (v.onLink src dst (fun k => { k with supply := some (supplyOf b), supplyAt := v.now })))

/-- The firmware path turns on at 58.5 V in Ready, Run, Limp and Service and off at 57.5 V after 5 us; the hardware path turns on at 62.0 V and off at 61.0 V; a current below 25 % of the nominal one is a kind-1 failure; current while neither path asks is a kind-2 failure that opens the disconnect and requests the quench; above 150 C both paths are blocked until below 130 C. At 62.0 V with the Geyser unusable the sets that fed power in, and that nothing but an open leg holds, are shorted and the shares of the lane re-form; after 10 ms below 58.5 V with the back-EMF below 90 % of the link the set returns to field control; at 68.0 V the disconnect opens, and with both voltages below 64.0 V for 100 us it closes unless overvoltage keeps it open.
(R126, R128, R129, R130, R131, R406, R132, R133) -/
def Obligations.GeyserAndLinkVoltageEventsComplete : Prop :=
  (∀ (s : State) (t : Nat) (n : Lane),
    (∀ (mv : Nat),
      let u := (s.at_ t).onSup n (fun p => { p with link := mv })
      (u.lane n).rst.inReset = false →
      (u.lane n).rst.bootFailed = none →
      u.m.mode.votes = true →
      (u.lane n).sup.disc ≠ 2 →
      (u.lane n).gey.fw = false →
      58500 ≤ mv →
      exec (.firmwareGeyser t n mv) s = .next (u.askGeyser n (fun g => { g with fw := true, onAt := t }))) ∧
    (∀ (mv : Nat),
      let u := (s.at_ t).onSup n (fun p => { p with link := mv })
      (u.lane n).gey.fw = true →
      mv ≤ 57500 →
      (u.lane n).gey.onAt + us 5 ≤ t →
      exec (.firmwareGeyser t n mv) s = .next (u.askGeyser n (fun g => { g with fw := false }))) ∧
    (∀ (mv : Nat),
      let u := (s.at_ t).onSup n (fun p => { p with link := mv })
      (u.lane n).gey.hw = false →
      62000 ≤ mv →
      exec (.hardwareGeyser t n mv) s = .next (u.askGeyser n (fun g => { g with hw := true }))) ∧
    (∀ (mv : Nat),
      let u := (s.at_ t).onSup n (fun p => { p with link := mv })
      (u.lane n).gey.hw = true →
      mv ≤ 61000 →
      exec (.hardwareGeyser t n mv) s = .next (u.askGeyser n (fun g => { g with hw := false }))) ∧
    (∀ (mv i : Nat),
      let u := (s.at_ t).onSup n (fun p => { p with link := mv })
      (u.lane n).rst.inReset = false →
      (u.lane n).gey.on = true →
      4 * (i : Rat) * (u.lane n).val Key.geyserRNominal < mv →
      exec (.geyserCurrentCheck t n mv i) s = .next ((u.onGey n (fun g => { g with fault := true })).failGeyser n 1 0)) ∧
    (∀ (i held : Nat),
      let u := s.at_ t
      (u.lane n).gey.fw = false →
      (u.lane n).gey.hw = false →
      1000 < i →
      us 10 ≤ held →
      (u.lane n).rst.inReset = false →
      exec (.geyserNotBlocking t n i held) s = .next ((((u.failGeyser n 2 0).onSup n (fun p => { p with disc := 0, geyOpen := true })).quenchRequest n).checkLimp)) ∧
    (∀ (temp : Int),
      let u := (s.at_ t).onGey n (fun g => { g with temp := temp })
      (u.lane n).rst.inReset = false →
      2400 < temp →
      (u.lane n).gey.hot = false →
      exec (.geyserHot t n temp) s = .next ((u.onGey n (fun g => { g with hot := true })).log n 0x0206 (geyserAddr n))) ∧
    (∀ (temp : Int),
      let u := (s.at_ t).onGey n (fun g => { g with temp := temp })
      temp < 2080 →
      exec (.geyserHotRelease t n temp) s = .next (u.onGey n (fun g => { g with hot := false })))) ∧
  (∀ (s : State) (t : Nat) (n : Lane),
    (∀ (mv : Nat),
      let u := (s.at_ t).onSup n (fun p => { p with link := mv })
      62000 ≤ mv →
      ((u.lane n).geyserBad = true ∨ (u.lane n).gey.fault = true) →
      u.m.mode.votes = true →
      ((u.lane n).state = .active ∨ (u.lane n).state = .rejoining) →
      exec (.activeShort t n mv) s = .next (([Axis.s, Axis.b].foldl (fun (w : State) x => if w.shortable n x then
          (w.onSet n x (fun c => { c with short := true, shortAt := t, share := 0 })).log n 0x0304 (setAddr n x) else w) u).reform n)) ∧
    (∀ (x : Axis) (mv : Nat),
      let u := (s.at_ t).onSup n (fun p => { p with link := mv })
      ((u.lane n).set x).short = true →
      ((u.lane n).set x).shortAt + ms 10 ≤ t →
      mv < 58500 →
      u.emfPeak n x < (mv : Rat) * 9 / 10 →
      exec (.activeShortEnd t n x mv) s = .next (u.onSet n x (fun c => { c with short := false }))) ∧
    (∀ (mv : Nat),
      let u := s.at_ t
      68000 ≤ mv →
      ((u.lane n).sup.disc ≠ 0 ∨ (u.lane n).sup.ovOpen = true) →
      exec (.inputDisconnectOpen t n mv) s = .next (u.onSup n (fun p => { p with link := mv, disc := 0, linkOpen := true }))) ∧
    (∀ (vsup mv held : Nat),
      let u := s.at_ t
      (u.lane n).sup.linkOpen = true →
      vsup < 64000 →
      mv < 64000 →
      us 100 ≤ held →
      exec (.inputDisconnectClose t n vsup mv held) s = .next (u.onSup n (fun p => { p with vsup := vsup, link := mv, linkOpen := false, disc := if p.ovOpen || p.geyOpen then 0 else 2 }))))

/-- A command conflict, di/dt beyond its limit, and bootstrap undervoltage that lasts log their code and take the leg high-impedance; a sense-cell overcurrent takes the set high-impedance and marks it in the persistent map; bootstrap thresholds set and clear the refresh; a code saturated over 64 edges counts once; the off-state readings of a lane at step 3 of its rejoin judge both sets and the Geyser.
(R107, R111, R112, R115, R116, R118, R119, R122) -/
def Obligations.LegEventsComplete : Prop :=
  ∀ (s : State) (t : Nat) (n : Lane),
    (∀ (x : Axis) (p : Phase),
      let u := s.at_ t
      (u.lane n).rst.inReset = false →
      exec (.legInterlock t n x p) s = .next ((u.log n 0x0202 (legAddr n x p)).tripLeg n x p)) ∧
    (∀ (x : Axis) (p : Phase) (didt : Rat) (since held : Nat),
      let u := s.at_ t
      u.driven n x = true →
      (u.lane n).val (if (since : Rat) < (u.lane n).val Key.gateSlewTarget + 4 then Key.legDidtEdge else Key.legDidtLimit) < didt →
      5 ≤ held →
      exec (.legDidt t n x p didt since held) s = .next ((u.log n 0x0201 (legAddr n x p)).tripLeg n x p)) ∧
    (∀ (x : Axis) (i : Int) (held since : Nat),
      let u := s.at_ t
      (u.lane n).rst.inReset = false →
      30 ≤ held →
      70 ≤ since →
      (u.lane n).val (match x with | .s => Key.setOcS | .b => Key.setOcB) < absQ (cellAmps i) →
      exec (.setOvercurrent t n x i held since) s = .next (((((u.onSet n x SetSt.floatLegs).markBit n x.mapBit).log n 0x0301 (setAddr n x)).lostSet n).checkLimp)) ∧
    (∀ (x : Axis) (p : Phase) (mv : Nat),
      let u := s.at_ t
      mv < 4300 →
      exec (.bootstrapRefresh t n x p mv) s = .next (u.onSet n x (·.onLeg p (fun g => { g with uv := true, refresh := true, uvPeriods := if g.uv then g.uvPeriods else 0 })))) ∧
    (∀ (x : Axis) (p : Phase) (mv : Nat),
      let u := s.at_ t
      4500 < mv →
      exec (.bootstrapRefresh t n x p mv) s = .next (u.onSet n x (·.onLeg p (fun g => { g with uv := false, uvPeriods := 0 })))) ∧
    (∀ (x : Axis) (p : Phase) (mv : Nat),
      let u := s.at_ t
      u.driven n x = true →
      (((u.lane n).set x).leg p).uv = true →
      (((u.lane n).set x).leg p).tripped = false →
      5 ≤ (((u.lane n).set x).leg p).uvPeriods →
      mv < 4500 →
      exec (.bootUv t n x p mv) s = .next ((u.log n 0x0203 (legAddr n x p)).tripLeg n x p)) ∧
    (∀ (x : Axis) (p : Phase) (k : Nat × Bool × Nat),
      let u := s.at_ t
      (((u.lane n).set x).leg p).satRuns.filter (fun r => decide (64 ≤ r.2.2)) = [k] →
      exec (.gateServoSaturation t n x p) s = .next (u.onSet n x (·.onLeg p (fun g => { g with satCount := satInc g.satCount, satRuns := g.satRuns.filter (fun r => decide (r.2.2 < 64)) })))) ∧
    (∀ (m : OffStateSample),
      let u := s.at_ t
      u.m.runEntry ≠ 1 →
      (u.lane n).state = .rejoining →
      (u.lane n).rejoin.step = 3 →
      exec (.offStateDiagnostics t n m) s = .next ((((u.testSet n .s m.s).testSet n .b m.b).testGeyser n m).lostSet n)) ∧
    (∀ (m : OffStateSample),
      let u := s.at_ t
      u.m.runEntry = 1 →
      u.nextSlot = some n →
      let w := ((u.testSet n .s m.s).testSet n .b m.b).testGeyser n m
      (w.onM (fun k => { k with diag := n :: k.diag })).nextSlot.isSome = true →
      exec (.offStateDiagnostics t n m) s = .next ((w.onM (fun k => { k with diag := n :: k.diag })).lostSet n))

/-- ENA active for 1 ms in a lane held by cause 4 starts it, with precharge, and takes the module from Dormant to Boot; precharge completes within 2 V of the supply and within 5 ms and ends cause 4, and the supply causes where the supply is back; an attempt is repeated after 100 ms; the disconnect blocks with the link 20 mV above the supply and conducts forward below it; the bleeder ends below 5 V. 256 good tap periods qualify a domain that was not lost; a core or reference domain not qualified in 2 ms resets the lane by cause 6 and is counted, CLK_AON only logged, any other domain taken out; the core domains are tried again every 100 ms; the loss of a core or reference domain resets the lane, of any other takes its blocks out.
(R262, R267, R404, R405, R406, R419, R420, R421) -/
def Obligations.WakeAndClockEventsComplete : Prop :=
  (∀ (s : State) (t : Nat) (n : Lane),
    (∀ (held : Nat),
      let u := s.at_ t
      (u.lane n).rst.inReset = true →
      (u.lane n).rst.causes.contains 4 = true →
      (u.lane n).rst.wakeAt = none →
      ms 1 ≤ held →
      let w := u.onLane n (fun l => { l with
        ena := { l.ena with pin := true }, state := .starting
        rst := { l.rst with wakeAt := some t, bootStep := 1, bootFailed := none }
        sup := { l.sup with disc := 1, preAt := t, bleeder := false, geyOpen := false } })
      exec (.wake t n held) s = .next (if w.m.mode = .dormant then w.onM (fun m => { m with mode := .boot, pend := .boot, wake0 := some t, held := false }) else w)) ∧
    (∀ (vsup mv : Nat),
      let u := s.at_ t
      (u.lane n).sup.disc = 1 →
      vsup ≤ mv + 2000 →
      t ≤ (u.lane n).sup.preAt + ms 5 →
      exec (.prechargeComplete t n vsup mv) s = .next ((((u.onSup n (fun p => { p with vsup := vsup, link := mv, disc := 2 })).clearCause n 4).supplyBack n vsup).readyCore n)) ∧
    (
      let u := s.at_ t
      (u.lane n).sup.disc = 1 →
      (u.lane n).sup.preAt + ms 100 ≤ t →
      exec (.prechargeRetry t n) s = .next (u.onSup n (fun p => { p with preAt := t }))) ∧
    (∀ (vsup mv : Nat),
      let u := s.at_ t
      (u.lane n).sup.disc = 2 →
      vsup + 20 ≤ mv →
      exec (.disconnectBlock t n vsup mv) s = .next (u.onSup n (fun p => { p with vsup := vsup, link := mv, disc := 3 }))) ∧
    (∀ (vsup mv : Nat),
      let u := s.at_ t
      (u.lane n).sup.disc = 3 →
      mv < vsup →
      exec (.disconnectConductForward t n vsup mv) s = .next ((u.onSup n (fun p => { p with vsup := vsup, link := mv, disc := 2 })).onLane n (fun l => { l with gey := { l.gey with fw := false } }))) ∧
    (∀ (mv : Nat),
      let u := s.at_ t
      mv < 5000 →
      exec (.bleederOff t n mv) s = .next (u.onSup n (fun p => { p with link := mv, bleeder := false })))) ∧
  (∀ (s : State) (t : Nat) (n : Lane),
    (∀ (d : Fin 13) (taps : List Nat) (count : Nat),
      let u := s.at_ t
      256 ≤ taps.length →
      (∀ p ∈ taps.take 256, tapOk d p = true) →
      (ratioOk count = true ∨ (d ≠ 1 ∧ d ≠ 2)) →
      (u.lane n).rst.lostDom.contains d = false →
      (u.lane n).rst.qual.contains d = false →
      (u.lane n).rst.fails < 10 →
      ((u.lane n).rst.clocked = true ∨ (u.lane n).rst.inReset = false) →
      let w := u.onRst n (fun r => { r with qual := d :: r.qual })
      exec (.clockQualified t n d taps count) s = .next ((if (w.lane n).rst.coreReady && (u.lane n).rst.causes.contains 6 then w.clearCause n 6 else w).readyCore n)) ∧
    (∀ (waited : Nat),
      let u := s.at_ t
      ms 20 ≤ waited →
      (u.lane n).rst.qual.contains 0 = false →
      ((u.lane n).rst.clocked = true ∨ (u.lane n).rst.inReset = false) →
      exec (.clockQualFail t n 0 waited) s = .next (u.log n 0x0805 0)) ∧
    (∀ (d : Fin 13) (waited : Nat),
      let u := s.at_ t
      let r := (u.lane n).rst
      (d = 1 ∨ d = 2 ∨ d = 3) →
      ms 2 ≤ waited →
      r.qual.contains d = false →
      (r.clocked = true ∨ r.inReset = false) →
      exec (.clockQualFail t n d waited) s = .next ((if r.inReset && r.causes.contains 6 then u else u.resetLane n 6).onLane n (fun l => { l with
        state := if 10 ≤ l.rst.countFail.fails then .off else l.state
        rst := { l.rst.countFail with aon := if l.rst.aon.contains d then l.rst.aon else l.rst.aon ++ [d], retryAt := t, wakeAt := r.wakeAt } }))) ∧
    (∀ (d : Fin 13) (waited : Nat),
      let u := s.at_ t
      4 ≤ d.val →
      d.val ≤ 9 →
      ms 2 ≤ waited →
      (u.lane n).rst.qual.contains d = false →
      (u.lane n).rst.lostDom.contains d = false →
      (u.lane n).rst.inReset = false →
      exec (.clockQualFail t n d waited) s = .next ((u.domainOut n d).log n 0x0805 (BitVec.ofNat 32 d.val))) ∧
    (
      let u := s.at_ t
      (u.lane n).rst.inReset = true →
      (u.lane n).rst.causes.contains 6 = true →
      (u.lane n).rst.fails < 10 →
      (u.lane n).rst.retryAt + ms 100 ≤ t →
      exec (.clockQualRetry t n) s = .next (u.onRst n (fun r => { r with retryAt := t, tried := false, qual := r.qual.filter (fun d => !(d == 1 || d == 2 || d == 3)) }))) ∧
    (∀ (d : Fin 13) (taps : List Nat),
      let u := s.at_ t
      (d = 1 ∨ d = 2 ∨ d = 3) →
      tapsLost d taps = true →
      (u.lane n).rst.qual.contains d = true →
      (u.lane n).rst.inReset = false →
      exec (.clockLoss t n d taps) s = .next (((u.log n 0x0806 (BitVec.ofNat 32 d.val)).resetLane n 6).checkLimp)) ∧
    (∀ (d : Fin 13) (taps : List Nat),
      let u := s.at_ t
      (d = 4 ∨ d = 5) →
      tapsLost d taps = true →
      (u.lane n).rst.qual.contains d = true →
      (u.lane n).rst.inReset = false →
      exec (.clockLoss t n d taps) s = .next (((u.onLane n LaneSt.floatLegs).domainOut n d).log n 0x0806 (BitVec.ofNat 32 d.val))))

/-- Every reset source takes its lane into reset with its cause (a supply at 9 V and above is none), the causes that end at once leaving the release count running; RST_n low for 1 us asserts cause 5, a shorter low than 0.2 us nothing, and between the two the filter decides (a free value); the handshake sample ends or holds cause 5; the watchdog forces the quench request after 2 ms and the reset 10 ms later.
(R413, R414, R415, R416, R417, R82) -/
def Obligations.ResetEventsComplete : Prop :=
  ∀ (s : State) (t : Nat) (n : Lane),
    (∀ (src : ResetSource),
      let u := (s.at_ t).seeSource n src
      let k := causeOf (u.lane n).sup.eff src
      k ≠ 0 →
      let w := if k = 7 ∨ k = 8 then u.restart n k else u.resetLane n k
      exec (.resetAssert t n src) s = .next ((if k = 4 ∨ k = 1 then w.onSup n (fun p => { p with disc := 0 }) else w).checkLimp)) ∧
    (∀ (src : ResetSource),
      let u := (s.at_ t).seeSource n src
      causeOf (u.lane n).sup.eff src = 0 →
      exec (.resetAssert t n src) s = .next (u)) ∧
    (∀ (low : Nat),
      let u := s.at_ t
      1000 ≤ low →
      ((u.lane n).rst.causes.contains 4 = false ∨ (u.lane n).rst.wakeAt.isSome = true) →
      exec (.externalReset t n low) s = .next ((u.resetLane n 5).checkLimp)) ∧
    (∀ (low : Nat),
      let u := s.at_ t
      low < 200 →
      exec (.externalReset t n low) s = .next (u)) ∧
    (∀ (low : Nat),
      let u := s.at_ t
      200 ≤ low →
      low < 1000 →
      ((u.lane n).rst.causes.contains 4 = false ∨ (u.lane n).rst.wakeAt.isSome = true) →
      exec (.externalReset t n low) s = .next (if Config.rstBand u.free then ({ u with free := u.free + 1 }.resetLane n 5).checkLimp else { u with free := u.free + 1 })) ∧
    (∀ (low : Bool),
      let u := s.at_ t
      (u.lane n).rst.inReset = true →
      (u.lane n).rst.rstDriven = false →
      (u.lane n).rst.extDone + us 25 ≤ t →
      (u.lane n).rst.causes.all (· == 5) = true →
      exec (.rstHandshakeSample t n low) s = .next (u.onRst n (fun r => if low then { r with causes := [5], cause := min r.cause 5, rstHigh := false, clearAt := t }
        else { r with causes := [], rstHigh := true, clearAt := if r.causes.contains 5 then t else r.clearAt }))) ∧
    (
      let u := s.at_ t
      (u.lane n).rst.inReset = false →
      (u.lane n).rst.dogForced = false →
      (u.lane n).state ≠ .off →
      (u.lane n).rst.appAt + ms 2 ≤ t →
      exec (.watchdog t n) s = .next (((u.onRst n (fun r => { r with dogForced := true, dogAt := t })).quenchRequest n).checkLimp)) ∧
    (
      let u := s.at_ t
      (u.lane n).rst.dogForced = true →
      (u.lane n).rst.dogAt + ms 10 ≤ t →
      exec (.watchdogReset t n) s = .next ((u.restart n 7).checkLimp))

/-- With no reset condition for 20 us, RST_n high and the core clocks qualified, a lane is released and runs Boot steps 3 to 7, after which a failed lane is Off, a Quenched one Quenched, and outside module Boot a lane enters Rejoining, or stays Isolated where its rejoins are used up; the vote-line test makes the lanes at step 9 Active; the 500 ms wait ends Boot, or with no Active lane and no wake leads back to Dormant; a boot report is kept, the governing package and the keys it lacks go to its lane, and a failed trial elsewhere ends the trial here. FW_VERIFY_COMPLETE with every Active lane passing answers state 2; the anti-rollback counters are raised after the delay; a segment of a firmware copy in turn is kept and written into the non-running bank; owner root keys that match the OTP hash are stored; a key package for a lane without one, and a missed enrolment, are taken after their checks.
(R52, R267, R268, R269, R416, R436, R440, R442, R430, R435, R437, R441) -/
def Obligations.BootAndFirmwareEventsComplete : Prop :=
  (∀ (s : State) (t : Nat) (n : Lane),
    (∀ (b : BootChecks),
      let u := s.at_ t
      (u.lane n).rst.inReset = true →
      (u.lane n).rst.causes = [] →
      (u.lane n).rst.rstHigh = true →
      (u.lane n).rst.coreReady = true →
      (u.lane n).rst.clearAt + us 20 ≤ t →
      let w := (u.release n).bootSteps n b
      exec (.resetRelease t n b) s = .next (if (w.lane n).rst.bootFailed.isSome then w.tryReady
        else if (w.lane n).vote.caldera then ((w.endBoot n b.ena).onLane n (fun l => { l with state := .quenched })).tryReady
        else if w.m.mode = .boot then w
        else if (w.lane n).vote.stay then (w.endBoot n b.ena).onLane n (fun l => { l with state := .isolated })
        else (w.endBoot n b.ena).enterRejoin n)) ∧
    (
      let u := s.at_ t
      u.m.mode = .boot →
      (∀ k, u.atStep9.contains k = true ∨ (u.lane k).waits = false) →
      exec (.voteLineTest t []) s = .next ((u.atStep9.foldl (fun (w : State) k =>
          let w := (w.onVote k (fun v => { v with lineBad := false, untested := u.atStep9.length != 3 })).onRst k (fun r => { r with bootStep := 10 })
          if (w.lane k).vote.stay then (w.endBoot k (w.lane k).ena.filt).onLane k (fun l => { l with state := .isolated })
          else if (w.lane k).mapBit 4 && (w.lane k).mapBit 5 then (w.endBoot k (w.lane k).ena.filt).isolate k 0x0702 else w.becomeActive k) u).tryReady)) ∧
    (∀ (a : Nat),
      let u := s.at_ t
      u.m.mode = .boot →
      u.m.wake0 = some a →
      a + ms 500 ≤ t →
      u.actives ≠ [] →
      exec (.bootWaitTimeout t) s = .next (u.tryReady)) ∧
    (∀ (held a : Nat),
      let u := s.at_ t
      u.m.mode = .boot →
      u.actives = [] →
      u.m.wake0 = some a →
      a + ms 500 ≤ t →
      ms 1 ≤ held →
      exec (.bootToDormant t held) s = .next ((u.onLanes (fun _ l => { l with ena := { l.ena with pin := false } })).enterDormant)) ∧
    (∀ (src dst : Lane) (e : BootReport),
      let u := s.at_ t
      src ≠ dst →
      (u.lane dst).rst.inReset = false →
      let b := bootItem e
      u.nextItem src dst 0x50 = some b →
      let v := u.dropItem src dst 0x50
      let w := v.onLink src dst (fun k => { k with boot := some (bootOf b) })
      (bootOf b).trialFailed = false →
      w.governing dst = none →
      exec (.bootReportItem t src dst e) s = .next (w.sendKeys dst src (bootOf b))) ∧
    (∀ (src dst : Lane) (e : BootReport) (g : Byte × Word),
      let u := s.at_ t
      src ≠ dst →
      (u.lane dst).rst.inReset = false →
      let b := bootItem e
      u.nextItem src dst 0x50 = some b →
      let v := u.dropItem src dst 0x50
      let w := v.onLink src dst (fun k => { k with boot := some (bootOf b) })
      (bootOf b).trialFailed = false →
      w.governing dst = some g →
      (w.lane dst).state ≠ .starting →
      exec (.bootReportItem t src dst e) s = .next ((w.copyFirmware dst src (bootOf b)).sendKeys dst src (bootOf b))) ∧
    (∀ (src dst : Lane) (e : BootReport),
      let u := s.at_ t
      src ≠ dst →
      (u.lane dst).rst.inReset = false →
      let b := bootItem e
      u.nextItem src dst 0x50 = some b →
      let v := u.dropItem src dst 0x50
      let w := v.onLink src dst (fun k => { k with boot := some (bootOf b) })
      (bootOf b).trialFailed = true →
      (w.lane dst).sec.trial.isSome = true →
      exec (.bootReportItem t src dst e) s = .next (w.dropTrial dst)) ∧
    (
      let u := s.at_ t
      u.m.mode = .boot →
      exec (.fwTrialTimeout t) s = .next (u.forLanes (fun w k => if (w.lane k).sec.trial.isSome = true ∧ (w.lane k).sec.trialAt + ms 500 ≤ t then w.dropTrial k else w)))) ∧
  (∀ (s : State) (t : Nat) (n : Lane),
    (
      let u := s.at_ t
      u.m.fwState = 1 →
      (∀ k ∈ u.actives, (u.lane k).sec.fwHave = true ∧ (u.lane k).verify = none) →
      exec (.fwVerifyComplete t) s = .next (u.onM (fun m => { m with fwState := 2, fwErr := (0, 0) }))) ∧
    (
      let u := s.at_ t
      (u.lane u.scribe).codeN Key.fwRaiseDelay * ms 3600000 ≤ u.m.runNs →
      exec (.rollbackRaised t) s = .next (u.actives.foldl (fun (w : State) k => match (w.lane k).sec.raiseDue with | some v => w.raise k v | none => w) u)) ∧
    (∀ (src dst : Lane) (o len : Nat) (d : List Byte),
      let u := s.at_ t
      src ≠ dst →
      (u.lane dst).rst.inReset = false →
      let b := segmentItem 0x51 o (d.take len)
      u.nextItem src dst 0x51 = some b →
      let v := u.dropItem src dst 0x51
      (v.lane dst).rst.bootFailed = some 5 →
      let off := rd b 3 4
      let data := b.drop 7
      (off = 0 ∨ off = (v.lane dst).sec.copy.length) →
      off + data.length ≤ pkgMax 1 →
      let got := if off = 0 then data else (v.lane dst).sec.copy ++ data
      got.length < 64 →
      exec (.firmwareCopyItem t src dst o len d) s = .next (v.onLane dst (fun l => { l with
        mem := Memory.writeBytes l.mem ((bankBase (v.lane dst).sec.otherBank).toNat + off) data
        sec := { l.sec.wipeBank (v.lane dst).sec.otherBank with copy := got } }))) ∧
    (∀ (src dst : Lane) (e : KeyContent) (slot : BitVec 1) (ed ml : List Byte),
      let u := s.at_ t
      src ≠ dst →
      (u.lane dst).rst.inReset = false →
      let b := keyItemBytes e
      u.nextItem src dst 0x52 = some b →
      let v := u.dropItem src dst 0x52
      (v.lane dst).state ≠ .active →
      keyOf b = .ownerKeys slot ed ml →
      (if slot = 0 then (v.lane dst).sec.owner0 else (v.lane dst).sec.owner1) = some (Config.hash (ed ++ ml)) →
      let w := v.onSec dst (fun x => { x with ownEd := ed, ownMl := ml })
      exec (.keyItem t src dst e) s = .next (if (v.lane dst).rst.wantsKeys then w.restart dst 8 else w)) ∧
    (∀ (src dst : Lane) (e : KeyContent) (pkg : List Byte),
      let u := s.at_ t
      src ≠ dst →
      (u.lane dst).rst.inReset = false →
      let b := keyItemBytes e
      u.nextItem src dst 0x52 = some b →
      let v := u.dropItem src dst 0x52
      (v.lane dst).state ≠ .active →
      keyOf b = .keyPackage pkg →
      exec (.keyItem t src dst e) s = .next (if pkgKind pkg = 5 then v.takeOwner dst pkg else v.takeKeys dst pkg)))

/-- A session item opens or closes its session in a peer that runs; a session idle for its time is closed, one without proof or with too many MAC failures is logged and closed; snapshots of a session lapse after 1 s; a finished report becomes readable and its challenge is answered with the first piece.
(R332, R352, R446, R449) -/
def Obligations.SessionEventsComplete : Prop :=
  ∀ (s : State) (t : Nat) (n : Lane),
    (∀ (src dst : Lane) (c : SessionChange),
      let u := s.at_ t
      src ≠ dst →
      (u.lane dst).rst.inReset = false →
      let b := sessionItemBytes c.isOpen c.entry
      u.nextItem src dst 0x30 = some b →
      let v := u.dropItem src dst 0x30
      rd b 3 1 % 2 = 1 →
      let e := (v.lane dst).sessionOf_item b v.now
      exec (.sessionItem t src dst c) s = .next (v.onSec dst (fun x => { x with sessions := x.sessions.filter (fun k => k.num != e.num) ++ [e] }))) ∧
    (∀ (src dst : Lane) (c : SessionChange),
      let u := s.at_ t
      src ≠ dst →
      (u.lane dst).rst.inReset = false →
      let b := sessionItemBytes c.isOpen c.entry
      u.nextItem src dst 0x30 = some b →
      let v := u.dropItem src dst 0x30
      rd b 3 1 % 2 ≠ 1 →
      exec (.sessionItem t src dst c) s = .next (v.onSec dst (·.dropSession ((v.lane dst).sessionOf_item b v.now).num))) ∧
    (∀ (num : Half) (e : SessionEntry),
      let u := s.at_ t
      (u.lane u.scribe).sec.session num = some e →
      e.lastUsed + e.idleNs ≤ t →
      exec (.sessionIdleTimeout t num) s = .next (u.closeSession u.scribe num)) ∧
    (∀ (num : Half) (e : SessionEntry) (k : Nat),
      let u := s.at_ t
      (u.lane u.scribe).sec.session num = some e →
      (u.lane u.scribe).dropCause e t = some k →
      exec (.sessionDropped t num) s = .next (u.dropSession u.scribe num k)) ∧
    (∀ (num : Half),
      let u := s.at_ t
      exec (.piecewiseSnapshotExpiry t n num) s = .next (u.onSec n (fun x => { x with snaps := x.snaps.filter (fun e => !(e.1 == num && decide (e.2.2.1 + 1000000000 ≤ t))) }))) ∧
    (∀ (r : Req),
      let u := s.at_ t
      (u.lane n).sec.attestReq = some r →
      let w := u.onSec n (fun x => { x with attestReady := true, attestReq := none })
      exec (.attestReportDone t n) s = .next (w.reply n 0x0801 r (w.piecewise n ((w.lane n).call 0x0801 r) 0 (w.lane n).sec.attest)))

/-- At matrix position 0 a running lane latches its health record with the next counter page and has four pieces to publish; lifetime counters are stored every 10 min and thermal cycles counted; a scrubbed word with a corrected result is counted and, outside OTP, written back, with an uncorrectable one is recorded and the lane requests its quench; a corrected beat of the internal bus is counted; a lockstep mismatch is logged and requests the quench.
(R14, R27, R28, R30, R389, R392, R393) -/
def Obligations.HealthEventsComplete : Prop :=
  ∀ (s : State) (t : Nat) (n : Lane),
    (
      let u := s.at_ t
      (u.lane n).state ≠ .off →
      let m := if (u.lane n).ctr.record.isEmpty then 0 else (u.lane n).net.mtrx + 1
      let w := u.onLane n (fun l => { l with net := { l.net with mtrx := m }, ctr := { l.ctr with page := m % 9 } })
      exec (.healthRecordLatch t n) s = .next (w.onCtr n (fun c => { c with record := w.healthRecord n, pieces := (List.range 4).map (fun j => ((w.healthRecord n).drop (16 * j)).take 16) }))) ∧
    (
      let u := s.at_ t
      (u.lane n).rst.inReset = false →
      (u.lane n).ctr.lifeAt + ms 600000 ≤ t →
      exec (.lifetimeCounterWrite t n) s = .next (u.onCtr n (fun c => { c with savedLife := (c.runNs, c.onNs, c.cycles, c.energy.floor.toNat), lifeAt := t }))) ∧
    (
      let u := s.at_ t
      (u.lane n).rst.inReset = false →
      exec (.thermalCycleSample t n) s = .next (u.onLane n (fun l => { l with ctr := l.ctr.thermal l.base16 }))) ∧
    (∀ (a : Word) (dx d : Dword) (cx : Byte),
      let u := s.at_ t
      (u.lane n).rst.inReset = false →
      let at_ := a.toNat / 8 * 8
      mapped at_ = true →
      let h := (u.lane n).held n at_
      let w := u.onLane n (fun l => l.store n at_ { data := h.data ^^^ dx, check := h.check ^^^ cx })
      ((w.lane n).held n at_).decode (foldMemory at_) = some (d, true) →
      (memoryOf at_).1 ≠ 3 →
      exec (.memoryScrub t n a ⟨false, dx, cx⟩) s = .next ((w.onCtr n (fun c => c.corrected (memoryOf at_).1)).onLane n (fun l => l.store n at_ (XWord.encode d (foldMemory at_))))) ∧
    (∀ (a : Word) (dx : Dword) (cx : Byte),
      let u := s.at_ t
      (u.lane n).rst.inReset = false →
      let at_ := a.toNat / 8 * 8
      mapped at_ = true →
      let h := (u.lane n).held n at_
      let w := u.onLane n (fun l => l.store n at_ { data := h.data ^^^ dx, check := h.check ^^^ cx })
      ((w.lane n).held n at_).decode (foldMemory at_) = none →
      exec (.memoryScrub t n a ⟨false, dx, cx⟩) s = .next (w.eccFault n at_ false)) ∧
    (∀ (a : Word) (dx d : Dword) (cx : Byte),
      let u := s.at_ t
      (u.lane n).rst.inReset = false →
      let at_ := a.toNat / 8 * 8
      mapped at_ = true →
      let w := XWord.encode ((u.lane n).wordAt n at_) (foldBus at_)
      XWord.decode { data := w.data ^^^ dx, check := w.check ^^^ cx } (foldBus at_) = some (d, true) →
      exec (.memoryScrub t n a ⟨true, dx, cx⟩) s = .next (u.onCtr n (fun c => c.corrected 4))) ∧
    (∀ (a : Word),
      let u := s.at_ t
      (u.lane n).rst.inReset = false →
      exec (.lockstepMismatch t n a) s = .next (((u.log n 0x0801 a).quenchRequest n).checkLimp))

/-- A completed set of a load measurement stores its record, and with the last named set every set returns to high-impedance; a cable measurement after 64 pulses stores its finding and distance; a completed self-test sets and clears the bits it covers, stores its masks and passes to the next lane.
(R376, R377, R380, R384, R385, R387) -/
def Obligations.MeasurementEventsComplete : Prop :=
  ∀ (s : State) (t : Nat) (n : Lane),
    (∀ (x : Axis) (m : LoadSample),
      let u := s.at_ t
      u.meas.names n x = true →
      ((u.lane n).set x).switching = true →
      (x = .s ∨ u.meas.loadS = false) →
      let w := u.onSet n x (fun c => { c with load := loadResult c.load u.meas.loadQ m ((u.lane n).motor x).r c.obs.psi })
      let v := { w with meas := { w.meas with loadS := w.meas.loadS && x != Axis.s, loadB := w.meas.loadB && x != Axis.b } }
      exec (.measureLoadComplete t n x m) s = .next (if v.meas.loadS || v.meas.loadB then v else State.floatAll { v with meas := { v.meas with loadOn := false } })) ∧
    (∀ (refl : Int) (delay : Nat),
      let u := s.at_ t
      u.meas.cableOn = true →
      u.meas.cableLane = n →
      64 ≤ ((u.lane n).net.chan u.meas.cableChan).tdrPulses →
      let fault := decide (25 < absQ refl) && decide (echoDistance delay ≤ 250)
      exec (.measureCableComplete t n refl delay) s = .next ({ u with meas := { u.meas.putCable n u.meas.cableChan (2, if fault then (if 0 < refl then 1 else 2) else 0,
        if fault then h16 (echoDistance delay) else 0) with cableOn := false } })) ∧
    (∀ (ok bad : Byte) (bits : Dword),
      let u := s.at_ t
      u.meas.testOn = true →
      u.meas.testLanes.head? = some n →
      let ran := u.countedTests n (ok &&& u.meas.testMask.setWidth 8)
      let failed := bad &&& ran
      let ks := (List.range 16).filter (fun k => bits.getLsbD k && (u.lane n).testable k && (clearingTests k).any (fun j => failed.getLsbD j))
      let w := u.failBits n ks (fun k => BitVec.ofNat 64 (2 ^ mapTest k * 2 ^ 56))
      let v := ((w.onLane n (·.reinit ran t)).clearBits n ran failed bits).onLane n LaneSt.obeyMap
      exec (.selftestComplete t n ok bad bits) s = .next (State.lostSet { v with meas := { v.meas with
        testLanes := v.meas.testLanes.drop 1, testOn := !(v.meas.testLanes.drop 1).isEmpty
        testRes := (n, 2, ran.setWidth 16, failed.setWidth 16) :: v.meas.testRes.filter (fun r => r.1 != n) } } n))

/-- A frame of at least 10 words in which every word checks comes into use as a whole in a running lane: the view, the link counters, the relay words, the share of the peer, what its change asks for, the comparisons of the step, the temperature review and the late half of the own frame; a frame with an uncorrectable word only counts. Loss of signal clears what the link carried; enough lost frames declare it down, 16 committed ones declare it up; an Enable item is kept and the stop reviewed.
(R17, R27, R34, R38, R39, R40, R262, R271) -/
def Obligations.LinkEventsComplete : Prop :=
  ∀ (s : State) (t : Nat) (src dst : Lane), src ≠ dst →
    (∀ (ws : List XWord) (ds : List Dword) (fixed : Nat),
      let u := s.at_ t
      (u.lane dst).rst.inReset = false →
      10 ≤ ws.length →
      (u.lane dst).mapBit (linkEndBit dst src) = false →
      checkWords (linkId src dst) 0 ws = some (ds, fixed) →
      let w := (u.onCtr dst (fun c => { c with ecLink := (List.range fixed).foldl (fun a _ => satInc a) c.ecLink })).onLink src dst (fun k =>
        let v := viewOf k.view ds
        { k with view := v, heard := true, signal := true, got := true, lost := 0,
                 good := if k.down then k.good + 1 else 0, heardMe := k.heardMe || fld v.s6 31 1 == 1 })
      let y := ((w.onLink src dst (fun k => k.feedFrame ((ds.drop 1).take (ds.length - 9)))).stampTime u src dst).countStale src dst
      let z := if (y.link src dst).speaks then y.noteShare src dst else y
      exec (.crossLaneFrameCommit t src dst ws) s = .next (((((z.viewChanged u src dst).takeSetting src dst).compareStep dst).reviewTemp dst).latchT dst)) ∧
    (∀ (ws : List XWord),
      let u := s.at_ t
      (u.lane dst).rst.inReset = false →
      10 ≤ ws.length →
      (u.lane dst).mapBit (linkEndBit dst src) = false →
      checkWords (linkId src dst) 0 ws = none →
      exec (.crossLaneFrameCommit t src dst ws) s = .next (u.onCtr dst (fun c => if src = dst.lower then { c with linkLo := satInc c.linkLo } else { c with linkHi := satInc c.linkHi }))) ∧
    (
      let u := s.at_ t
      (u.lane dst).rst.inReset = false →
      (u.link src dst).signal = true →
      exec (.linkLossOfSignal t src dst) s = .next ((u.onLink src dst (fun k => { ({} : LinkIn) with
        out := k.out, outRelay := k.outRelay, txPart := k.txPart, txq := k.txq
        overIn := k.overIn, overOut := k.overOut, relayOut := k.relayOut })).viewChanged u src dst)) ∧
    (
      let u := s.at_ t
      (u.lane dst).rst.inReset = false →
      (u.link src dst).down = false →
      (u.link src dst).signal = true →
      (u.lane dst).codeN Key.linkLossPeriods ≤ (u.link src dst).lost →
      let w := (u.onLink src dst (fun k => { k with down := true, downSince := t, good := 0 })).log dst 0x0601 (BitVec.ofNat 32 (linkId src dst))
      exec (.linkDown t src dst) s = .next (w.viewChanged u src dst)) ∧
    (
      let u := s.at_ t
      (u.link src dst).down = true →
      16 ≤ (u.link src dst).good →
      (u.lane dst).mapBit (linkEndBit dst src) = false →
      let w := u.onLink src dst (fun k => { k with down := false, good := 0, lost := 0 })
      exec (.linkUp t src dst) s = .next (w.viewChanged u src dst)) ∧
    (∀ (on : Bool),
      let u := s.at_ t
      (u.lane dst).rst.inReset = false →
      let b := enableItem on
      u.nextItem src dst 0x01 = some b →
      let v := u.dropItem src dst 0x01
      let w := (v.onLink src dst (fun k => { k with ena := rd b 3 1 == 1 })).reviewStop
      exec (.enableStateItem t src dst on) s = .next (if w.m.mode = .ready then w.noteSleep else w))

/-- Exactly one counting vote takes an Active lane to Isolated; two, or its own quench request with fewer than two Active peers, set the Caldera of a running lane; the withdrawal of the last vote may release it. SHADOW.STEPS torque mismatches cast a vote with reason 1; a first profile mismatch re-seeds the Deputy, a second marks its profile engine and gives up the role, the mismatch of the next Deputy as well casts both votes with reason 2. A link down for its time with signal from a present target, which the present third lane does not hear either, casts a vote with reason 4; a newer epoch claimed by a Leader is followed by a lane that saw the loss and otherwise voted against; a single counting vote opens a dispute after VOTE.CONFIRM steps; without a verdict the time-out is logged and the dispute stays open.
(R44, R45, R46, R47, R48, R49, R496, R54, R57, R65, R66) -/
def Obligations.VoteEventsComplete : Prop :=
  (∀ (s : State) (t : Nat) (n : Lane),
    (
      let u := s.at_ t
      2 ≤ (u.counting n).length →
      (u.lane n).vote.caldera = false →
      (u.lane n).rst.inReset = false →
      (u.lane n).state ≠ .off →
      exec (.calderaSet t n) s = .next ((((if (u.lane n).state = .rejoining then u.endAttempt n false else u)).setCaldera n 1).checkLimp)) ∧
    (
      let u := s.at_ t
      (u.counting n).length < 2 →
      ((u.lane n).vote.request = true ∨ (u.lane n).rst.dogForced = true) →
      u.activePeers n < 2 →
      (u.lane n).vote.caldera = false →
      (u.lane n).rst.inReset = false →
      (u.lane n).state ≠ .off →
      exec (.calderaSet t n) s = .next ((((if (u.lane n).state = .rejoining then u.endAttempt n false else u)).setCaldera n 2).checkLimp)) ∧
    (
      let u := s.at_ t
      (u.counting n).length = 1 →
      (u.lane n).vote.caldera = false →
      (u.lane n).state = .active →
      exec (.votedIsolated t n) s = .next (((u.isolate n 0x0701).onVote n (fun v => { v with byVote := true })).checkLimp)) ∧
    (
      let u := s.at_ t
      (u.counting n).length = 1 →
      (u.lane n).vote.caldera = false →
      (u.lane n).state = .rejoining →
      exec (.votedIsolated t n) s = .next (((((u.log n 0x0701 (laneAddr n)).endAttempt n false)).onVote n (fun v => { v with byVote := true })).checkLimp)) ∧
    (
      let u := s.at_ t
      exec (.voteWithdrawn t n) s = .next (u.tryRelease n)) ∧
    (∀ (k : Lane),
      let u := s.at_ t
      (u.lane n).leader = some k →
      ((u.lane n).role = .deputy ∨ (u.lane n).role = .member) →
      (u.lane n).codeN Key.shadowSteps ≤ (u.lane n).prof.torqueRun →
      exec (.torqueShadow t n) s = .next ((u.cast n k 1).reform n)) ∧
    (∀ (k : Lane) (q : Snapshot),
      let u := s.at_ t
      (u.lane n).leader = some k →
      u.snapshotFrom k n = some q →
      (u.lane n).profileDue = true →
      (∀ a, (u.lane n).prof.reseedAt = some a → a + 1000000000 < t) →
      u.formerDeputy n = none →
      exec (.profileReseed t n) s = .next (((u.dropItem k n 0x60).onLane n (fun l => { l with
        prof := { (l.prof.seedFrom q.prof) with reseedAt := some t }, ctr := { l.ctr with reseeds := satInc l.ctr.reseeds } })).log n 0x0B02 (laneAddr n))) ∧
    (∀ (a : Nat),
      let u := s.at_ t
      (u.lane n).profileDue = true →
      (u.lane n).prof.reseedAt = some a →
      t ≤ a + 1000000000 →
      u.formerDeputy n = none →
      exec (.deputySelftestFail t n) s = .next (((((u.markBit n 3).log n 0x0B03 (laneAddr n)).setRole n .member (u.lane n).leader).onProf n
        (fun p => { p with profRun := 0, snapshot := false })).onM (fun m => { m with exDep := some (n, t) }))) ∧
    (∀ (k m : Lane),
      let u := s.at_ t
      (u.lane n).leader = some k →
      u.formerDeputy n = some m →
      (u.lane n).profileDue = true →
      (u.lane n).prof.snapshot = true →
      exec (.profileShadow t n) s = .next ((u.cast n k 2).cast m k 2))) ∧
  (∀ (s : State) (t : Nat) (n : Lane),
    (∀ (k : Lane),
      let u := s.at_ t
      n ≠ k →
      (u.link k n).down = true →
      (u.link k n).signal = true →
      (u.link k n).downSince + (((u.lane n).codeN Key.linkSilenceVote : Rat) * (u.lane n).periodNs).floor.toNat ≤ t →
      u.absentFor n k = false →
      u.absentFor n (n.third k) = false →
      (u.link (n.third k) n).heard = true →
      (u.link (n.third k) n).hearsThird = false →
      exec (.linkSilence t n k) s = .next (u.cast n k 4)) ∧
    (∀ (k : Lane),
      let u := s.at_ t
      n ≠ k →
      (u.lane n).state = .active →
      (u.link k n).speaks = true →
      (u.link k n).role = .leader →
      newer (u.link k n).epoch (u.lane n).epoch = true →
      exec (.epochClaim t n k) s = .next (if u.sawLoss n then u.follow k n else u.cast n k 6)) ∧
    (∀ (k : Lane),
      let u := s.at_ t
      n ≠ k →
      u.counting k = [n] →
      ((u.lane n).vote.on k).at_ + 125000 * (u.lane n).codeN Key.voteConfirm ≤ t →
      (u.lane n).vote.disputes k = false →
      let c : BitVec 4 := if (u.lane n).vote.dispCtr = 15 then 1 else (u.lane n).vote.dispCtr + 1
      exec (.dispute t n k) s = .next (((u.takeEffectIn n .dispute).onVote n (fun v => { v with dispCtr := c, disps := { id := disputeId n k c, at_ := t } :: v.disps })).log n 0x0B04
        ((disputeId n k c).setWidth 32))) ∧
    (∀ (k : Lane) (d : DispSt),
      let u := s.at_ t
      (u.lane n).vote.disps.find? (fun d => (d.id.toNat / 16) % 4 == k.num) = some d →
      d.timedOut = false →
      d.at_ + ms ((u.lane n).codeN Key.arbTimeout) ≤ t →
      exec (.disputeTimeout t n k) s = .next ((u.onVote n (fun v => { v with disps := v.disps.map (fun e => if e.id = d.id then { e with timedOut := true } else e) })).log n 0x0B05
        (d.id.setWidth 32))))

/-- An Active lane that has observed the loss and is the successor takes the lead, and a Deputy that observed it as well follows; an eligible lane takes the role from a Leader that is not; a vacant Deputy role is filled; the shadow of the Deputy starts from the state of the Leader; a held command is applied to the shadow when the Leader reports it. With the records of the Leader copied in time a rejoining lane goes to step 2, or fails if its stamp still differs; the snapshot takes it to step 3 in Run and Limp and to Active otherwise; 16 converged periods make its estimates valid, ask for the start of its sets and begin the ramp; the end of the ramp makes it Active; a step past its limit fails, and a lane without a counting vote tries again after 1 s.
(R42, R43, R59, R61, R62, R64, R497, R498, R69, R70, R71, R72) -/
def Obligations.LeadershipAndRejoinEventsComplete : Prop :=
  (∀ (s : State) (t : Nat) (n : Lane),
    (∀ (a : Nat),
      let u := s.at_ t
      u.m.mode.votes = true →
      (u.lane n).state = .active →
      (u.lane n).role ≠ .leader →
      (u.lane n).rejoin.lossSeen = some a →
      a < t →
      u.successor n (u.lane n).leader = some n →
      (u.takeLead n (u.lane n).leader).nextDeputy n = none →
      exec (.leaderHandover t n) s = .next ((u.takeLead n (u.lane n).leader).decideNow)) ∧
    (∀ (m : Lane) (a : Nat),
      let u := s.at_ t
      u.m.mode.votes = true →
      (u.lane n).state = .active →
      (u.lane n).role ≠ .leader →
      (u.lane n).rejoin.lossSeen = some a →
      a < t →
      u.successor n (u.lane n).leader = some n →
      let w := u.takeLead n (u.lane n).leader
      w.nextDeputy n = some m →
      exec (.leaderHandover t n) s = .next ((if (w.lane m).rejoin.lossSeen.isSome then w.makeDeputy m n else w).decideNow)) ∧
    (∀ (k : Lane),
      let u := s.at_ t
      u.leader = some k →
      u.m.mode.votes = true →
      k ≠ n →
      u.eligible n = true →
      u.eligible k = false →
      (u.lane n).activeAt < t →
      let w := (u.setRole k .member (some n)).takeLead n (some k)
      exec (.leaderReturn t n) s = .next ((w.adopt k (w.lane n).epoch).decideNow)) ∧
    (∀ (k : Lane),
      let u := s.at_ t
      u.leader = some k →
      u.m.mode.votes = true →
      (u.lane k).state = .active →
      u.nextDeputy k = some n →
      exec (.deputyAssign t n) s = .next (u.makeDeputy n k)) ∧
    (∀ (k : Lane) (q : Snapshot),
      let u := s.at_ t
      (u.lane n).leader = some k →
      u.snapshotFrom k n = some q →
      (u.lane n).role = .deputy →
      (u.lane n).prof.snapshot = false →
      exec (.shadowSnapshotDone t n) s = .next ((u.dropItem k n 0x60).onProf n (fun p => { (p.seedFrom q.prof) with snapshot := true }))) ∧
    (∀ (k : LinkIn) (h : Half × Req × Half),
      let u := s.at_ t
      (u.lane n).role = .deputy →
      u.leaderLink n = some k →
      let seq : Half := BitVec.ofNat 16 (fld k.view.s2 0 16)
      (u.lane n).prof.held.find? (fun h => h.1 == seq) = some h →
      exec (.deputyShadowApply t n) s = .next (u.onProf n (fun _ => { (motionEffect h.2.2 u n ((u.lane n).call h.2.2 h.2.1)).1 with
        lastSeq := seq, held := ((u.lane n).prof.held.dropWhile (fun x => x.1 != seq)).drop 1 })))) ∧
  (∀ (s : State) (t : Nat) (n : Lane),
    (∀ (k : Lane),
      let u := s.at_ t
      u.leader = some k →
      (u.lane n).state = .rejoining →
      (u.lane n).rejoin.step = 1 →
      u.rejoinLate n = false →
      let w := (if newer (u.lane k).epoch (u.lane n).epoch then u.adopt n (u.lane k).epoch else u).onLane n (fun l => { l with leader := some k })
      let v := if (u.lane n).stamp = (u.lane k).stamp then w else w.onLane n (fun l => { l with cal := (u.lane k).cal, stamp := some (l.par.vehicle, Config.hash (u.lane k).cal.bytes) })
      exec (.rejoinRecordsCopied t n) s = .next (if (v.lane n).stamp = (u.lane k).stamp then (v.dropItem k n 0x60).onLane n (fun l => { l with rejoin := { l.rejoin with step := 2, at_ := t, copy := false } }) else v.failRejoin n 0x0703 (laneAddr n))) ∧
    (∀ (k : Lane) (q : Snapshot),
      let u := s.at_ t
      (u.lane n).leader = some k →
      u.snapshotFrom k n = some q →
      (u.lane n).state = .rejoining →
      (u.lane n).rejoin.step = 2 →
      u.rejoinLate n = false →
      let w := (u.dropItem k n 0x60).onLane n (·.takeSnapshot q)
      exec (.rejoinSnapshotReceived t n) s = .next (if w.m.mode = .run ∨ w.m.mode = .limp then w.onLane n (fun l => { l with
          rejoin := { l.rejoin with step := 3, at_ := t }, s := l.s.beforeCatch, b := l.b.beforeCatch })
        else (w.becomeActive n).checkLimp)) ∧
    (
      let u := s.at_ t
      (u.lane n).state = .rejoining →
      (u.lane n).rejoin.step = 4 →
      u.rejoinLate n = false →
      (∀ x ∈ (u.lane n).wanted, 16 ≤ ((u.lane n).set x).obs.near) →
      exec (.rejoinConverged t n) s = .next (u.onLane n (fun l => { l with
        rejoin := { l.rejoin with step := 5, at_ := t, due := true }
        s := if (u.lane n).setBad .s then l.s else { l.s with ramp := 0, share := 0, obs := { l.s.obs with valid := true } }
        b := if (u.lane n).setBad .b then l.b else { l.b with ramp := 0, share := 0, obs := { l.b.obs with valid := true } } }))) ∧
    (
      let u := s.at_ t
      (u.lane n).state = .rejoining →
      (u.lane n).rejoin.step = 5 →
      (u.lane n).rejoin.at_ + ms ((u.lane n).codeN Key.rejoinRamp) ≤ t →
      exec (.rejoinRampEnd t n) s = .next (((u.becomeActive n).reform n).checkLimp)) ∧
    (
      let u := s.at_ t
      (u.lane n).state = .rejoining →
      u.rejoinLate n = true →
      exec (.rejoinFail t n) s = .next (u.failRejoin n 0x0704 (BitVec.ofNat 32 (u.lane n).rejoin.step))) ∧
    (∀ (a : Nat),
      let u := s.at_ t
      (u.lane n).rejoin.retry = some a →
      (u.lane n).state = .isolated →
      (u.lane n).vote.stay = false →
      a + 1000000000 ≤ t →
      u.counting n = [] →
      exec (.rejoinRetry t n) s = .next (u.enterRejoin n)))

/-- A command frame accepted in a window that addresses the module is taken into the triple buffer under the freshness rule and offered to relayed peers; every other verdict has the effect of reception alone (its counter, or the sender seen). A reference frame of a used source records its deviation, a short one counts. A new CAPS payload is kept, its versions noted, and logged. An inbound item reaches a relayed lane; an outbound status item is held; overtaken and overdue relay items count.
(R23, R285, R286, R287, R288, R298, R300, R308, R309, R316, R381) -/
def Obligations.ReceptionEventsComplete : Prop :=
  ∀ (s : State) (t : Nat) (n : Lane) (c : Chan),
    (∀ (f : HFrame) (w p : Nat),
      let u := s.at_ t
      let r := u.receive n c f
      r.2 = .ok w p →
      (u.lane n).addressed w p = true →
      f.null = false →
      (u.lane n).net.hearsOn c = true →
      exec (.commandFrame t n c f) s = .next (if (r.1.takeCommand n f).2 = true then (r.1.takeCommand n f).1.offerRelay n c f else (r.1.takeCommand n f).1)) ∧
    (∀ (f : HFrame),
      let u := s.at_ t
      (∀ w p, (u.receive n c f).2 = .ok w p → (u.lane n).addressed w p = false ∨ f.null = true ∨ (u.lane n).net.hearsOn c = false) →
      exec (.commandFrame t n c f) s = .next ((u.receive n c f).1)) ∧
    (∀ (f : HFrame),
      let u := s.at_ t
      exec (.nullFrame t n c f) s = .next ((u.receive n c f).1)) ∧
    (∀ (f : HFrame) (w p i : Nat),
      let u := s.at_ t
      (u.receive n c f).2 = .ok w p →
      (u.lane n).sources.findIdx? (· == f.sender.toNat) = some i →
      entryType (almEntry (u.lane n).net.almanac p w) = 1 →
      8 ≤ f.plen.toNat →
      winEnd (u.lane n).net.almanac w ≤ 900000 →
      let rx : Int := ((u.receive n c f).1.meridian n) / 1000000 * 1000000 + f.sfd
      let d := roundAway ((rx : Rat) - ((rd f.payload 0 8 : Rat) + (u.lane n).rxDelay))
      exec (.referenceFrame t n c f) s = .next ((u.receive n c f).1.onLane n (fun l => { l with time := l.time.onSource i (·.put c d) }))) ∧
    (∀ (f : HFrame) (w p i : Nat),
      let u := s.at_ t
      (u.receive n c f).2 = .ok w p →
      (u.lane n).sources.findIdx? (· == f.sender.toNat) = some i →
      entryType (almEntry (u.lane n).net.almanac p w) = 1 →
      f.plen.toNat < 8 →
      exec (.referenceFrame t n c f) s = .next ((u.receive n c f).1.onChan n c (fun k => { k with cRefFmt := satInc k.cRefFmt }))) ∧
    (∀ (f : HFrame) (w p : Nat),
      let u := s.at_ t
      (u.receive n c f).2 = .ok w p →
      entryType (almEntry (u.lane n).net.almanac p w) = 3 →
      (((u.lane n).net.chan c).capsKept.find? (fun e => e.1 == f.sender)).map (·.2) ≠ some f.payload →
      let w1 := (u.receive n c f).1.onChan n c (fun k => { k with capsKept := (f.sender, f.payload) :: k.capsKept.filter (fun e => e.1 != f.sender) })
      let w2 := w1.onNet n (·.putVersion f.sender false (highestCommon fcpKnown (rd f.payload 8 2) (rd f.payload 10 2))
        (highestCommon hioloKnown (rd f.payload 4 2) (rd f.payload 6 2)))
      exec (.capsFrame t n c f) s = .next (w2.log n 0x0B13 (BitVec.ofNat 32 f.sender.toNat) (BitVec.ofNat 64 (pack [(rd f.payload 0 1, 8), (rd f.payload 1 1, 8), (rd f.payload 2 1, 4),
        (rd f.payload 3 1, 4), (rd f.payload 6 2, 16), (rd f.payload 10 2, 16), (0, 8)])))) ∧
    (∀ (src dst : Lane) (c : Chan) (f : HFrame),
      let u := s.at_ t
      src ≠ dst →
      (u.lane dst).rst.inReset = false →
      let b := inboundItem c f
      u.nextItem src dst 0x10 = some b →
      let v := u.dropItem src dst 0x10
      exec (.inboundFrameItem t src dst c f) s = .next (if (v.lane dst).netRuns = true ∧ (v.lane dst).net.integrated = false then (v.takeCommand dst (frameOf (b.drop 4))).1 else v)) ∧
    (∀ (src dst : Lane) (epoch fresh : Half) (payload : List Byte),
      let u := s.at_ t
      src ≠ dst →
      (u.lane dst).rst.inReset = false →
      let b := statusItem epoch fresh payload
      u.nextItem src dst 0x11 = some b →
      let v := u.dropItem src dst 0x11
      (v.lane dst).netRuns = true →
      exec (.outboundStatusItem t src dst epoch fresh payload) s = .next (v.onLink src dst (fun k => { k with
          relayOut := some (BitVec.ofNat 16 (rd b 3 2), BitVec.ofNat 16 (rd b 5 2), b.drop 7, v.now)
          overOut := k.overOut + (if k.relayOut.isSome then 1 else 0) }))) ∧
    (
      let u := s.at_ t
      let late := fun (k : LinkIn) => (k.relayOut.map (fun r => decide (r.2.2.2 + ms ((u.lane n).codeN Key.netRelayHold) ≤ t))).getD false
      exec (.relayItemDrop t n true) s = .next ([n.lower, n.upper].foldl (fun (w : State) p =>
        (w.onLink p n (fun k => { k with overOut := 0, relayOut := if late (w.link p n) then none else k.relayOut })).onCtr n
          (fun c => { c with relayDrops := c.relayDrops + ((w.link p n).overOut + (if late (w.link p n) then 1 else 0)) })) u)) ∧
    (
      let u := s.at_ t
      exec (.relayItemDrop t n false) s = .next ([n.lower, n.upper].foldl (fun (w : State) p =>
        (w.onLink p n (fun k => { k with overIn := 0 })).onCtr n (fun c => { c with relayDrops := c.relayDrops + (w.link p n).overIn })) u))

/-- An application cycle without an unread frame serves the queue and writes the replies into the transmit buffer; at its open window the lane latches its status, or sends a null frame; outside it the Shutters block; a Joining channel sends its CAPS frame; a first segment opens a partial packet, a following one extends it, a missing one discards it; bus-off and dominant level end and begin as the transceiver says.
(R286, R297, R300, R315, R319, R343, R344, R466, R498) -/
def Obligations.SendingEventsComplete : Prop :=
  ∀ (s : State) (t : Nat) (n : Lane),
    (
      let u := s.at_ t
      (u.lane n).netRuns = true →
      let w := ((u.onRst n (fun r => { r with appAt := t })).reviewRelay n).serveQueue n
      (w.lane n).net.rx.isNone = true ∨ (w.lane n).net.rxOld = true →
      let v := w.countFresh n false
      exec (.applicationCycle t n) s = .next ((if v.leader = some n then v.answerQuench n else v).onNet n (fun x => { x with tx := some (x.replies.map (·.2)) }))) ∧
    (∀ (f : HFrame),
      let u := s.at_ t
      (u.lane n).netRuns = true →
      let w := ((u.onRst n (fun r => { r with appAt := t })).reviewRelay n).serveQueue n
      (w.lane n).net.rx = some f →
      (w.lane n).net.rxOld = false →
      let p := (w.lane n).packetsOf f t
      let x := w.onNet n (fun y => { y with rxOld := true })
      let y := if p.2 = true then x.onCtr n (fun c => { c with foreign := satInc c.foreign }) else x
      let v := (p.1.foldl (fun (z : State) e => z.takePacket n e) y).countFresh n (p.1.any ((w.lane n).freshPacket w.m.mode))
      exec (.applicationCycle t n) s = .next ((if v.leader = some n then v.answerQuench n else v).onNet n (fun x => { x with tx := some (x.replies.map (·.2)) }))) ∧
    (∀ (w : Nat),
      let u := s.at_ t
      (u.lane n).netRuns = true →
      ownWindow (u.lane n).net.almanac (matrixPos (u.meridian n)) ((u.lane n).nodeId n) = some w →
      winStart (u.lane n).net.almanac w ≤ cycleOffset (u.meridian n) + 4000 →
      cycleOffset (u.meridian n) < winEnd (u.lane n).net.almanac w →
      (u.lane n).net.tx.isSome = true →
      (u.lane n).net.integrated = true →
      (u.m.mode = .boot → u.m.held = false) →
      exec (.statusFrameSend t n) s = .next ((((u.pulse n).latchStatus n (pMax (almLen (u.lane n).net.almanac w))).transmit n w (matrixPos (u.meridian n)) false).repliesLeft n)) ∧
    (∀ (w : Nat) (p : Lane),
      let u := s.at_ t
      (u.lane n).netRuns = true →
      ownWindow (u.lane n).net.almanac (matrixPos (u.meridian n)) ((u.lane n).nodeId n) = some w →
      winStart (u.lane n).net.almanac w ≤ cycleOffset (u.meridian n) + 4000 →
      cycleOffset (u.meridian n) < winEnd (u.lane n).net.almanac w →
      (u.lane n).net.tx.isSome = true →
      (u.lane n).net.integrated = false →
      (u.m.mode = .boot → u.m.held = false) →
      (u.pulse n).relayPeer n = some p →
      exec (.statusFrameSend t n) s = .next ((((u.pulse n).latchStatus n (pMax (almLen (u.lane n).net.almanac w))).relayStatus n p).repliesLeft n)) ∧
    (∀ (w : Nat),
      let u := s.at_ t
      (u.lane n).netRuns = true →
      ownWindow (u.lane n).net.almanac (matrixPos (u.meridian n)) ((u.lane n).nodeId n) = some w →
      winStart (u.lane n).net.almanac w ≤ cycleOffset (u.meridian n) + 4000 →
      cycleOffset (u.meridian n) < winEnd (u.lane n).net.almanac w →
      (u.lane n).net.tx = none →
      (u.lane n).net.integrated = true →
      (u.m.mode = .boot → u.m.held = false) →
      exec (.statusFrameSend t n) s = .next (((u.pulse n).onNet n (fun x => { x with sentNull := true })).transmit n w (matrixPos (u.meridian n)) true)) ∧
    (∀ (w : Nat),
      let u := s.at_ t
      (u.lane n).netRuns = true →
      ownWindow (u.lane n).net.almanac (matrixPos (u.meridian n)) ((u.lane n).nodeId n) = some w →
      cycleOffset (u.meridian n) + 4000 < winStart (u.lane n).net.almanac w →
      (u.lane n).net.integrated = true →
      exec (.statusFrameSend t n) s = .next ((u.block n .x).block n .y)) ∧
    (∀ (c : Chan) (m : ArbSense) (w : Nat),
      let u := s.at_ t
      (u.lane n).netRuns = true →
      windowAt (u.lane n).net.almanac (cycleOffset (u.meridian n)) = some w →
      entryType (almEntry (u.lane n).net.almanac (matrixPos (u.meridian n)) w) = 3 →
      (((u.lane n).net.chan c).state = 2 ∨ (((u.lane n).net.chan c).state = 3 ∧ ((u.lane n).net.chan c).capsDue = true)) →
      ((u.lane n).net.chan c).capsSent = false →
      firstFree m ((u.lane n).nodeId n) = true →
      m.collision1 = false →
      let v := u.onChan n c (fun k => { k with
        capsSent := true, capsDue := false, frame := some ((u.lane n).frame n c w (matrixPos (u.meridian n)) false true ((u.lane n).capsPayload n c)) })
      exec (.capsFrameSend t n c m) s = .next (if ((u.lane n).net.chan c).state = 2 ∧ (u.lane n).codeN Key.netJoinAck = 0 then v.integrate n c else v)) ∧
    (∀ (c : Chan) (m : ArbSense) (w : Nat),
      let u := s.at_ t
      (u.lane n).netRuns = true →
      windowAt (u.lane n).net.almanac (cycleOffset (u.meridian n)) = some w →
      entryType (almEntry (u.lane n).net.almanac (matrixPos (u.meridian n)) w) = 3 →
      (((u.lane n).net.chan c).state = 2 ∨ (((u.lane n).net.chan c).state = 3 ∧ ((u.lane n).net.chan c).capsDue = true)) →
      ((u.lane n).net.chan c).capsSent = false →
      firstFree m ((u.lane n).nodeId n) = true →
      m.collision1 = true →
      secondFree m ((u.lane n).nodeId n) = true →
      m.collision2 = true →
      exec (.capsFrameSend t n c m) s = .next (u.onChan n c (fun k => { k with cArb := satInc k.cArb }))) ∧
    (∀ (id : BitVec 29) (data : List Byte),
      let u := s.at_ t
      (u.m.mode = .ready ∨ u.m.mode = .service) →
      u.host.silent = false →
      u.host.busOff = false →
      u.host.busy = false →
      id.toNat = 0x1C4F0000 + (u.lane u.scribe).tag * 0x100 →
      data.length = 64 →
      rd data 0 1 = 128 →
      u.hostFed = true →
      let d := if u.host.partAt + ms 50 < t then u.host.drop.drop else u.host.drop
      exec (.hostPortFrame t id true data) s = .next ({ u with host := { d with part := data.drop 1, index := 1, partAt := t } })) ∧
    (∀ (id : BitVec 29) (data : List Byte),
      let u := s.at_ t
      (u.m.mode = .ready ∨ u.m.mode = .service) →
      u.host.silent = false →
      u.host.busOff = false →
      u.host.busy = false →
      id.toNat = 0x1C4F0000 + (u.lane u.scribe).tag * 0x100 →
      data.length = 64 →
      rd data 0 1 = 192 →
      u.hostFed = true →
      u.host.index = 0 →
      exec (.hostPortFrame t id true data) s = .next (u.hostRequest (data.drop 1))) ∧
    (∀ (id : BitVec 29) (data : List Byte),
      let u := s.at_ t
      (u.m.mode = .ready ∨ u.m.mode = .service) →
      u.host.silent = false →
      u.host.busOff = false →
      t ≤ u.host.partAt + ms 50 →
      id.toNat = 0x1C4F0000 + (u.lane u.scribe).tag * 0x100 →
      data.length = 64 →
      rd data 0 1 = u.host.index →
      u.hostFed = true →
      0 < u.host.index →
      u.host.index < 64 →
      exec (.hostPortFrame t id true data) s = .next ({ u with host := { u.host with part := u.host.part ++ data.drop 1, index := u.host.index + 1, partAt := t } })) ∧
    (
      let u := s.at_ t
      u.host.index ≠ 0 →
      u.host.partAt + ms 50 < t →
      exec (.hostPortSegmentTimeout t) s = .next ({ u with host := { u.host with part := [], index := 0, cSeg := satInc u.host.cSeg } })) ∧
    (∀ (bits : Nat),
      let u := s.at_ t
      1408 ≤ bits →
      exec (.busOffRecovery t bits) s = .next ({ u with host := { u.host with busOff := false, txErr := 0 } })) ∧
    (∀ (held : Nat),
      let u := s.at_ t
      ms 4 < held →
      exec (.dominantTimeout t held) s = .next ({ u with host := { u.host with dominant := false, txErr := u.host.txErr + 8, busOff := u.host.busOff || decide (255 < u.host.txErr + 8) } }))

/-- At the end of a basic cycle the midpoint of the kept values is slewed out within NET.MAX_CORRECTION, beyond which the lane goes Passive with reason 1; at the matrix-cycle start the rate takes the summed corrections; the Shutter within 4 us re-aligns, beyond closes with reason 2; holdover makes the lane Passive with reason 4, a skewed Meridian with reason 5; Listen sets the Meridian from the first reference frame; a synchronised peer item is kept, or steps an unsynchronised relayed lane.
(R307, R310, R312, R313, R314, R315, R321, R322, R323) -/
def Obligations.MeridianEventsComplete : Prop :=
  ∀ (s : State) (t : Nat) (n : Lane) (c : Chan),
    (
      let u := s.at_ t
      (u.lane n).netRuns = true →
      let limit : Rat := 1000 * (u.lane n).val Key.netMaxCorrection
      let x := (u.lane n).time.onSources (·.keep ((u.lane n).codeN Key.netSyncAge))
      let kept := [x.s0.kept, x.s1.kept, x.s2.kept, x.s3.kept].filterMap id
      let peers := if (u.lane n).net.integrated = true then [] else [(u.lane n).lo.peerTime u.now, (u.lane n).hi.peerTime u.now].filterMap id
      let raw : Rat := -((if peers.isEmpty = true then midpoint kept true else midpoint peers false).getD 0)
      let c := roundAway (clampQ (-limit) limit raw)
      let remain := 1000000 - cycleOffset (x.reading u.now)
      let y := (x.anchor u.now x.rate ((c : Rat) / (remain : Rat)) (u.now + remain)).onSources (fun v => { v with kept := v.kept.map (· + c) })
      let far := !kept.isEmpty && kept.all (fun d => decide (4000 < absQ d))
      let v := (u.onLane n (fun l => { l with
        time := { y with
          lastC := c, sumC := y.sumC + c, noSource := if kept.isEmpty = true then y.noSource + 1 else 0, used := !kept.isEmpty
          fromPeer := !(u.lane n).net.integrated && y.fromPeer && !peers.isEmpty }
        net := { l.net with x := l.net.x.afterCorrection (!kept.isEmpty) (!decide (limit < absQ raw)) far
                            y := l.net.y.afterCorrection (!kept.isEmpty) (!decide (limit < absQ raw)) far } })).reviewSync n
      exec (.offsetCorrection t n) s = .next (if limit < absQ raw then v.passiveLane n 1 else v)) ∧
    (
      let u := s.at_ t
      (u.lane n).netRuns = true →
      let limit : Rat := (u.lane n).val Key.netRateLimit / 1000000
      let r := clampQ (-limit) limit ((u.lane n).time.rate + ((u.lane n).time.sumC : Rat) / 64000000)
      let y := (u.lane n).time.anchor u.now r (u.lane n).time.slew (u.lane n).time.slewEnd
      let k := if absQ r = limit then y.atLimit + 1 else 0
      let v := u.onLane n (fun l => { l with
        time := { y with sumC := 0, atLimit := k }, net := { l.net with x := { l.net.x with blocked := 0 }, y := { l.net.y with blocked := 0 } } })
      exec (.rateCorrection t n) s = .next (if 2 ≤ k then v.passiveLane n 3 else v)) ∧
    (∀ (k high : Nat),
      let u := (s.at_ t).checkEnable n c high
      (u.lane n).netRuns = true →
      (((u.lane n).net.chan c).state = 1 ∨ ((u.lane n).net.chan c).kTicks = 0) →
      exec (.shutterPhaseCheck t n c k high) s = .next (u.onChan n c (fun x => { x with kTicks := k, kSum := 0, kCount := 0, phaseOk := true }))) ∧
    (∀ (k high : Nat),
      let u := (s.at_ t).checkEnable n c high
      (u.lane n).netRuns = true →
      (((u.lane n).net.chan c).state = 2 ∨ ((u.lane n).net.chan c).state = 3) →
      ((u.lane n).net.chan c).kTicks ≠ 0 →
      absQ (((u.lane n).net.chan c).phaseError k) ≤ 4000 →
      exec (.shutterPhaseCheck t n c k high) s = .next (u.onChan n c (·.aligned k (decide (u.matrixPos n = 0))))) ∧
    (∀ (k high : Nat),
      let u := (s.at_ t).checkEnable n c high
      (u.lane n).netRuns = true →
      (((u.lane n).net.chan c).state = 2 ∨ ((u.lane n).net.chan c).state = 3) →
      ((u.lane n).net.chan c).kTicks ≠ 0 →
      4000 < absQ (((u.lane n).net.chan c).phaseError k) →
      exec (.shutterPhaseCheck t n c k high) s = .next ((u.onChan n c (fun x => { x with phaseOk := false, kSum := 0, kCount := 0 })).passiveChan n c 2)) ∧
    (
      let u := s.at_ t
      (u.lane n).netRuns = true →
      (u.lane n).codeN Key.netSyncHoldover ≤ (u.lane n).time.noSource →
      exec (.syncHoldover t n) s = .next (u.passiveLane n 4)) ∧
    (∀ (d : Int) (ds : List Int),
      let u := s.at_ t
      (u.lane n).netRuns = true →
      ((u.lane n).net.chan c).state = 1 →
      (u.lane n).time.synced = false →
      (u.lane n).time.taken = false →
      [(u.lane n).time.s0, (u.lane n).time.s1, (u.lane n).time.s2, (u.lane n).time.s3].filterMap (·.on c) = d :: ds →
      exec (.timeStep t n c) s = .next (u.stepTime n (BitVec.ofNat 32 c.num) (-d))) ∧
    (∀ (d : Rat),
      let u := s.at_ t
      (u.lane n).netRuns = true →
      ((u.lane n).net.chan c).state = 4 →
      8 ≤ ((u.lane n).net.chan c).big →
      (u.m.mode = .ready ∨ u.m.mode = .service) →
      midpoint ([(u.lane n).time.s0.kept, (u.lane n).time.s1.kept, (u.lane n).time.s2.kept, (u.lane n).time.s3.kept].filterMap id) true = some d →
      exec (.timeStep t n c) s = .next ((u.stepTime n (BitVec.ofNat 32 c.num) (roundAway (-d))).onLane n (fun l => { l with
        time := { l.time with taken := false }, net := { l.net with x := l.net.x.relisten, y := l.net.y.relisten } }))) ∧
    (∀ (src dst : Lane) (synced integ : Bool) (reading : Int),
      let u := s.at_ t
      src ≠ dst →
      (u.lane dst).rst.inReset = false →
      let b := timeItemBytes synced integ reading
      u.nextItem src dst 0x20 = some b →
      let v := u.dropItem src dst 0x20
      (v.lane dst).netRuns = true →
      let flags : Byte := BitVec.ofNat 8 (rd b 3 1)
      flags.getLsbD 0 = true →
      let delay : Nat := Config.linkDelay (BitVec.ofNat 2 src.num) (BitVec.ofNat 2 dst.num)
      let d : Int := (v.link src dst).timeRx - ((BitVec.ofNat 64 (rd b 4 8)).toInt + delay)
      let wide := decide (1000 * (v.lane dst).val Key.netPeerSkew < absQ d)
      let w := v.onLink src dst (fun k => { k with time := some (d, flags.getLsbD 1, v.now), skew := if (flags.getLsbD 1 && wide) = true then k.skew + 1 else 0 })
      let z := if (v.lane dst).time.synced = true then w else (w.stepTime dst 2 (-d)).onLink src dst (fun k => { k with time := some (0, flags.getLsbD 1, v.now), skew := 0 })
      exec (.timeItem t src dst synced integ reading) s = .next (if (v.lane dst).net.integrated = true then w else (z.onLane dst (fun l => { l with time := { l.time with fromPeer := true } })).reviewSync dst)) ∧
    (∀ (a b : Int) (i j : Nat),
      let u := s.at_ t
      (u.lane n).netRuns = true →
      (u.lane n).net.integrated = true →
      (u.lane n).lo.time = some (a, true, i) →
      (u.lane n).hi.time = some (b, true, j) →
      2 ≤ (u.lane n).lo.skew →
      2 ≤ (u.lane n).hi.skew →
      absQ ((a - b : Int) : Rat) ≤ 1000 * (u.lane n).val Key.netPeerSkew →
      exec (.peerSkew t n) s = .next (u.passiveLane n 5))

/-- After L agreeing basic cycles within 0.5 us a channel with a matching admission record, or of an admitted lane, becomes Integrated, another one Joining; a late join and a lost channel are logged once; at its activation time the pending Almanac becomes active; segments of the package of the Leader are collected in order, and a package that fails a check is rejected; a schedule report is kept.
(R83, R293, R295, R297, R312, R318, R319, R320) -/
def Obligations.ChannelEventsComplete : Prop :=
  ∀ (s : State) (t : Nat) (n : Lane) (c : Chan),
    (
      let u := s.at_ t
      (u.lane n).netRuns = true →
      ((u.lane n).net.chan c).state = 1 →
      (u.lane n).recordMatches n = true →
      (u.lane n).codeN Key.netFastListen ≤ ((u.lane n).net.chan c).agree →
      absQ (u.lane n).time.lastC ≤ 500 →
      u.almanacAgrees n = true →
      exec (.channelIntegrated t n c) s = .next ((u.onChan n c (fun k => { k with capsDue := true, capsSent := false })).integrate n c)) ∧
    (
      let u := s.at_ t
      (u.lane n).netRuns = true →
      ((u.lane n).net.chan c).state = 1 →
      (u.lane n).recordMatches n = false →
      64 ≤ ((u.lane n).net.chan c).agree →
      absQ (u.lane n).time.lastC ≤ 500 →
      u.almanacAgrees n = true →
      exec (.channelIntegrated t n c) s = .next (u.onChan n c (fun k => { k with state := 2, agree := 0, joinAt := u.now, joinLate := false, capsSent := false }))) ∧
    (
      let u := s.at_ t
      (u.lane n).netRuns = true →
      ((u.lane n).net.chan c).state = 4 →
      (u.lane n).net.admitted = true →
      64 ≤ ((u.lane n).net.chan c).agree →
      absQ (u.lane n).time.lastC ≤ 500 →
      u.almanacAgrees n = true →
      exec (.channelIntegrated t n c) s = .next (u.integrate n c)) ∧
    (
      let u := s.at_ t
      (u.lane n).netRuns = true →
      ((u.lane n).net.chan c).state = 2 →
      ((u.lane n).net.chan c).joinLate = false →
      ((u.lane n).net.chan c).joinAt + ms (1000 * (u.lane n).codeN Key.netJoinTimeout) ≤ t →
      exec (.joinTimeout t n c) s = .next ((u.onChan n c (fun k => { k with joinLate := true })).log n 0x0508 (BitVec.ofNat 32 c.num))) ∧
    (
      let u := s.at_ t
      (u.lane n).netRuns = true →
      ((u.lane n).codeN Key.netChannels).testBit c.num = true →
      ((u.lane n).net.chan c).state ≠ 3 →
      ((u.lane n).net.chan c).lostLog = false →
      ((u.lane n).net.chan c).away + ms 64 ≤ t →
      exec (.channelLost t n c) s = .next ((u.onChan n c (fun k => { k with lostLog := true })).log n 0x0501 (BitVec.ofNat 32 c.num))) ∧
    (∀ (p : List Byte),
      let u := s.at_ t
      (u.lane n).net.pendAlm = some p →
      (u.lane n).netRuns = true →
      (u.lane n).time.synced = true →
      matrixPos (u.meridian n) = 0 →
      (almTime p : Int) ≤ u.meridian n / 32000000 * 32000000 →
      (u.lane n).net.switchAfter < u.meridian n / 32000000 * 32000000 →
      let w := u.onNet n (fun x => { x with actAlm := p, pendAlm := none, actSecond := !x.actSecond })
      let v := if (w.lane n).sources = (u.lane n).sources then w else w.onLane n (fun l => { l with time := l.time.onSources (fun _ => {}) })
      exec (.almanacSwitch t n) s = .next ((if (u.lane n).net.integrated = true then v.onLane n (·.recordAdmission n) else v).log n 0x0B0D (almId p))) ∧
    (∀ (src dst : Lane) (g : Segment),
      let u := s.at_ t
      src ≠ dst →
      (u.lane dst).rst.inReset = false →
      let b := segmentItem 0x12 g.off g.data
      u.nextItem src dst 0x12 = some b →
      let v := u.dropItem src dst 0x12
      (v.lane dst).netRuns = true →
      (rd b 3 4 = 0 ∨ rd b 3 4 = (v.lane dst).net.almXfer.length) →
      let got := if rd b 3 4 = 0 then b.drop 7 else (v.lane dst).net.almXfer ++ b.drop 7
      (got.length < 64 ∨ got.length < 3437 + pkgBody got) →
      exec (.almanacSegmentItem t src dst g) s = .next (v.onNet dst (fun x => { x with almXfer := got }))) ∧
    (∀ (src dst : Lane) (g : Segment),
      let u := s.at_ t
      src ≠ dst →
      (u.lane dst).rst.inReset = false →
      let b := segmentItem 0x12 g.off g.data
      u.nextItem src dst 0x12 = some b →
      let v := u.dropItem src dst 0x12
      (v.lane dst).netRuns = true →
      (rd b 3 4 = 0 ∨ rd b 3 4 = (v.lane dst).net.almXfer.length) →
      let got := if rd b 3 4 = 0 then b.drop 7 else (v.lane dst).net.almXfer ++ b.drop 7
      64 ≤ got.length →
      3437 + pkgBody got ≤ got.length →
      let pkg := got.take (3437 + pkgBody got)
      (v.lane dst).pkgOrders [3] pkg = none →
      let w := v.onNet dst (fun x => { x with almXfer := [] })
      let running := (w.link src dst).sched.map (·.1) == some (almId (pkgBodyBytes pkg))
      checkAlmanac (pkgBodyBytes pkg) (v.lane dst).nodeIds (v.lane dst).tag (if running = true then (almTime (pkgBodyBytes pkg) : Int) - 64000000 else v.meridian dst) = none →
      exec (.almanacSegmentItem t src dst g) s = .next ((w.onLane dst (fun l => l.pendAlmanac pkg)).onNet dst (fun x => { x with switchAfter := v.meridian dst }))) ∧
    (∀ (src dst : Lane) (g : Segment) (order : Nat) (o : Nat),
      let u := s.at_ t
      src ≠ dst →
      (u.lane dst).rst.inReset = false →
      let b := segmentItem 0x12 g.off g.data
      u.nextItem src dst 0x12 = some b →
      let v := u.dropItem src dst 0x12
      (v.lane dst).netRuns = true →
      (rd b 3 4 = 0 ∨ rd b 3 4 = (v.lane dst).net.almXfer.length) →
      let got := if rd b 3 4 = 0 then b.drop 7 else (v.lane dst).net.almXfer ++ b.drop 7
      64 ≤ got.length →
      3437 + pkgBody got ≤ got.length →
      let pkg := got.take (3437 + pkgBody got)
      (v.lane dst).pkgOrders [3] pkg = some (order, o) →
      exec (.almanacSegmentItem t src dst g) s = .next ((v.onNet dst (fun x => { x with almXfer := [] })).logRejected dst pkg order (BitVec.ofNat 32 ((v.lane dst).net.almBase + o)))) ∧
    (∀ (src dst : Lane) (act pend : Word) (at_ : Dword),
      let u := s.at_ t
      src ≠ dst →
      (u.lane dst).rst.inReset = false →
      let b := scheduleItem act pend at_
      u.nextItem src dst 0x13 = some b →
      let v := u.dropItem src dst 0x13
      let w := v.onLink src dst (fun k => { k with sched := some (BitVec.ofNat 32 (rd b 3 4), BitVec.ofNat 32 (rd b 7 4), BitVec.ofNat 64 (rd b 11 8)) })
      (v.lane dst).role ≠ .leader →
      exec (.scheduleReportItem t src dst act pend at_) s = .next (w)) ∧
    (∀ (src dst : Lane) (act pend : Word) (at_ : Dword) (pkg : List Byte),
      let u := s.at_ t
      src ≠ dst →
      (u.lane dst).rst.inReset = false →
      let b := scheduleItem act pend at_
      u.nextItem src dst 0x13 = some b →
      let v := u.dropItem src dst 0x13
      let w := v.onLink src dst (fun k => { k with sched := some (BitVec.ofNat 32 (rd b 3 4), BitVec.ofNat 32 (rd b 7 4), BitVec.ofNat 64 (rd b 11 8)) })
      (v.lane dst).role = .leader →
      (w.link src dst).txq.any (fun i => itemType i == 0x12) = false →
      (w.lane dst).missingPackage dst (BitVec.ofNat 32 (rd b 3 4)) (BitVec.ofNat 32 (rd b 7 4)) = some pkg →
      exec (.scheduleReportItem t src dst act pend at_) s = .next ((segmentItems 0x12 pkg).foldl (fun (x : State) i => x.pushItem dst src i) w))

/-- A frame of a supplied port is taken by the checks in their order, logged where one failed, and the port agreement and the compare slots follow. A serial message is kept or, with a bad CRC, counts; a port without an accepted frame for its time-out loses its value; SVCC_n below 4.50 V for 1 ms sets the supply fault, above 4.75 V for 1 ms clears it, and the output retries every 100 ms.
(R212, R214, R215, R217, R218, R219, R235, R382) -/
def Obligations.SensorSupplyAndSentEventsComplete : Prop :=
  ∀ (s : State) (t : Nat) (n : Lane),
    (∀ (p : SentPort) (f : SentRaw),
      let u := s.at_ t
      (u.lane n).sup.svccOn = true →
      let r := ((u.lane n).sent p).take ((u.lane n).sentPar p) f ((u.lane n).time.reading (t - (f.pause.getD 0) * 25 / 2)).toNat t
      let w := u.onLane n (·.onSent p (fun _ => r.1))
      let v := if r.2 = true then w.log n 0x0401 (portAddr n p.num) else w
      let x := if p = .a ∧ r.1.cAccept ≠ ((u.lane n).sent p).cAccept ∧ ((u.lane n).sent p).accepted = true then
        v.onLane n (fun l => l.followSlots true (BitVec.ofNat 64 r.1.stamp) ((u.lane n).sent p).value r.1.value) else v
      exec (.sentFrame t n p f) s = .next ((if (x.sentOut n p && !((x.lane n).sent p).aside) = true then x.agreeSent n p false else x).reslot n)) ∧
    (∀ (p : SentPort) (i : Byte) (data : Half),
      let u := s.at_ t
      (u.lane n).sup.svccOn = true →
      serialOf ((u.lane n).sentPar p).serial ((u.lane n).sent p).bits = some (i, data, true) →
      let w := (u.onLane n (·.onSent p (fun x => { x with bits := [] }))).onLane n (·.onSent p (·.putSerial i data))
      exec (.sentSerialMessage t n p i data true) s = .next (if ((u.lane n).sentPar p).serial = 2 ∧ ((u.lane n).sent p).idSeen ≠ 15 ∧ ((w.lane n).sent p).idSeen = 15 then w.checkIdentity n p else w)) ∧
    (∀ (p : SentPort) (i : Byte) (data : Half),
      let u := s.at_ t
      (u.lane n).sup.svccOn = true →
      serialOf ((u.lane n).sentPar p).serial ((u.lane n).sent p).bits = some (i, data, false) →
      exec (.sentSerialMessage t n p i data false) s = .next ((u.onLane n (·.onSent p (fun x => { x with bits := [] }))).onLane n (·.onSent p (fun x => { x with cSerial := satInc x.cSerial })))) ∧
    (∀ (p : SentPort),
      let u := s.at_ t
      (u.lane n).sup.svccOn = true →
      ((u.lane n).sent p).errs.getLsbD 0 = false →
      (u.lane n).timeoutFrom p ≤ t →
      (u.lane n).timeoutNs p ≤ ((t - (u.lane n).timeoutFrom p : Nat) : Rat) →
      exec (.sentTimeout t n p) s = .next (((u.onLane n (·.onSent p (fun x => { x with
        errs := x.errs ||| 1, cTimeout := satInc x.cTimeout, prevCal := none, idSeen := 0, bits := [] }))).log n 0x0402 (portAddr n p.num)).reslot n)) ∧
    (∀ (mv held : Nat),
      let u := s.at_ t
      (u.lane n).sup.svccOn = true →
      (u.lane n).sup.svccFault = false →
      mv < 4500 →
      ms 1 ≤ held →
      exec (.svccFault t n mv held) s = .next (((u.onLane n (fun l => { l with
        sup := { l.sup with svcc := mv, svccFault := true, svccFold := true, svccRetry := t }
        quad := { l.quad with valid := false, faultAt := t } })).log n 0x0410 (laneAddr n)).reslot n)) ∧
    (∀ (mv held : Nat),
      let u := s.at_ t
      (u.lane n).sup.svccOn = true →
      (u.lane n).sup.svccFault = true →
      4750 < mv →
      ms 1 ≤ held →
      exec (.svccRecover t n mv held) s = .next ((u.onLane n (fun l => { l with
        sup := { l.sup with svcc := mv, svccFault := false, svccFold := false }
        sentA := l.sentA.restart (t - held)
        sentB := l.sentB.restart (t - held)
        quad := { l.quad with faultAt := t } })).reslot n)) ∧
    (
      let u := s.at_ t
      (u.lane n).sup.svccOn = true →
      (u.lane n).sup.svccFault = true →
      (u.lane n).sup.svccRetry + ms 100 ≤ t →
      exec (.svccRetry t n) s = .next (u.onSup n (fun p => { p with svccRetry := t, svccFold := false })))

/-- One changed line moves the counter by one in its direction; both at once is an illegal transition, which is not counted; illegal transitions or more than 1,000 edges in 100 us clear position-valid, which a fault-free QUAD.RECOVER restores from the peers; a stable level becomes the filtered state; chatter and a stuck input set the input aside and are logged; a crossing fires an armed slot, and arms a slot that was armed behind in either direction.
(R221, R222, R224, R226, R227, R228, R231, R232) -/
def Obligations.QuadSwitchAndCompareEventsComplete : Prop :=
  ∀ (s : State) (t : Nat) (n : Lane),
    (∀ (a b : Bool) (stable : Nat),
      let u := s.at_ t
      (u.lane n).rst.inReset = false →
      (u.lane n).codeN Key.quadFilterN ≤ stable →
      (u.lane n).quad.a ≠ a →
      (u.lane n).quad.b ≠ b →
      exec (.quadEdge t n ⟨a, b⟩ stable) s = .next (u.onLane n (fun l => { l with quad := { (u.lane n).quad with
        a := a, b := b, qerr := satInc (u.lane n).quad.qerr, faultAt := t,
        illegal := t :: (u.lane n).quad.illegal.filter (fun i => decide (t < i + (u.lane n).codeN Key.quadIllegalWindow * 100000)) } }))) ∧
    (∀ (a b : Bool) (stable : Nat),
      let u := s.at_ t
      stable < (u.lane n).codeN Key.quadFilterN →
      exec (.quadEdge t n ⟨a, b⟩ stable) s = .next (u)) ∧
    (∀ (a b : Bool) (stable : Nat),
      let u := s.at_ t
      (u.lane n).rst.inReset = false →
      (u.lane n).codeN Key.quadFilterN ≤ stable →
      (((u.lane n).quad.a ≠ a ∧ (u.lane n).quad.b = b) ∨ ((u.lane n).quad.a = a ∧ (u.lane n).quad.b ≠ b)) →
      let up := (quadPhase a b + 4 - quadPhase (u.lane n).quad.a (u.lane n).quad.b) % 4 == 1
      let pos := if (u.lane n).code Key.quadDirection = 1 then !up else up
      exec (.quadEdge t n ⟨a, b⟩ stable) s = .next (u.onLane n (fun l => l.countEdge (u.stamp n) { (u.lane n).quad with
        a := a, b := b, raw := if pos = true then (u.lane n).quad.raw + 1 else (u.lane n).quad.raw - 1,
        edges := t :: (u.lane n).quad.edges.filter (fun i => decide (t < i + us 100)) }))) ∧
    (
      let u := s.at_ t
      (u.lane n).codeN Key.quadIllegalLimit ≤ ((u.lane n).quad.illegal.filter (fun i => decide (t < i + (u.lane n).codeN Key.quadIllegalWindow * 100000))).length →
      exec (.quadInvalid t n) s = .next ((((u.onLane n (fun l => { l with quad := { l.quad with valid := false } })).log n 0x0403 (portAddr n 2)).reslot n).quadLost n)) ∧
    (
      let u := s.at_ t
      1000 < ((u.lane n).quad.edges.filter (fun i => decide (t < i + us 100))).length →
      exec (.quadOverrate t n) s = .next ((((u.onLane n (fun l => { l with quad := { l.quad with valid := false, overRate := true, faultAt := t } })).log n 0x0411 (portAddr n 2)).reslot n).quadLost n)) ∧
    (∀ (p : Rat),
      let u := s.at_ t
      (u.lane n).quad.valid = false →
      (u.lane n).sup.svccFault = false →
      (u.lane n).rst.inReset = false →
      (u.lane n).quad.faultAt + ms ((u.lane n).codeN Key.quadRecover) ≤ t →
      combine ((u.peerTravel n).map (·.2)) = some p →
      exec (.quadRecover t n) s = .next ((u.onLane n (fun l => { l with quad := { l.quad with
        offset := l.quad.ext - p.floor, valid := true, refd := true, overRate := false } })).reslot n)) ∧
    (∀ (k : SwPort) (high : Bool) (held : Nat),
      let u := s.at_ t
      (u.lane n).fitted k = true →
      (u.lane n).rst.inReset = false →
      ((u.lane n).sw k).chatter = false →
      (u.lane n).swFilter k ≤ held →
      let w := u.onLane n (·.onSw k (fun x => if x.level = high then x else x.noteChanges [t - held]))
      exec (.switchChange t n k high held) s = .next (w.onLane n (·.onSw k (·.takeState ((u.lane n).swActive k high) t)))) ∧
    (∀ (k : SwPort) (ats : List Nat),
      let u := s.at_ t
      (u.lane n).fitted k = true →
      (u.lane n).rst.inReset = false →
      let w := u.onLane n (·.onSw k (·.noteChanges (ats.filter (fun a => decide (a ≤ t)))))
      ((w.lane n).sw k).chatter = false →
      (w.lane n).codeN Key.swChatterK < ((w.lane n).sw k).inWindow t (ms ((w.lane n).codeN Key.swChatterW)) →
      exec (.chatter t n k ats) s = .next (((w.onLane n (·.onSw k (fun x => { x with chatter := true }))).log n 0x0404 (portAddr n k.num)))) ∧
    (∀ (k : SwPort) (high : Bool) (held : Nat),
      let u := s.at_ t
      (u.lane n).fitted k = true →
      ((u.lane n).sw k).chatter = true →
      ms ((u.lane n).codeN Key.swChatterW) ≤ held →
      ((u.lane n).sw k).inWindow t (ms ((u.lane n).codeN Key.swChatterW)) = 0 →
      exec (.chatterEnd t n k high held) s = .next (u.onLane n (·.onSw k (fun x => { x.takeState ((u.lane n).swActive k high) t with chatter := false, level := high })))) ∧
    (∀ (k : SwPort),
      let u := s.at_ t
      (u.lane n).fitted k = true →
      ((u.lane n).sw k).state = true →
      ((u.lane n).sw k).chatter = false →
      ((u.lane n).sw k).stuck = false →
      ((u.lane n).swStuck k ≠ 0 ∧ ((u.lane n).sw k).since + (u.lane n).swStuck k < t) ∨ (k = .sw1 ∧ u.farFromEnds n = true) →
      exec (.stuck t n k) s = .next ((u.onLane n (·.onSw k (fun x => { x with stuck := true }))).log n 0x0405 (portAddr n k.num))) ∧
    (∀ (k : BitVec 2) (st : Dword) (v : Int),
      let u := s.at_ t
      (u.lane n).state = .active →
      ((u.lane n).slot k).state = 1 →
      ((u.lane n).slot k).hit = some (st, v) →
      exec (.compareFire t n k st v) s = .next (u.onLane n (·.onSlot k (fun c => c.fire st v false)))) ∧
    (∀ (k : BitVec 2) (st : Dword) (v : Int),
      let u := s.at_ t
      ((u.lane n).slot k).hit = none →
      exec (.compareFire t n k st v) s = .next (u))

/-- A checked twin frame of the other position clears the loss count of its link; the first copy of a step is used, a second one is not; the own position is logged as a loopback; a link without a checked frame for TWIN.LOSS_STEPS steps is down, and with both links down the twin is lost.
(R32, R74, R75, R78) -/
def Obligations.TwinEventsComplete : Prop :=
  ∀ (s : State) (t : Nat) (k : TwinLink) (ws : List XWord) (ds : List Dword) (fixed : Nat),
    (
      let u := s.at_ t
      u.twinPos ≠ 0 →
      u.twinServed k = true →
      ws.length = 7 →
      checkWords twinId 0 ws = some (ds, fixed) →
      fld (ds.getD 0 0) 60 4 = 1 →
      fld (ds.getD 0 0) 58 2 ≠ u.twinPos →
      (fld (ds.getD 0 0) 58 2 = 1 ∨ fld (ds.getD 0 0) 58 2 = 2) →
      let idx : Half := BitVec.ofNat 16 (fld (ds.getD 0 0) 0 16)
      u.twin.used.contains idx = false →
      let v := { u with twin := (u.twin.onLink k (fun x => { x with last := ds, stepIdx := some idx, lost := 0, down := false })) }
      exec (.twinFrame t k ws) s = .next (State.useTwin { v with twin := { v.twin with used := (idx :: u.twin.used).take 16 } } ds)) ∧
    (
      let u := s.at_ t
      u.twinPos ≠ 0 →
      u.twinServed k = true →
      ws.length = 7 →
      checkWords twinId 0 ws = some (ds, fixed) →
      fld (ds.getD 0 0) 60 4 = 1 →
      fld (ds.getD 0 0) 58 2 ≠ u.twinPos →
      (fld (ds.getD 0 0) 58 2 = 1 ∨ fld (ds.getD 0 0) 58 2 = 2) →
      let idx : Half := BitVec.ofNat 16 (fld (ds.getD 0 0) 0 16)
      u.twin.used.contains idx = true →
      exec (.twinFrame t k ws) s = .next ({ u with twin := (u.twin.onLink k (fun x => { x with last := ds, stepIdx := some idx, lost := 0, down := false })) })) ∧
    (
      let u := s.at_ t
      u.twinPos ≠ 0 →
      u.twinServed k = true →
      ws.length = 7 →
      checkWords twinId 0 ws = some (ds, fixed) →
      fld (ds.getD 0 0) 60 4 = 1 →
      fld (ds.getD 0 0) 58 2 = u.twinPos →
      exec (.twinFrame t k ws) s = .next (u.logModule (twinLane k) 0x0604 (BitVec.ofNat 32 u.twinPos))) ∧
    (
      let u := s.at_ t
      u.twinPos ≠ 0 →
      (u.twin.link k).down = false →
      (u.lane u.scribe).codeN Key.twinLossSteps ≤ (u.twin.link k).lost →
      let v := State.logModule { u with twin := u.twin.onLink k (fun x => { x with down := true }) } (twinLane k) 0x0602 (BitVec.ofNat 32 (twinNum k))
      exec (.twinLinkDown t k) s = .next (if (v.twin.k1.down && v.twin.k2.down && !v.twin.lost) = true then v.loseTwin else v))

/-- At a detected end stop the measured position becomes that end and a stop follows; an opposite indication aborts with reason 2; a retract that has not released the caliper aborts with reason 4, otherwise the slow close begins; the counts of kiss point and stiffness point are taken at their forces and stored; the last move stores the records, identities and stamp; the time-out aborts with reason 1.
(R224, R251, R252, R253, R254, R256, R257, R382) -/
def Obligations.HomingEventsComplete : Prop :=
  ∀ (s : State) (t : Nat),
    (
      let u := s.at_ t
      u.hom.running = some Axis.s →
      (u.hom.steer = 1 ∨ u.hom.steer = 2) →
      u.m.runEntry = 0 →
      (u.lane u.scribe).prof.steer.kind = 1 →
      ((∃ a, u.hom.pushSince = some a ∧ a + ms ((u.lane u.scribe).codeN Key.homeSRiseTime) ≤ t) ∨
        (u.endStop u.scribe = true ∧ u.endStopPos u.scribe = (u.hom.steer == 2) ∧ u.sw1Lanes u.scribe ≠ [])) →
      let w := u.onEngines State.effSteerStop
      exec (.homingEndDetected t) s = .next ({ w with hom := { w.hom with
        eNeg := if u.hom.steer = 1 then roundAway (u.measured u.scribe .s) else w.hom.eNeg
        ePos := if u.hom.steer = 2 then roundAway (u.measured u.scribe .s) else w.hom.ePos
        steer := u.hom.steer + 1, pushSince := none } })) ∧
    (
      let u := s.at_ t
      u.hom.running = some Axis.s →
      (u.hom.steer = 1 ∨ u.hom.steer = 2) →
      u.m.runEntry = 0 →
      (u.lane u.scribe).prof.steer.kind = 1 →
      u.oppositeStop u.hom.steer = true →
      (u.hom.wasOn = false ∨ pctUnits ((u.lane u.scribe).val Key.homeSSwitchClear) < absQ (u.measured u.scribe .s - (u.hom.from_ : Rat))) →
      exec (.homingSwitchUnexpected t) s = .next ((u.logLeader 0x0408 (portAddr (((u.sw1Lanes u.scribe).find? (fun m => (u.lane m).sw1.state)).getD u.scribe) 3)).abortHoming 2)) ∧
    (
      let u := s.at_ t
      u.hom.running = some Axis.b →
      u.hom.brake = 1 →
      u.m.runEntry = 0 →
      (u.lane u.scribe).val Key.homeBRetract ≤ ((u.hom.from_ - u.homeCount : Int) : Rat) →
      forceUnits ((u.lane u.scribe).val Key.homeBKissForce) ≤ u.measured u.scribe .b →
      exec (.brakeRetractDone t) s = .next (u.abortHoming 4)) ∧
    (
      let u := s.at_ t
      u.hom.running = some Axis.b →
      u.hom.brake = 1 →
      u.m.runEntry = 0 →
      (u.lane u.scribe).val Key.homeBRetract ≤ ((u.hom.from_ - u.homeCount : Int) : Rat) →
      u.measured u.scribe .b < forceUnits ((u.lane u.scribe).val Key.homeBKissForce) →
      let w := u.onEngines State.effHomeClose
      exec (.brakeRetractDone t) s = .next ({ w with hom := { w.hom with brake := 2, from_ := w.homeCount } })) ∧
    (
      let u := s.at_ t
      u.hom.running = some Axis.b →
      u.hom.brake = 2 →
      forceUnits ((u.lane u.scribe).val Key.homeBKissForce) ≤ u.measured u.scribe .b →
      exec (.brakeKissPoint t) s = .next ({ u with hom := { u.hom with brake := 3, pk := u.homeCount } })) ∧
    (
      let u := s.at_ t
      u.hom.running = some Axis.b →
      u.hom.brake = 3 →
      forceUnits ((u.lane u.scribe).val Key.homeBStiffForce) ≤ u.measured u.scribe .b →
      u.hom.pk < u.homeCount →
      exec (.brakeStiffnessPoint t) s = .next (u.storeKiss u.scribe u.homeCount)) ∧
    (
      let u := s.at_ t
      u.hom.running = some Axis.s →
      u.hom.steer = 4 →
      (u.lane u.scribe).prof.steer.resting = true →
      let w := (u.storeSteer.keepIdentities .s).logLeader 0x0B09 (BitVec.ofNat 32 Axis.s.num)
      let v : State := { w with hom := { w.hom with axS := false, steer := 6 } }
      exec (.homingDone t .s) s = .next (if v.hom.axB = true then v.launchHoming else v.endHoming)) ∧
    (
      let u := s.at_ t
      u.hom.running = some Axis.b →
      u.hom.brake = 5 →
      (u.lane u.scribe).prof.brake.resting = true →
      let w := (u.keepIdentities .b).logLeader 0x0B09 (BitVec.ofNat 32 Axis.b.num)
      let v : State := { w with hom := { w.hom with axB := false, brake := 6, kept := [] } }
      exec (.homingDone t .b) s = .next (if v.hom.axB = true then v.launchHoming else v.endHoming)) ∧
    (
      let u := s.at_ t
      (u.hom.axS = true ∨ u.hom.axB = true) →
      u.hom.at_ + 1000000000 * (u.lane u.scribe).codeN Key.homeTimeout ≤ t →
      exec (.homingTimeout t) s = .next (u.abortHoming 1))

/-- A PWM period of a running lane ends with the counts and update point of both sets, the consensus, the background vectors, the carrier and the frames of the next period; a switching set runs its field engine, a floating one its observer; an auxiliary conversion takes terminals, link, supply and one temperature of each converter; an 8 kHz step of a running lane advances the step index and goes through setpoints, shares and torque; window limits, sense mismatches, the carrier flag and the I2t limits follow their counts.
(R149, R151, R152, R157, R168, R176, R190, R195, R243) -/
def Obligations.PeriodAndStepEventsComplete : Prop :=
  ∀ (s : State) (t : Nat) (n : Lane),
    (∀ (m : PeriodSample),
      let u := s.at_ t
      (u.lane n).rst.inReset = false →
      (u.lane n).state ≠ .off →
      let len := 8 * (u.lane n).relayWords - 4
      let w := u.onLane n (fun l => { l with lo := l.lo.period (!l.mapBit 4) len, hi := l.hi.period (!l.mapBit 5) len })
      let y := w.onLane n (fun l =>
        let l := m.edges.foldl LaneSt.servoEdge l
        { l with
          s := (l.periodCounts .s (l.offsetSample m.offS l.s)).updatePoint w.now
          b := (l.periodCounts .b (l.offsetSample m.offB l.b)).updatePoint w.now })
      let x := (y.formConsensus n .s).formConsensus n .b
      let v := if (x.lane n).state = .rejoining ∧ (x.lane n).rejoin.step = 4 then (x.countNear n .s).countNear n .b else x
      exec (.pwmPeriod t n m) s = .next (((((((((((v.runVectors n m.vecS m.vecB).armQuench n).alignCarrier n m.carrier).startRejoined n).resumeSets n).reformStale n).countTime n).sendReports n).sendFrames n)))) ∧
    (∀ (m : PeriodSample),
      let u := s.at_ t
      (u.lane n).rst.inReset = false →
      (u.lane n).state = .off →
      (u.lane n).rst.bootFailed ≠ none →
      let len := 8 * (u.lane n).relayWords - 4
      exec (.pwmPeriod t n m) s = .next ((((u.onLane n (fun l => { l with lo := l.lo.period (!l.mapBit 4) len, hi := l.hi.period (!l.mapBit 5) len })).sendReports n).sendFrames n))) ∧
    (∀ (x : Axis) (m : CurrentSample),
      let u := s.at_ t
      (u.lane n).rst.inReset = false →
      (m.down = true ∨ (u.lane n).double = true) →
      ((u.lane n).set x).short = false →
      ((u.lane n).set x).switching = true →
      exec (.currentLoopUpdate t n x m) s = .next (u.fieldUpdate n x m)) ∧
    (∀ (x : Axis) (m : CurrentSample),
      let u := s.at_ t
      (u.lane n).rst.inReset = false →
      (m.down = true ∨ (u.lane n).double = true) →
      ((u.lane n).set x).short = false →
      ((u.lane n).set x).switching = false →
      exec (.currentLoopUpdate t n x m) s = .next (u.onSet n x (fun c => { c with obs := u.observeFloating n x c.obs }))) ∧
    (∀ (m : AuxSample),
      let u := s.at_ t
      (u.lane n).rst.inReset = false →
      let w := u.onLane n (fun l =>
        ({ l with s := l.s.terms m.su m.sv m.sw t, b := l.b.terms m.bu m.bv m.bw t
                  sup := l.sup.convert (m.vsup.toNat * 20) (m.link.toNat * 20) }).takeTemps (tempOf m.tempA) (tempOf m.tempB))
      let y := (w.checkRefs n m.refA m.refB).reviewTemp n
      let z := if (y.meas.onAxis .s && (y.lane n).s.lastMove == t) = true then y.endLoad else y
      exec (.auxConversion t n m) s = .next (if (z.meas.onAxis .b && (z.lane n).b.lastMove == t) = true then z.endLoad else z)) ∧
    (
      let u := s.at_ t
      (u.lane n).rst.inReset = false →
      (u.lane n).state ≠ .off →
      (u.lane n).state ≠ .starting →
      let e := u.onLane n (fun l => { l with quad := l.quad.extend })
      let w := e.onProf n (fun p => { p with step := p.step + 1, stepT := some (e.global n) })
      let v := (w.stepSetpoints n).integrateAngle n
      let a := if (v.lane n).state = .active then ((v.agreeSent n .a true).agreeSent n .b true).agreeQuad n else v
      let r := (((a.dropTravel n).locMove n).stepShares n).stepTorque n
      let y := (r.1.compareStep n).latchT n
      exec (.outerLoopStep t n) s = .next (if (y.lane n).role = .leader then y.leaderStep n r.2.1 r.2.2 else y)) ∧
    (∀ (x : Axis),
      let u := s.at_ t
      ((u.lane n).set x).limited = false →
      (u.lane n).codeN Key.csMissLimit ≤ ((u.lane n).set x).miss →
      exec (.windowLimited t n x) s = .next (u.onSet n x (fun c => { c with limited := true, cWin := satInc c.cWin }))) ∧
    (∀ (x : Axis),
      let u := s.at_ t
      ((u.lane n).set x).limited = true →
      (u.lane n).codeN Key.csMissLimit ≤ ((u.lane n).set x).clean →
      exec (.windowLimitedClear t n x) s = .next (u.onSet n x (fun c => { c with limited := false }))) ∧
    (∀ (x : Axis),
      let u := s.at_ t
      (u.lane n).rst.inReset = false →
      let k := (u.lane n).mismatchKind ((u.lane n).set x)
      let p := ((u.lane n).set x).mismatchPhase k
      k ≠ 0 →
      (u.lane n).mapBit x.mapBit = false →
      let w := u.log n 0x0302 (setAddr n x) (BitVec.ofNat 64 (k * 2 ^ 56 + ((p.map (legAddr n x)).getD (setAddr n x)).toNat * 2 ^ 48))
      exec (.senseMismatch t n x p) s = .next ((((w.onSet n x (fun c => { c.floatLegs with xc1 := 0, xc2 := 0, xc4 := 0, offBad := 0 })).markBit n x.mapBit).lostSet n).checkLimp)) ∧
    (
      let u := s.at_ t
      16 ≤ (u.lane n).ctr.carrierRun →
      exec (.carrierUnlock t n) s = .next (u.onCtr n (fun c => { c with carrier := true }))) ∧
    (∀ (m : Lane) (x : Axis),
      let u := s.at_ t
      (u.lane n).rst.inReset = false →
      ((u.lane n).term m x).heatLow = false →
      (u.lane n).eMax x ≤ ((u.lane n).term m x).heat →
      exec (.i2tLimit t n ⟨m, x⟩) s = .next (u.onTerm n m x (fun c => { c with heatLow := true, heatAt := t }))) ∧
    (∀ (m : Lane) (x : Axis),
      let u := s.at_ t
      (u.lane n).rst.inReset = false →
      ((u.lane n).term m x).heatLow = true →
      ((u.lane n).term m x).heat < (u.lane n).eMax x / 2 →
      exec (.i2tRecover t n ⟨m, x⟩) s = .next (u.onTerm n m x (fun c => { c with heatLow := false, heatAt := t })))

/-- The start of the sets, the entry into Run or Limp, the holds, the catch-spin of a lane, the end of angle acquisition, polarity detection and its comparison, a lost consensus, a suspect lane, an outlier, and injection and flux faults have their effects once their conditions hold.
(R125, R179, R180, R181, R197, R198, R199, R200, R204, R205, R207, R208) -/
def Obligations.EnergisingAndObserverEventsComplete : Prop :=
  ∀ (s : State) (t : Nat) (n : Lane),
    (
      let u := s.at_ t
      u.m.runEntry = 3 →
      u.m.stepAt < t →
      let a := u.actives.foldl (fun (x : State) m => x.onLane m (fun l =>
        { l with ena := { l.ena with withdrawn := !(l.ena.test == 2 && l.ena.filt) }, sup := { l.sup with resumed := l.sup.level != 6 } })) u
      let b := (a.onM (fun m => { m with noConS := false, noConB := false })).reformAll
      let d := b.entryAxes.foldl State.startAxis b
      let e := if d.m.mode = .service ∧ d.meas.loadOn = false then d else (d.onEngines (State.effHere .s)).onEngines (State.effHere .b)
      let z := e.onLanes (fun _ l => { l with prof := { l.prof with intS := 0, intB := 0, regS := false, regB := false } })
      exec (.setsStartSwitching t) s = .next ((z.onM (fun m => { m with runEntry := 4, stepAt := t })).reformAll)) ∧
    (
      let u := s.at_ t
      u.m.runEntry = 5 →
      u.hom.inReady = false →
      u.m.mode = .ready →
      u.meas.loadOn = false →
      let w := u.onM (fun m => { m with runEntry := 0, diag := [], freshAt := t, missed := 0 })
      exec (.runEntryComplete t) s = .next (if w.limpDue w.scribe = true then w.enterLimp w.scribe else w.enterRun)) ∧
    (
      let u := s.at_ t
      u.m.runEntry = 5 →
      u.hom.inReady = true →
      exec (.runEntryComplete t) s = .next ((u.onM (fun m => { m with runEntry := 0, diag := [], freshAt := t, missed := 0 })).launchHoming)) ∧
    (
      let u := s.at_ t
      (u.m.mode = .run ∨ u.m.mode = .limp) →
      u.hold.sOn = false →
      u.holdDue u.hold.sSince = true →
      let w := u.takeEffect .holdStart
      let q := roundAway ((w.lane w.scribe).val Key.holdFraction / 100 * max ((w.lane w.scribe).prof.tS.natAbs : Rat) ((w.lane w.scribe).axisPeak .s / 20))
      exec (.steerHoldStart t) s = .next ({ w with hold := { w.hold with sOn := true, sAt := t, sFrom := w.tMax w.scribe .s, sClamp := q } })) ∧
    (
      let u := s.at_ t
      (u.m.mode = .run ∨ u.m.mode = .limp) →
      (u.hold.bOn = false ∨ u.hold.bAgain = true) →
      u.holdDue u.hold.bSince = true →
      let w := u.takeEffect .holdStart
      let q : Int := ((w.lane w.scribe).prof.tB.natAbs : Int)
      let h := { w.hold with bOn := true, bDone := false, bAgain := false, bStart := q, bClamp := q, bAt := t, bTarget := (w.lane w.scribe).prof.brake.pos }
      exec (.brakeHoldStart t) s = .next ({ w with hold := h.lower ((w.lane w.scribe).val Key.holdBStep) ((w.lane w.scribe).val Key.holdBFloor) t })) ∧
    (
      let u := s.at_ t
      u.hold.bOn = true →
      u.hold.bDone = false →
      u.hold.bAt + ms ((u.lane u.scribe).codeN Key.holdBDwell) ≤ t →
      exec (.brakeHoldDwell t) s = .next ({ u with hold := u.hold.lower ((u.lane u.scribe).val Key.holdBStep) ((u.lane u.scribe).val Key.holdBFloor) t })) ∧
    (∀ (m : CatchPair),
      let u := s.at_ t
      u.catchDue n = some 1 →
      (u.lane n).catchWaits m.s = false →
      (u.lane n).catchWaits m.b = false →
      let a := u.catchSet n .s m.s
      let b := a.1.catchSet n .b m.b
      a.2 = false →
      b.2 = false →
      exec (.catchSpinEnd t n m) s = .next (b.1.endCatchStep n)) ∧
    (∀ (m : CatchPair),
      let u := s.at_ t
      u.catchDue n = some 1 →
      (u.lane n).catchWaits m.s = false →
      (u.lane n).catchWaits m.b = false →
      let a := u.catchSet n .s m.s
      let b := a.1.catchSet n .b m.b
      (a.2 = true ∨ b.2 = true) →
      exec (.catchSpinEnd t n m) s = .next (b.1.failRejoin n 0x0704 3)) ∧
    (∀ (m : CatchPair) (k : Nat),
      let u := s.at_ t
      u.catchDue n = some k →
      k ≠ 1 →
      (u.lane n).catchWaits m.s = false →
      (u.lane n).catchWaits m.b = false →
      let a := u.catchSet n .s m.s
      let b := a.1.catchSet n .b m.b
      a.2 = false →
      b.2 = false →
      let w := b.1
      exec (.catchSpinEnd t n m) s = .next (if ((w.meas.onAxis .s && catchTurning m.s) || (w.meas.onAxis .b && catchTurning m.b)) = true then w.endLoad else w)) ∧
    (∀ (x : Axis),
      let u := s.at_ t
      u.m.acq.contains x = true →
      u.m.acqEnd.contains x = false →
      (u.m.runEntry = 4 ∨ u.m.runEntry = 0) →
      u.m.acqAt + ms ((u.lane u.scribe).codeN Key.obsAcqTime) ≤ t →
      let es := (u.acquirers x).map (fun n => (n, ((u.lane n).set x).obs.theta, (0 : Int)))
      let w := es.foldl (fun (v : State) e =>
        let out := decide (2 * (v.lane e.1).conLimit < (deviation (e.2.1 + e.2.1) (median180 es) : Rat))
        let v := v.onSet e.1 x (fun c => { c with obs := { c.obs with stage := if out then 3 else 1, latched := c.obs.latched || out } })
        if out then v.log e.1 0x040C (setAddr e.1 x) else v) u
      exec (.angleAcquisitionEnd t x) s = .next (w.onM (fun m => { m with acqEnd := x :: m.acqEnd }))) ∧
    (∀ (ms mb : List PulsePair),
      let u := s.at_ t
      u.m.acq.all (fun x => u.m.acqEnd.contains x) = true →
      allLanes.find? u.awaitsPolarity = some n →
      exec (.polarityDetection t n ms mb) s = .next ((u.detectPolarity n .s ms).detectPolarity n .b mb)) ∧
    (∀ (x : Axis) (a b c : Lane × Half),
      let u := s.at_ t
      u.m.acqEnd.contains x = true →
      u.m.polDone.contains x = false →
      (u.acquirers x).any (fun n => decide (((u.lane n).set x).obs.stage = 1)) = false →
      u.decidedSets x = [a, b, c] →
      exec (.polarityCompare t x) s = .next ((if (opposed a.2 b.2 && opposed a.2 c.2) = true then u.flipSet a.1 x
        else if (opposed b.2 a.2 && opposed b.2 c.2) = true then u.flipSet b.1 x
        else if (opposed c.2 a.2 && opposed c.2 b.2) = true then u.flipSet c.1 x else u).endAcquisition x)) ∧
    (∀ (x : Axis),
      let u := s.at_ t
      (u.m.mode = .run ∨ u.m.mode = .limp) →
      u.m.noCon x = false →
      ((u.lane u.scribe).con x).count = 0 →
      ((u.lane u.scribe).con x).seen + ms ((u.lane u.scribe).codeN Key.obsHoldover) ≤ t →
      u.m.acq.contains x = false →
      let v := (u.onM (fun m => { m with noConS := m.noConS || x == Axis.s, noConB := m.noConB || x == Axis.b })).logLeader 0x0905 (BitVec.ofNat 32 x.num)
      exec (.consensusLost t x) s = .next ((if (v.emfWeight u.scribe x) = 0 then v.startAcquisition x true else v).checkLimp)) ∧
    (∀ (x : Axis) (k : Lane × Half × Half),
      let u := s.at_ t
      ((u.lane n).con x).counted.find? (fun k => k.1 == n) = some k →
      (u.lane n).state = .active →
      ((u.lane n).set x).obs.suspect = false →
      exec (.angleSuspect t n x) s = .next (allLanes.foldl (fun (w : State) v => if v ≠ n ∧ ((w.lane v).con x).counted.any (fun k => k.1 == n) = true then w.cast v n 3 else w)
        ((u.onSet n x (fun c => { c with obs := { c.obs with suspect := true } })).log n 0x040D (setAddr n x)
          (BitVec.ofNat 64 (k.2.1.toNat * 2 ^ 48 + k.2.2.toNat * 2 ^ 32))))) ∧
    (∀ (x : Axis),
      let u := s.at_ t
      exec (.angleOutlier t n x) s = .next (allLanes.foldl (fun (w : State) v => if v ≠ n ∧ ((w.lane v).con x).outlier = some n then w.cast v n 3 else w) u)) ∧
    (∀ (x : Axis),
      let u := s.at_ t
      ((u.lane n).set x).switching = true →
      4 ≤ ((u.lane n).set x).obs.injRun →
      ((u.lane n).set x).obs.injFault = false →
      exec (.obsInjFault t n x) s = .next ((u.onSet n x (fun c => { c with obs := { c.obs with injFault := true } })).log n 0x040A (setAddr n x))) ∧
    (∀ (x : Axis),
      let u := s.at_ t
      16 ≤ ((u.lane n).set x).obs.psiRun →
      ((u.lane n).set x).obs.psiBad = false →
      exec (.obsPsiMismatch t n x) s = .next ((u.onSet n x (fun c => { c with obs := { c.obs with psiBad := true } })).log n 0x040B (setAddr n x)))

/-- With a command c at the front of the queue and q behind it, a step is exec of c in the state whose queue is q; with an empty queue a step leaves the state as it is (the model's own form of a block that takes commands: log entry 1).
(R20, R21) -/
def Obligations.StepRunsTheFrontCommand : Prop :=
  ∀ (s : State) (c : Instr) (q : List Instr),
    step { s with pending := c :: q } = exec c { s with pending := q } ∧
    (s.pending = [] → step s = .next s)

/-- Whatever the state, exec of any command answers a next state; the queue of waiting commands is as it was, and the time is the later of the present time and the command's own instant. No command of the table ends a run (the clock and the queue are the model's own fields: log entry 1).
(R335, R413) -/
def Obligations.EveryCommandAnswersANextState : Prop :=
  ∀ (i : Instr) (s : State), ∃ t, exec i s = .next t ∧ t.pending = s.pending ∧ t.now = max s.now i.instant

/-- In the state after reset every lane's memory is in canonical form with nothing listed, its fault log lies within its ring of 4,096 entries and its reply queue within its 32 places.
(R97, R338, R414) -/
def Obligations.ResetIsSound : Prop :=
  State.reset.Inv

/-- From every state in which each lane's memory is in canonical form, its fault log holds at most 4,096 entries (R97) and its reply queue at most 32 replies (R338), a step answers a next state, and that state is such a state again: no command, whatever its operands, breaks the form of a memory or overfills a log or a queue.
(R97, R338) -/
def Obligations.EveryStepKeepsTheInvariant : Prop :=
  ∀ s : State, s.Inv → ∃ t, step s = .next t ∧ t.Inv

/-- Across every step from every state, each lane keeps its serial number, every owner hash once written, the retired mark of its owner key once set, and every anti-rollback step already raised: the rollback record only grows at its end.
(R429, R430, R436, R437, R449, R451) -/
def Obligations.NothingOneWayIsTakenBack : Prop :=
  ∀ s t : State, step s = .next t → s.OneWay t

/-- Every command other than the two resets that are a power cycle (a supply below 4.0 V, and the restart of a supply), SUPPLY_RESTART, CALDERA_CLEAR, and the two commands that carry requests (an application cycle and a segment of the host port) leaves the Caldera of every lane set where it was set.
(R50, R402, R413) -/
def Obligations.CalderaClearsOnlyWhereTheManualSays : Prop :=
  ∀ (i : Instr) (s t : State) (n : Lane), i.mayClear = false → exec i s = .next t →
    (s.lane n).vote.caldera = true → (t.lane n).vote.caldera = true

/-- The frame of memory: every command other than FW_CHUNK, SCHEDULE_LOAD, an application cycle, a host-port segment, a firmware copy item and an Almanac segment item leaves every byte of every lane's memory as it read before, except that a byte of SRAM or field-engine RAM may read as an unlisted address does once its lane has been reset (that memory is not kept; what it then reads as is the model's choice: log entry 4).
(R25, R30, R295, R366, R414, R440) -/
def Obligations.MemoryChangesOnlyWhereTheManualSays : Prop :=
  ∀ (i : Instr) (s t : State) (n : Lane), i.mayWrite = false → exec i s = .next t → (s.lane n).memKept (t.lane n)

/-- In a lane that is not in reset, a scrub of a mapped double-word of MRAM, SRAM or field-engine RAM, whose stored data and check bits have had some bits flipped so that the error is correctable, answers a state in which that double-word stands stored as the corrected data with the check bits its columns and its address give, every other double-word stands stored as before, every byte reads as before, and the other lanes, the mode, the role and the state stay. Which flips are correctable the code of R26 decides: one flipped data bit always is, and the data comes back as stored; two flipped data bits never are. (The order of the columns within R26's matrix is the model's free value: log entry 9.)
(R25, R26, R27, R30) -/
def Obligations.ScrubWritesOneDoubleWord : Prop :=
  (∀ (s : State) (t : Nat) (n : Lane) (b : Word) (dx : Dword) (cx : Byte) (d : Dword),
    let at_ := b.toNat / 8 * 8
    let w := (s.lane n).held n at_
    (s.lane n).rst.inReset = false → mapped at_ = true → (memoryOf at_).1 < 3 →
    XWord.decode { data := w.data ^^^ dx, check := w.check ^^^ cx } (foldMemory at_) = some (d, true) →
    ∃ t', exec (.memoryScrub t n b ⟨false, dx, cx⟩) s = .next t' ∧
      (t'.lane n).held n at_ = XWord.encode d (foldMemory at_) ∧
      (∀ x, x ≠ at_ → (t'.lane n).held n x = (s.lane n).held n x) ∧
      (∀ x, (t'.lane n).byteAt n x = (s.lane n).byteAt n x) ∧
      (∀ m, m ≠ n → t'.lane m = s.lane m) ∧
      (t'.lane n).state = (s.lane n).state ∧ (t'.lane n).role = (s.lane n).role ∧ t'.m = s.m) ∧
  (∀ (d : Dword) (a j k : Nat), j < 64 → k < 64 → j ≠ k →
    XWord.decode { data := flipBit d k, check := checkBits d a } a = some (d, true) ∧
    XWord.decode { data := flipBit (flipBit d j) k, check := checkBits d a } a = none)

/-- In a sound state, an FW_CHUNK that passes every check and continues the transfer answers a state in which, in every Active lane that holds the transfer, the bytes of the segment stand from the transfer's base plus the offset on and every other byte reads as it did once the other lanes had taken their part; every other lane keeps all of its memory.
(R366, R367) -/
def Obligations.FirmwareSegmentIsStoredAtItsOffset : Prop :=
  ∀ (s : State) (n : Lane) (r : Req) (x y : Xfer),
    s.Inv → s.Takes n 0x0902 r noPart →
    let p := s.met 0x0902 r noPart
    let c := p.callAt n 0x0902 r
    let off := rd c.p 0 4
    let data := (c.p.drop 8).take (rd c.p 4 2)
    (p.lane n).sec.fw = some x → 1 ≤ rd c.p 4 2 → rd c.p 4 2 ≤ 1024 → off + rd c.p 4 2 ≤ x.total →
    segStep (some x) none off data = .go y → p.serviceStopped = false →
    ∃ t', exec (.fwChunk r) s = .next t' ∧ ∀ m a, Memory.read (t'.lane m).mem a =
      if (p.lane m).state = .active ∧ (p.lane m).sec.fwHave = true ∧ (p.lane m).sec.fwBase + off ≤ a ∧
          a < (p.lane m).sec.fwBase + off + data.length
      then data.getD (a - ((p.lane m).sec.fwBase + off)) 0 else Memory.read (p.lane m).mem a

/-- The frame of the events that act on one lane (its precharge and disconnect, its clocks, its receptions, its sensor inputs, its field engines and its bookkeeping, all those Instr.ownLane names): the next state has the other two lanes, the module's mode and timers, holds, homing, measurements, host port and twin exactly as before.
(R13, R111, R214, R221, R226, R404, R419) -/
def Obligations.LaneLocalCommandsLeaveTheRest : Prop :=
  ∀ (i : Instr) (n : Lane) (s t : State), i.ownLane = some n → exec i s = .next t →
    (∀ k, k ≠ n → t.lane k = s.lane k) ∧ t.m = s.m ∧ t.hold = s.hold ∧ t.hom = s.hom ∧ t.meas = s.meas ∧ t.host = s.host ∧
    t.twin = s.twin ∧ t.pending = s.pending

/-- For every request of the opcode table: where the answering lane finds a failing check of orders 3 to 12 of R335, the whole effect is what hearing the request does at the other lanes, the error reply with the first failing check's status and logged address and its fault-log entry, and the note of the request in the session table. No operation is carried out. (The fwReq premise excludes a restart already asked for by an earlier FW_ACTIVATE.)
(R334, R335, R336, R99) -/
def Obligations.ARefusedRequestOnlyAnswers : Prop :=
  ∀ (i : Instr) (s : State) (n : Lane) (op : Half) (r : Req) (h : Handler) (peer : PeerPart) (e : Byte × Word),
    i.asRequest = some (op, r, h, peer) → (s.at_ r.at_).answerer r = some n →
    let p := s.met op r peer
    takesIn p.m.mode op r = true → (p.lane n).check p.m.mode op r = some e → p.m.fwReq = false →
    exec i s = .next ((p.replyError n op r e.1 e.2).onLane n (fun l => l.noteRequest op r p.now))

/-- A request of a session that passes orders 3 to 7 at a lane advances that lane's sequence mark, whatever the later checks say; the same request checked again at that lane is refused with ERR_AUTH and its opcode as logged address.
(R65, R334, R335) -/
def Obligations.ASequenceIsNeverAcceptedTwice : Prop :=
  ∀ (l : LaneSt) (op : Half) (r : Req) (t : Nat), r.session ≠ 0 → l.orders3to7 op r = none →
    (l.noteRequest op r t).orders3to7 op r = some (0x15, op.setWidth 32)

/-- STEER_ANGLE that passes orders 3 to 12 with an angle outside the range the end stops leave is answered with ERR_RANGE and the opcode as logged address, and the move in progress continues; PARAM_WRITE of 1 to 32 pairs of which some pair fails is answered with the first failing pair's status and key, and no pair is written. The whole effect is the reply and the note of the request.
(R244, R335, R353, R360) -/
def Obligations.OwnTestsRefuseWithoutEffect : Prop :=
  ∀ (s : State) (n : Lane) (r : Req),
    (s.Takes n 0x0201 r (holdMotion chkSteerAngle) →
      let p := s.met 0x0201 r (holdMotion chkSteerAngle)
      let c := p.callAt n 0x0201 r
      c.kindByte = 0 → (p.lane n).steerOk (rdI c.p 0 4) = false →
      exec (.steerAngle r) s = .next ((p.replyError n 0x0201 r 0x12 0x0201).onLane n (fun l => l.noteRequest 0x0201 r p.now))) ∧
    (∀ e : Byte × Word, s.Takes n 0x0502 r noPart →
      let p := s.met 0x0502 r noPart
      let c := p.callAt n 0x0502 r
      1 ≤ rd c.p 0 1 → rd c.p 0 1 ≤ 32 → checkPairs p.m.mode c.expert [] (pairsOf c.p) = some e →
      exec (.paramWrite r) s = .next ((p.replyError n 0x0502 r e.1 e.2).onLane n (fun l => l.noteRequest 0x0502 r p.now)))

/-- For every well-formed request (at most 1,372 parameter bytes, a MAC exactly when its flag says so) and every opcode, the bytes of its packet, followed by any bytes at all, are read as that opcode and that request, with what followed left over: no field of the header, no parameter byte and no MAC bit is dropped.
(R327, R328, R329, R330, R331) -/
def Obligations.EveryPacketIsReadAsSent : Prop :=
  ∀ (op : Half) (r : Req) (rest : List Byte), r.wf = true →
    parsePacket r.at_ r.carriage (r.wire op ++ rest) = .packet op r rest

/-- For every list of well-formed requests carried together and a block that holds their packets one after another, reading the block gives exactly those opcodes and requests in that order, and nothing else.
(R330, R335, R342) -/
def Obligations.EveryPacketOfABlockIsReadInOrder : Prop :=
  ∀ (t : Nat) (c : Carriage) (qs : List (Half × Req)) (k : Nat),
    (∀ q ∈ qs, q.2.wf = true ∧ q.2.at_ = t ∧ q.2.carriage = c) → qs.length ≤ k →
    (parseBlock t c k (qs.flatMap (fun q => q.2.wire q.1))).map Parsed.request = qs.map some

/-- The CRC over the ASCII bytes "123456789" is 0xE306_9283.
(R330) -/
def Obligations.CrcCheckValue : Prop :=
  crc32c [0x31, 0x32, 0x33, 0x34, 0x35, 0x36, 0x37, 0x38, 0x39] = 0xE3069283

/-- For every pair of epochs, with d = (received - held) mod 65,536: d = 0 exactly when they are the same epoch, d from 0x0001 to 0x7FFF exactly when the received epoch is newer, d from 0x8000 to 0xFFFF exactly when it is neither the same nor newer, that is older; then the held one is newer, or d is 0x8000.
(R65) -/
def Obligations.EpochsCompareByTheirDifference : Prop :=
  ∀ received held : Half,
    let d := (received.toNat + 65536 - held.toNat) % 65536
    (d = 0 ↔ received = held) ∧
    (1 ≤ d ∧ d ≤ 0x7FFF ↔ newer received held = true) ∧
    (0x8000 ≤ d ↔ received ≠ held ∧ newer received held = false) ∧
    (0x8000 < d → newer held received = true)

/-- At a lane whose network runs: a basic cycle without a used source value adds one to the count of such consecutive cycles, a cycle with one clears it, and the offset correction leaves the rate r as it is; while the count is below NET.SYNC_HOLDOVER the check changes nothing but the time, so the lane runs on its last r; once it has reached it, every channel of the lane that is Joining or Integrated becomes Passive with reason 4, and the rate is still the last r.
(R313) -/
def Obligations.SyncHoldoverRunsThenGoesPassive : Prop :=
  ∀ (s : State) (t : Nat) (n : Lane), (s.lane n).netRuns = true →
    (∃ u, exec (.offsetCorrection t n) s = .next u ∧ (u.lane n).time.rate = (s.lane n).time.rate ∧
      (u.lane n).time.noSource =
        if ((s.lane n).time.onSources (·.keep ((s.lane n).codeN Key.netSyncAge))).kept.all (·.isNone) = true then (s.lane n).time.noSource + 1 else 0) ∧
    ((s.lane n).time.noSource < (s.lane n).codeN Key.netSyncHoldover → exec (.syncHoldover t n) s = .next (s.at_ t)) ∧
    ((s.lane n).codeN Key.netSyncHoldover ≤ (s.lane n).time.noSource →
      ∃ u, exec (.syncHoldover t n) s = .next u ∧ (u.lane n).time.rate = (s.lane n).time.rate ∧
        ∀ c, ((s.lane n).net.chan c).state = 2 ∨ ((s.lane n).net.chan c).state = 3 →
          ((u.lane n).net.chan c).state = 4 ∧ ((u.lane n).net.chan c).reason = 4)

/-- In every state, a lane that is Off, in reset or Quenched asserts no quench vote line to any lane; a receiving lane counts no vote of it, even if its vote register still holds a reason, and it is none of the voters that hold a lane.
(R16) -/
def Obligations.AnOffLaneNeverVotes : Prop :=
  ∀ (s : State) (v n : Lane),
    (s.lane v).state = .off ∨ (s.lane v).rst.inReset = true ∨ (s.lane v).state = .quenched →
    s.voteLine v n = false ∧ v ∉ s.counting n ∧ v ∉ s.voters n

/-- A cross-lane frame of at least its 10 fixed words, any of which is uncorrectable, received by another lane that is out of reset and whose link end is in use: the next state is the one before at the frame's instant, with the receiving lane's link-error counter for that link one higher (it saturates); the values of the last valid frame, the lane's state, its quench request and its fault log stay.
(R29) -/
def Obligations.AnUncorrectableWordLosesTheFrame : Prop :=
  ∀ (s : State) (t : Nat) (src dst : Lane) (ws : List XWord) (w : XWord) (i : Nat),
    src ≠ dst → (s.lane dst).rst.inReset = false → 10 ≤ ws.length → (s.lane dst).mapBit (linkEndBit dst src) = false →
    ws[i]? = some w → w.decode (foldLink (linkId src dst) i) = none →
    exec (.crossLaneFrameCommit t src dst ws) s = .next ((s.at_ t).onLane dst (fun l => { l with ctr :=
      { l.ctr with
        linkLo := if src = dst.lower then satInc l.ctr.linkLo else l.ctr.linkLo
        linkHi := if src = dst.lower then l.ctr.linkHi else satInc l.ctr.linkHi } }))

/-- At every lane and in every mode: a request whose major version is not 2 or 3 is refused at order 3 with ERR_VERSION and its opcode; one of major 2 or 3 is never refused with ERR_VERSION, whatever its minor version; the version a request of major 2 is read in is at most 2.3 and of major 3 at most 3.1, its own version where the module knows it; and the reply to a refused major carries header version 2.0.
(R339) -/
def Obligations.MajorVersionsTwoAndThreeAreAccepted : Prop :=
  ∀ (l : LaneSt) (md : Mode) (op : Half) (r : Req),
    (r.verMajor ≠ 2 ∧ r.verMajor ≠ 3 → l.check md op r = some (0x16, op.setWidth 32) ∧
      ∀ n st tail, (l.replyBytes n op r st tail).take 2 = [2, 0]) ∧
    (r.verMajor = 2 ∨ r.verMajor = 3 → ∀ e, l.check md op r = some e → e.1 ≠ 0x16) ∧
    (r.verMajor = 2 → r.readVer = 2 * 256 + min r.verMinor.toNat 3) ∧
    (r.verMajor = 3 → r.readVer = 3 * 256 + min r.verMinor.toNat 1)

/-- Where CALDERA_SET sets the Caldera of a lane, either both other lanes' votes against it have counted for 0.5 us, or the lane asks for its own quench (or its watchdog forces it) while it has fewer than two Active peers. The lane is then Quenched, without a role, with neither set switching.
(R16, R46, R47, R53) -/
def Obligations.TwoVotesSetTheCaldera : Prop :=
  ∀ (s u : State) (t : Nat) (n : Lane), exec (.calderaSet t n) s = .next u →
    (s.lane n).vote.caldera = false → (u.lane n).vote.caldera = true →
    ((∀ v, v ≠ n → (s.at_ t).voteCounts v n = true) ∨
      (((s.lane n).vote.request = true ∨ (s.lane n).rst.dogForced = true) ∧ (s.at_ t).activePeers n < 2)) ∧
    (u.lane n).state = .quenched ∧ (u.lane n).role = .none ∧ (u.lane n).s.switching = false ∧ (u.lane n).b.switching = false

/-- For every two or three correct values and one faulty value, in any order, the fault-tolerant midpoint exists and lies between some correct value and some correct value: the faulty one, however large, cannot move it beyond their range.
(R310) -/
def Obligations.OneFaultySourceCannotMoveTheMidpoint : Prop :=
  ∀ (good vs : List Int) (bad : Int), vs.Perm (bad :: good) → 2 ≤ good.length → good.length ≤ 3 →
    ∃ c, Machine.midpoint vs true = some c ∧ (∃ lo ∈ good, (lo : Rat) ≤ c) ∧ ∃ hi ∈ good, c ≤ (hi : Rat)

/-- For every rational x, round(x) lies within one half of x, and where it lies exactly one half away, it is the one of the two candidates further from zero.
(R495) -/
def Obligations.RoundingIsToTheNearestAwayFromZero : Prop :=
  ∀ x : Rat, absQ ((roundAway x : Rat) - x) ≤ 1 / 2 ∧
    (absQ ((roundAway x : Rat) - x) = 1 / 2 → absQ x < absQ (roundAway x : Rat))

/-- For every lane and axis: where the sum of weight times availability over the sets that carry torque is not zero, the shares the lane computes for the three lanes sum to exactly one; a set that is not usable, or whose availability is zero, has share zero.
(R86, R169, R170) -/
def Obligations.SharesSumToOne : Prop :=
  ∀ (s : State) (n : Lane) (x : Axis),
    ((allLanes.map (fun k => s.term n k x)).sum ≠ 0 → (allLanes.map (fun k => s.shareOf n k x)).sum = 1) ∧
    (∀ m, s.carries n m x = false ∨ s.availability n m x = 0 → s.shareOf n m x = 0)

/-- For every lane whose log holds at most 4,096 entries and every event: after it is logged, either the newest entry's count has gone up and every other entry stays, or a new entry stands in front and every former entry but the oldest of a full ring stays; the overwrite counter moves only when the ring was full.
(R97) -/
def Obligations.WritingTheLogLosesOnlyTheOldest : Prop :=
  ∀ (l : LaneSt) (n : Lane) (md : Mode) (t : Nat) (e : LogEv), l.log.length ≤ logSize →
    (∀ k : Nat, k + 1 < l.log.length → k + 1 < logSize - 1 → ∃ j : Nat, (l.write n md t e).log[j]? = l.log[k + 1]?) ∧
    ((l.write n md t e).log.length = l.log.length ∨ (l.write n md t e).log.length = l.log.length + 1) ∧
    (l.log.length < logSize → (l.write n md t e).ctr = l.ctr) ∧
    (l.coalesces t e = false → (l.write n md t e).log = l.entryOf n md t e :: l.log.take (logSize - 1))

/-- A host-port frame that arrives in any mode other than Ready and Service leaves everything but the time: the port neither transmits nor acknowledges, and the partial packet and the counters stay.
(R344, R345) -/
def Obligations.TheHostPortIsSilentWhenTheModuleRuns : Prop :=
  ∀ (s : State) (t : Nat) (id : BitVec 29) (fd : Bool) (data : List Byte), s.m.mode ≠ .ready → s.m.mode ≠ .service →
    exec (.hostPortFrame t id fd data) s = .next (s.at_ t)
end

