-- ==== Sys2Proof/Laws/Bytes.lean ====
section
/-! SUPPORT. What reading a field of a byte list gives: the byte order is decided once, in beBytes and beNat (R9). -/

namespace Sys2Proof.Machine
theorem beBytes_length (n x : Nat) : (beBytes n x).length = n := by simp [beBytes]

theorem beNat_append (a b : List Byte) : beNat (a ++ b) = beNat a * 256 ^ b.length + beNat b := by
  unfold beNat
  rw [List.foldl_append]
  generalize a.foldl (fun a x => a * 256 + x.toNat) 0 = k
  induction b using List.reverseRecOn with
  | nil => simp
  | append_singleton r y ih =>
    rw [List.foldl_append, List.foldl_append, ih]
    simp only [List.foldl_cons, List.foldl_nil, List.length_append, List.length_singleton]
    ring

theorem beBytes_succ (n x : Nat) : beBytes (n + 1) x = beBytes n (x / 256) ++ [BitVec.ofNat 8 x] := by
  unfold beBytes
  rw [List.range_succ, List.map_append]
  congr 1
  · apply List.map_congr_left
    intro i hi
    have := List.mem_range.mp hi
    rw [show n + 1 - 1 - i = (n - 1 - i) + 1 by omega, show x / 256 = x >>> 8 by simp [Nat.shiftRight_eq_div_pow], ← Nat.shiftRight_add]
    congr 2; ring
  · simp

theorem beNat_beBytes (n x : Nat) (h : x < 256 ^ n) : beNat (beBytes n x) = x := by
  induction n generalizing x with
  | zero => simp at h; subst h; rfl
  | succ n ih =>
    rw [beBytes_succ, beNat_append, ih]
    · simp [beNat]; omega
    · rw [Nat.div_lt_iff_lt_mul (by norm_num)]; rw [pow_succ] at h; exact h

theorem rd_append_left (a b : List Byte) (off n : Nat) (h : off + n ≤ a.length) : rd (a ++ b) off n = rd a off n := by
  unfold rd
  rw [List.drop_append_of_le_length (by omega), List.take_append_of_le_length (by simp; omega)]

theorem rd_append_right (a b : List Byte) (off n : Nat) (h : a.length ≤ off) : rd (a ++ b) off n = rd b (off - a.length) n := by
  unfold rd
  rw [List.drop_append, List.drop_eq_nil_of_le h, List.nil_append]

theorem rd_beBytes (n x : Nat) (b : List Byte) (h : x < 256 ^ n) : rd (beBytes n x ++ b) 0 n = x := by
  unfold rd
  rw [List.drop_zero, List.take_append_of_le_length (by simp [beBytes_length]), List.take_of_length_le (by simp [beBytes_length]), beNat_beBytes n x h]
end Sys2Proof.Machine
end

