-- ==== Sys2Proof/Laws/Ecc.lean ====
section
/-! SUPPORT. The error-correcting code: whatever order the configuration gives the columns, they are the columns of R26, a word as
encoded decodes to itself, one flipped check bit is corrected, a syndrome of even weight is not, and a memory holds the word last
stored at an address. -/

namespace Sys2Proof.Machine

/-- Whatever the choices, the list they put in order has the same elements. -/
theorem choose_perm {α : Type} : ∀ (is : List Nat) (l : List α), (choose is l).Perm l
  | [], [] => .refl _
  | [], _ :: _ => .refl _
  | _ :: _, [] => .refl _
  | i :: is, x :: r => by
    unfold choose
    split
    · rename_i y h
      refine ((choose_perm is _).cons y).trans ?_
      have hi := List.getElem?_eq_some_iff.mp h
      obtain ⟨hlt, hy⟩ := hi
      rw [← hy]
      exact List.getElem_cons_eraseIdx_perm hlt
    · exact .refl _

/-- Every data column has weight 3 or 5. -/
theorem weight_of_mem_dataColumns {y : Byte} (h : y ∈ dataColumns) : weight y = 3 ∨ weight y = 5 := by
  have h := (choose_perm _ _).mem_iff.mp h
  rcases List.mem_append.mp h with h | h
  · left; simpa [bytesOfWeight] using (List.mem_filter.mp h).2
  · right
    have h := (choose_perm _ _).mem_iff.mp (List.mem_of_mem_take h)
    simpa [bytesOfWeight] using (List.mem_filter.mp h).2

end Sys2Proof.Machine

namespace Sys2Proof
open Machine

/-- A word as encoded decodes to its data, with nothing corrected. -/
@[simp] theorem XWord.decode_encode (d : Dword) (a : Nat) : (XWord.encode d a).decode a = some (d, false) := by
  simp [XWord.decode, XWord.syndrome, XWord.encode]

/-- The syndrome of an encoded word whose check bits a pattern has flipped is the pattern. -/
@[simp] theorem XWord.syndrome_flip (d : Dword) (e : Byte) (a : Nat) : XWord.syndrome { data := d, check := checkBits d a ^^^ e } a = e := by
  simp [XWord.syndrome, BitVec.xor_comm]

/-- One flipped check bit is corrected, and the data stands. -/
theorem XWord.decode_flip_one (d : Dword) {e : Byte} (a : Nat) (he : e ≠ 0) (h : weight e = 1) :
    XWord.decode { data := d, check := checkBits d a ^^^ e } a = some (d, true) := by
  have he' : ¬e = 0#8 := he
  simp [XWord.decode, he', h]

/-- Flipped check bits of another weight than 1, 3 and 5 make the word uncorrectable. -/
theorem XWord.decode_flip_none (d : Dword) {e : Byte} (a : Nat) (he : e ≠ 0) (h1 : weight e ≠ 1) (h3 : weight e ≠ 3)
    (h5 : weight e ≠ 5) : XWord.decode { data := d, check := checkBits d a ^^^ e } a = none := by
  have h : dataColumns.findIdx? (· == e) = none := by
    rw [List.findIdx?_eq_none_iff]
    intro y hy
    have hw := weight_of_mem_dataColumns hy
    simp only [beq_eq_false_iff_ne, ne_eq]
    rintro rfl
    tauto
  have he' : ¬e = 0#8 := he
  simp [XWord.decode, he', h1, h]

end Sys2Proof

namespace Sys2Proof.Machine

/-- The words of a link as encoded check, with nothing corrected. -/
theorem checkWords_encode (id : Nat) : ∀ (ds : List Dword) (i : Nat),
    checkWords id i (ds.zipIdx i |>.map (fun e => XWord.encode e.1 (foldLink id e.2))) = some (ds, 0)
  | [], _ => rfl
  | d :: r, i => by
    have ih := checkWords_encode id r (i + 1)
    simp only [List.zipIdx_cons, List.map_cons, checkWords, XWord.decode_encode, ih]
    rfl

/-- A word that does not check makes its frame uncheckable. -/
theorem checkWords_none {id : Nat} : ∀ {ws : List XWord} {i k : Nat} {w : XWord}, ws[i]? = some w →
    w.decode (foldLink id (k + i)) = none → checkWords id k ws = none
  | [], _, _, _, h, _ => by simp at h
  | a :: r, 0, k, w, h, hd => by
    simp only [List.getElem?_cons_zero, Option.some.injEq] at h
    subst h
    simp only [Nat.add_zero] at hd
    simp [checkWords, hd]
  | a :: r, i + 1, k, w, h, hd => by
    simp only [List.getElem?_cons_succ] at h
    have ih := checkWords_none (k := k + 1) h (by rw [Nat.add_assoc, Nat.add_comm 1 i]; exact hd)
    simp only [checkWords, ih]
    split <;> simp_all

/-- Flipping bits of stored words changes no data as written. -/
@[simp] theorem LaneSt.wordAt_store (l : LaneSt) (n : Lane) (a b : Nat) (w : XWord) : (l.store n a w).wordAt n b = l.wordAt n b := rfl

/-- What stands at an address after a store is the word stored. -/
@[simp] theorem LaneSt.held_store (l : LaneSt) (n : Lane) (a : Nat) (w : XWord) : (l.store n a w).held n a = w := by
  have hf : ∀ (q : Nat × Dword × Dword × Byte → Bool), (l.upsets.filter (fun e => e.1 != a)).find? (fun e => e.1 == a && q e) = none := by
    intro q
    simp only [List.find?_eq_none, List.mem_filter]
    rintro e ⟨-, he⟩
    simp_all
  unfold LaneSt.held LaneSt.upset
  rw [LaneSt.wordAt_store]
  by_cases h : w = XWord.encode (l.wordAt n a) (foldMemory a)
  · simp only [LaneSt.store, if_pos h, hf, Option.map_none]
    exact h.symm
  · simp only [LaneSt.store, if_neg h]
    simp [XWord.encode]

/-- A word no bit of which has flipped stands as encoded. -/
theorem LaneSt.held_clean {l : LaneSt} (n : Lane) (a : Nat) (h : l.upsets = []) :
    l.held n a = XWord.encode (l.wordAt n a) (foldMemory a) := by
  simp [LaneSt.held, LaneSt.upset, h]

end Sys2Proof.Machine
end

