-- ==== Sys2Proof/Laws/Memory.lean ====
section
/-! SUPPORT. The memory of a lane: every operation keeps the canonical form, a read after a write gives the byte written,
and every other address reads as before. -/

namespace Sys2Proof.Machine

/-- The first address of a list lies above another. -/
def Memory.above (a : Nat) : List Host.Cell → Prop
  | [] => True
  | c :: _ => a < c.1

theorem Memory.wf_cons (c : Host.Cell) (r : List Host.Cell) :
    Memory.wf (c :: r) = true ↔ c.2 ≠ Memory.unlisted ∧ Memory.above c.1 r ∧ Memory.wf r = true := by
  cases r with
  | nil => simp [Memory.wf, Memory.above]
  | cons d r => simp [Memory.wf, Memory.above, and_assoc]

theorem Memory.wf_tail {c : Host.Cell} {r : List Host.Cell} (h : Memory.wf (c :: r) = true) : Memory.wf r = true :=
  ((Memory.wf_cons c r).mp h).2.2

/-- In the canonical form every address lies above what the first lies above. -/
theorem Memory.above_all {a : Nat} {m : List Host.Cell} (h : Memory.wf m = true) (ha : Memory.above a m) :
    ∀ c ∈ m, a < c.1 := by
  induction m generalizing a with
  | nil => simp
  | cons d r ih =>
    obtain ⟨-, h2, h3⟩ := (Memory.wf_cons d r).mp h
    intro c hc
    rcases List.mem_cons.mp hc with rfl | hc
    · exact ha
    · exact Nat.lt_trans ha (ih h3 h2 c hc)

theorem Memory.above_of_all {a : Nat} {m : List Host.Cell} (h : ∀ c ∈ m, a < c.1) : Memory.above a m := by
  cases m with
  | nil => trivial
  | cons d r => exact h d (by simp)

theorem Memory.mem_insert {a : Nat} {b : Byte} {m : List Host.Cell} {c : Host.Cell} (h : c ∈ Memory.insert a b m) :
    c = (a, b) ∨ c ∈ m := by
  induction m with
  | nil => simp_all [Memory.insert]
  | cons d r ih =>
    unfold Memory.insert at h
    split at h
    · simpa using h
    · split at h
      · rcases List.mem_cons.mp h with h | h
        · exact .inl h
        · exact .inr (by simp [h])
      · rcases List.mem_cons.mp h with h | h
        · exact .inr (by simp [h])
        · rcases ih h with h | h
          · exact .inl h
          · exact .inr (by simp [h])

theorem Memory.insert_wf {a : Nat} {b : Byte} (hb : b ≠ Memory.unlisted) {m : List Host.Cell} (h : Memory.wf m = true) :
    Memory.wf (Memory.insert a b m) = true := by
  induction m with
  | nil => exact (Memory.wf_cons _ _).mpr ⟨hb, trivial, rfl⟩
  | cons d r ih =>
    obtain ⟨h1, h2, h3⟩ := (Memory.wf_cons d r).mp h
    unfold Memory.insert
    split
    · exact (Memory.wf_cons _ _).mpr ⟨hb, by assumption, h⟩
    · split
      · next h => subst h; exact (Memory.wf_cons _ _).mpr ⟨hb, h2, h3⟩
      · refine (Memory.wf_cons _ _).mpr ⟨h1, Memory.above_of_all fun c hc => ?_, ih h3⟩
        rcases Memory.mem_insert hc with rfl | hc
        · show d.1 < a; omega
        · exact Memory.above_all h3 h2 c hc

theorem Memory.erase_sublist (a : Nat) (m : List Host.Cell) : (Memory.erase a m).Sublist m := by
  induction m with
  | nil => exact List.Sublist.refl _
  | cons d r ih =>
    unfold Memory.erase
    split
    · exact List.sublist_cons_self d r
    · exact ih.cons_cons d

/-- A sublist of a canonical list is canonical. -/
theorem Memory.sublist_wf {m r : List Host.Cell} (hs : r.Sublist m) (h : Memory.wf m = true) : Memory.wf r = true := by
  induction hs with
  | slnil => rfl
  | cons d _ ih => exact ih (Memory.wf_tail h)
  | cons_cons d hs ih =>
    obtain ⟨h1, h2, h3⟩ := (Memory.wf_cons d _).mp h
    exact (Memory.wf_cons _ _).mpr
      ⟨h1, Memory.above_of_all fun c hc => Memory.above_all h3 h2 c (hs.subset hc), ih h3⟩

/-- Writing one byte keeps the canonical form. -/
theorem Memory.write_wf {m : List Host.Cell} (a : Nat) (b : Byte) (h : Memory.wf m = true) :
    Memory.wf (Memory.write m a b) = true := by
  unfold Memory.write
  split
  · exact Memory.sublist_wf (Memory.erase_sublist a m) h
  · next hb => exact Memory.insert_wf hb h

/-- Writing bytes keeps the canonical form. -/
theorem Memory.writeBytes_wf {m : List Host.Cell} (a : Nat) (bs : List Byte) (h : Memory.wf m = true) :
    Memory.wf (Memory.writeBytes m a bs) = true := by
  induction bs generalizing m a with
  | nil => exact h
  | cons b r ih => exact ih (a + 1) (Memory.write_wf a b h)

/-- Dropping cells keeps the canonical form. -/
theorem Memory.filter_wf {m : List Host.Cell} (p : Host.Cell → Bool) (h : Memory.wf m = true) :
    Memory.wf (m.filter p) = true :=
  Memory.sublist_wf List.filter_sublist h

/-! ### Reads -/

theorem Memory.read_of_lt {a : Nat} {m : List Host.Cell} (h : ∀ c ∈ m, a < c.1) : Memory.read m a = Memory.unlisted := by
  induction m with
  | nil => rfl
  | cons d r ih =>
    unfold Memory.read
    rw [if_neg (Nat.ne_of_gt (h d (by simp)))]
    exact ih fun c hc => h c (by simp [hc])

theorem Memory.read_insert (m : List Host.Cell) (a : Nat) (b : Byte) (x : Nat) :
    Memory.read (Memory.insert a b m) x = if x = a then b else Memory.read m x := by
  induction m with
  | nil => simp [Memory.insert, Memory.read, eq_comm]
  | cons d r ih =>
    unfold Memory.insert
    split
    · simp [Memory.read, eq_comm]
    · split
      · next h1 h2 =>
        unfold Memory.read
        have hx' : a = x ↔ x = a := eq_comm
        by_cases hx : x = a <;> simp [← h2, hx', hx]
      · next h1 h2 =>
        unfold Memory.read
        by_cases hd : d.1 = x
        · have hx : x ≠ a := by omega
          simp [hd, hx]
        · simp [hd, ih]

theorem Memory.read_erase {m : List Host.Cell} (hm : Memory.wf m = true) (a x : Nat) :
    Memory.read (Memory.erase a m) x = if x = a then Memory.unlisted else Memory.read m x := by
  induction m with
  | nil => simp [Memory.erase, Memory.read]
  | cons d r ih =>
    obtain ⟨-, h2, h3⟩ := (Memory.wf_cons d r).mp hm
    unfold Memory.erase
    split
    · next h =>
      by_cases hx : x = a
      · subst hx
        simpa using Memory.read_of_lt (h ▸ Memory.above_all h3 h2)
      · have hd : ¬ d.1 = x := by omega
        simp [Memory.read, hx, hd]
    · next h =>
      unfold Memory.read
      by_cases hd : d.1 = x
      · have hx : x ≠ a := by omega
        simp [hd, hx]
      · simp [hd, ih h3]

/-- A read after a write of one byte. -/
theorem Memory.read_write {m : List Host.Cell} (hm : Memory.wf m = true) (a : Nat) (b : Byte) (x : Nat) :
    Memory.read (Memory.write m a b) x = if x = a then b else Memory.read m x := by
  unfold Memory.write
  split
  · next h => rw [Memory.read_erase hm, h]
  · exact Memory.read_insert m a b x

/-- An address outside the bytes written reads as before. -/
theorem Memory.read_writeBytes_of_not_mem {m : List Host.Cell} (hm : Memory.wf m = true) (a : Nat) (bs : List Byte) (x : Nat)
    (h : x < a ∨ a + bs.length ≤ x) : Memory.read (Memory.writeBytes m a bs) x = Memory.read m x := by
  induction bs generalizing m a with
  | nil => rfl
  | cons b r ih =>
    simp only [List.length_cons] at h
    unfold Memory.writeBytes
    rw [ih (Memory.write_wf a b hm) (a + 1) (by omega), Memory.read_write hm, if_neg (by omega)]

/-- Each written byte reads back. -/
theorem Memory.read_writeBytes {m : List Host.Cell} (hm : Memory.wf m = true) (a : Nat) (bs : List Byte) (i : Nat)
    (h : i < bs.length) : Memory.read (Memory.writeBytes m a bs) (a + i) = bs[i] := by
  induction bs generalizing m a i with
  | nil => simp at h
  | cons b r ih =>
    unfold Memory.writeBytes
    cases i with
    | zero =>
      rw [Memory.read_writeBytes_of_not_mem (Memory.write_wf a b hm) (a + 1) r (a + 0) (by omega), Memory.read_write hm]
      simp
    | succ i =>
      have := ih (Memory.write_wf a b hm) (a + 1) i (by simpa using h)
      rw [show a + (i + 1) = a + 1 + i by omega, this]
      rfl

theorem Memory.read_cons (d : Host.Cell) (r : List Host.Cell) (a : Nat) :
    Memory.read (d :: r) a = if d.1 = a then d.2 else Memory.read r a := rfl

/-- A cell that survives keeps its byte; the others read as unlisted. -/
theorem Memory.read_filter (m : List Host.Cell) (p : Nat → Bool) (a : Nat) :
    Memory.read (m.filter (fun c => p c.1)) a = if p a = true then Memory.read m a else Memory.unlisted := by
  induction m with
  | nil => simp [Memory.read]
  | cons d r ih =>
    by_cases ha : d.1 = a
    · by_cases hd : p d.1 = true
      · rw [List.filter_cons_of_pos (by simpa using hd)]
        simp [Memory.read_cons, ha, ha ▸ hd]
      · rw [List.filter_cons_of_neg (by simpa using hd), ih]
        simp [ha ▸ hd]
    · by_cases hd : p d.1 = true
      · rw [List.filter_cons_of_pos (by simpa using hd)]
        simp [Memory.read_cons, ha, ih]
      · rw [List.filter_cons_of_neg (by simpa using hd), ih]
        simp [Memory.read_cons, ha]

end Sys2Proof.Machine
end

