-- ==== Sys2Proof/Laws/State.lean ====
section
/-! SUPPORT. What each updater of the state leaves and changes, field by field, so that no proof unfolds a record update. -/

namespace Sys2Proof.Machine

/-! ### onLane -/

@[simp] theorem State.onLane_pending (s : State) (n : Lane) (f : LaneSt → LaneSt) : (s.onLane n f).pending = s.pending := by cases n <;> rfl
@[simp] theorem State.onLane_now (s : State) (n : Lane) (f : LaneSt → LaneSt) : (s.onLane n f).now = s.now := by cases n <;> rfl
@[simp] theorem State.onLane_free (s : State) (n : Lane) (f : LaneSt → LaneSt) : (s.onLane n f).free = s.free := by cases n <;> rfl
@[simp] theorem State.onLane_m (s : State) (n : Lane) (f : LaneSt → LaneSt) : (s.onLane n f).m = s.m := by cases n <;> rfl
@[simp] theorem State.onLane_hold (s : State) (n : Lane) (f : LaneSt → LaneSt) : (s.onLane n f).hold = s.hold := by cases n <;> rfl
@[simp] theorem State.onLane_hom (s : State) (n : Lane) (f : LaneSt → LaneSt) : (s.onLane n f).hom = s.hom := by cases n <;> rfl
@[simp] theorem State.onLane_meas (s : State) (n : Lane) (f : LaneSt → LaneSt) : (s.onLane n f).meas = s.meas := by cases n <;> rfl
@[simp] theorem State.onLane_host (s : State) (n : Lane) (f : LaneSt → LaneSt) : (s.onLane n f).host = s.host := by cases n <;> rfl
@[simp] theorem State.onLane_twin (s : State) (n : Lane) (f : LaneSt → LaneSt) : (s.onLane n f).twin = s.twin := by cases n <;> rfl
@[simp] theorem State.onLane_lane (s : State) (n : Lane) (f : LaneSt → LaneSt) : (s.onLane n f).lane n = f (s.lane n) := by cases n <;> rfl
theorem State.onLane_lane_ne (s : State) (n : Lane) (f : LaneSt → LaneSt) {k : Lane} (h : k ≠ n) : (s.onLane n f).lane k = s.lane k := by
  cases n <;> cases k <;> first | exact absurd rfl h | rfl

/-! ### onSet -/

@[simp] theorem State.onSet_pending (s : State) (n : Lane) (x : Axis) (f : SetSt → SetSt) : (s.onSet n x f).pending = s.pending := by cases n <;> rfl
@[simp] theorem State.onSet_now (s : State) (n : Lane) (x : Axis) (f : SetSt → SetSt) : (s.onSet n x f).now = s.now := by cases n <;> rfl
@[simp] theorem State.onSet_free (s : State) (n : Lane) (x : Axis) (f : SetSt → SetSt) : (s.onSet n x f).free = s.free := by cases n <;> rfl
@[simp] theorem State.onSet_m (s : State) (n : Lane) (x : Axis) (f : SetSt → SetSt) : (s.onSet n x f).m = s.m := by cases n <;> rfl
@[simp] theorem State.onSet_hold (s : State) (n : Lane) (x : Axis) (f : SetSt → SetSt) : (s.onSet n x f).hold = s.hold := by cases n <;> rfl
@[simp] theorem State.onSet_hom (s : State) (n : Lane) (x : Axis) (f : SetSt → SetSt) : (s.onSet n x f).hom = s.hom := by cases n <;> rfl
@[simp] theorem State.onSet_meas (s : State) (n : Lane) (x : Axis) (f : SetSt → SetSt) : (s.onSet n x f).meas = s.meas := by cases n <;> rfl
@[simp] theorem State.onSet_host (s : State) (n : Lane) (x : Axis) (f : SetSt → SetSt) : (s.onSet n x f).host = s.host := by cases n <;> rfl
@[simp] theorem State.onSet_twin (s : State) (n : Lane) (x : Axis) (f : SetSt → SetSt) : (s.onSet n x f).twin = s.twin := by cases n <;> rfl
@[simp] theorem State.onSet_lane (s : State) (n : Lane) (x : Axis) (f : SetSt → SetSt) : (s.onSet n x f).lane n = (s.lane n).onSet x f := by cases n <;> rfl
theorem State.onSet_lane_ne (s : State) (n : Lane) (x : Axis) (f : SetSt → SetSt) {k : Lane} (h : k ≠ n) : (s.onSet n x f).lane k = s.lane k := by
  cases n <;> cases k <;> first | exact absurd rfl h | rfl

/-! ### onLink -/

@[simp] theorem State.onLink_pending (s : State) (a n : Lane) (f : LinkIn → LinkIn) : (s.onLink a n f).pending = s.pending := by cases n <;> rfl
@[simp] theorem State.onLink_now (s : State) (a n : Lane) (f : LinkIn → LinkIn) : (s.onLink a n f).now = s.now := by cases n <;> rfl
@[simp] theorem State.onLink_free (s : State) (a n : Lane) (f : LinkIn → LinkIn) : (s.onLink a n f).free = s.free := by cases n <;> rfl
@[simp] theorem State.onLink_m (s : State) (a n : Lane) (f : LinkIn → LinkIn) : (s.onLink a n f).m = s.m := by cases n <;> rfl
@[simp] theorem State.onLink_hold (s : State) (a n : Lane) (f : LinkIn → LinkIn) : (s.onLink a n f).hold = s.hold := by cases n <;> rfl
@[simp] theorem State.onLink_hom (s : State) (a n : Lane) (f : LinkIn → LinkIn) : (s.onLink a n f).hom = s.hom := by cases n <;> rfl
@[simp] theorem State.onLink_meas (s : State) (a n : Lane) (f : LinkIn → LinkIn) : (s.onLink a n f).meas = s.meas := by cases n <;> rfl
@[simp] theorem State.onLink_host (s : State) (a n : Lane) (f : LinkIn → LinkIn) : (s.onLink a n f).host = s.host := by cases n <;> rfl
@[simp] theorem State.onLink_twin (s : State) (a n : Lane) (f : LinkIn → LinkIn) : (s.onLink a n f).twin = s.twin := by cases n <;> rfl
@[simp] theorem State.onLink_lane (s : State) (a n : Lane) (f : LinkIn → LinkIn) : (s.onLink a n f).lane n = (s.lane n).onLink n a f := by cases n <;> rfl
theorem State.onLink_lane_ne (s : State) (a n : Lane) (f : LinkIn → LinkIn) {k : Lane} (h : k ≠ n) : (s.onLink a n f).lane k = s.lane k := by
  cases n <;> cases k <;> first | exact absurd rfl h | rfl

/-! ### onNet -/

@[simp] theorem State.onNet_pending (s : State) (n : Lane) (f : NetSt → NetSt) : (s.onNet n f).pending = s.pending := by cases n <;> rfl
@[simp] theorem State.onNet_now (s : State) (n : Lane) (f : NetSt → NetSt) : (s.onNet n f).now = s.now := by cases n <;> rfl
@[simp] theorem State.onNet_free (s : State) (n : Lane) (f : NetSt → NetSt) : (s.onNet n f).free = s.free := by cases n <;> rfl
@[simp] theorem State.onNet_m (s : State) (n : Lane) (f : NetSt → NetSt) : (s.onNet n f).m = s.m := by cases n <;> rfl
@[simp] theorem State.onNet_hold (s : State) (n : Lane) (f : NetSt → NetSt) : (s.onNet n f).hold = s.hold := by cases n <;> rfl
@[simp] theorem State.onNet_hom (s : State) (n : Lane) (f : NetSt → NetSt) : (s.onNet n f).hom = s.hom := by cases n <;> rfl
@[simp] theorem State.onNet_meas (s : State) (n : Lane) (f : NetSt → NetSt) : (s.onNet n f).meas = s.meas := by cases n <;> rfl
@[simp] theorem State.onNet_host (s : State) (n : Lane) (f : NetSt → NetSt) : (s.onNet n f).host = s.host := by cases n <;> rfl
@[simp] theorem State.onNet_twin (s : State) (n : Lane) (f : NetSt → NetSt) : (s.onNet n f).twin = s.twin := by cases n <;> rfl
@[simp] theorem State.onNet_lane (s : State) (n : Lane) (f : NetSt → NetSt) : (s.onNet n f).lane n = { s.lane n with net := f (s.lane n).net } := by cases n <;> rfl
theorem State.onNet_lane_ne (s : State) (n : Lane) (f : NetSt → NetSt) {k : Lane} (h : k ≠ n) : (s.onNet n f).lane k = s.lane k := by
  cases n <;> cases k <;> first | exact absurd rfl h | rfl

/-! ### onChan -/

@[simp] theorem State.onChan_pending (s : State) (n : Lane) (c : Chan) (f : ChanSt → ChanSt) : (s.onChan n c f).pending = s.pending := by cases n <;> rfl
@[simp] theorem State.onChan_now (s : State) (n : Lane) (c : Chan) (f : ChanSt → ChanSt) : (s.onChan n c f).now = s.now := by cases n <;> rfl
@[simp] theorem State.onChan_free (s : State) (n : Lane) (c : Chan) (f : ChanSt → ChanSt) : (s.onChan n c f).free = s.free := by cases n <;> rfl
@[simp] theorem State.onChan_m (s : State) (n : Lane) (c : Chan) (f : ChanSt → ChanSt) : (s.onChan n c f).m = s.m := by cases n <;> rfl
@[simp] theorem State.onChan_hold (s : State) (n : Lane) (c : Chan) (f : ChanSt → ChanSt) : (s.onChan n c f).hold = s.hold := by cases n <;> rfl
@[simp] theorem State.onChan_hom (s : State) (n : Lane) (c : Chan) (f : ChanSt → ChanSt) : (s.onChan n c f).hom = s.hom := by cases n <;> rfl
@[simp] theorem State.onChan_meas (s : State) (n : Lane) (c : Chan) (f : ChanSt → ChanSt) : (s.onChan n c f).meas = s.meas := by cases n <;> rfl
@[simp] theorem State.onChan_host (s : State) (n : Lane) (c : Chan) (f : ChanSt → ChanSt) : (s.onChan n c f).host = s.host := by cases n <;> rfl
@[simp] theorem State.onChan_twin (s : State) (n : Lane) (c : Chan) (f : ChanSt → ChanSt) : (s.onChan n c f).twin = s.twin := by cases n <;> rfl
@[simp] theorem State.onChan_lane (s : State) (n : Lane) (c : Chan) (f : ChanSt → ChanSt) : (s.onChan n c f).lane n = { s.lane n with net := (s.lane n).net.onChan c f } := by cases n <;> rfl
theorem State.onChan_lane_ne (s : State) (n : Lane) (c : Chan) (f : ChanSt → ChanSt) {k : Lane} (h : k ≠ n) : (s.onChan n c f).lane k = s.lane k := by
  cases n <;> cases k <;> first | exact absurd rfl h | rfl

/-! ### onSup -/

@[simp] theorem State.onSup_pending (s : State) (n : Lane) (f : SupplySt → SupplySt) : (s.onSup n f).pending = s.pending := by cases n <;> rfl
@[simp] theorem State.onSup_now (s : State) (n : Lane) (f : SupplySt → SupplySt) : (s.onSup n f).now = s.now := by cases n <;> rfl
@[simp] theorem State.onSup_free (s : State) (n : Lane) (f : SupplySt → SupplySt) : (s.onSup n f).free = s.free := by cases n <;> rfl
@[simp] theorem State.onSup_m (s : State) (n : Lane) (f : SupplySt → SupplySt) : (s.onSup n f).m = s.m := by cases n <;> rfl
@[simp] theorem State.onSup_hold (s : State) (n : Lane) (f : SupplySt → SupplySt) : (s.onSup n f).hold = s.hold := by cases n <;> rfl
@[simp] theorem State.onSup_hom (s : State) (n : Lane) (f : SupplySt → SupplySt) : (s.onSup n f).hom = s.hom := by cases n <;> rfl
@[simp] theorem State.onSup_meas (s : State) (n : Lane) (f : SupplySt → SupplySt) : (s.onSup n f).meas = s.meas := by cases n <;> rfl
@[simp] theorem State.onSup_host (s : State) (n : Lane) (f : SupplySt → SupplySt) : (s.onSup n f).host = s.host := by cases n <;> rfl
@[simp] theorem State.onSup_twin (s : State) (n : Lane) (f : SupplySt → SupplySt) : (s.onSup n f).twin = s.twin := by cases n <;> rfl
@[simp] theorem State.onSup_lane (s : State) (n : Lane) (f : SupplySt → SupplySt) : (s.onSup n f).lane n = { s.lane n with sup := f (s.lane n).sup } := by cases n <;> rfl
theorem State.onSup_lane_ne (s : State) (n : Lane) (f : SupplySt → SupplySt) {k : Lane} (h : k ≠ n) : (s.onSup n f).lane k = s.lane k := by
  cases n <;> cases k <;> first | exact absurd rfl h | rfl

/-! ### onCtr -/

@[simp] theorem State.onCtr_pending (s : State) (n : Lane) (f : CtrSt → CtrSt) : (s.onCtr n f).pending = s.pending := by cases n <;> rfl
@[simp] theorem State.onCtr_now (s : State) (n : Lane) (f : CtrSt → CtrSt) : (s.onCtr n f).now = s.now := by cases n <;> rfl
@[simp] theorem State.onCtr_free (s : State) (n : Lane) (f : CtrSt → CtrSt) : (s.onCtr n f).free = s.free := by cases n <;> rfl
@[simp] theorem State.onCtr_m (s : State) (n : Lane) (f : CtrSt → CtrSt) : (s.onCtr n f).m = s.m := by cases n <;> rfl
@[simp] theorem State.onCtr_hold (s : State) (n : Lane) (f : CtrSt → CtrSt) : (s.onCtr n f).hold = s.hold := by cases n <;> rfl
@[simp] theorem State.onCtr_hom (s : State) (n : Lane) (f : CtrSt → CtrSt) : (s.onCtr n f).hom = s.hom := by cases n <;> rfl
@[simp] theorem State.onCtr_meas (s : State) (n : Lane) (f : CtrSt → CtrSt) : (s.onCtr n f).meas = s.meas := by cases n <;> rfl
@[simp] theorem State.onCtr_host (s : State) (n : Lane) (f : CtrSt → CtrSt) : (s.onCtr n f).host = s.host := by cases n <;> rfl
@[simp] theorem State.onCtr_twin (s : State) (n : Lane) (f : CtrSt → CtrSt) : (s.onCtr n f).twin = s.twin := by cases n <;> rfl
@[simp] theorem State.onCtr_lane (s : State) (n : Lane) (f : CtrSt → CtrSt) : (s.onCtr n f).lane n = { s.lane n with ctr := f (s.lane n).ctr } := by cases n <;> rfl
theorem State.onCtr_lane_ne (s : State) (n : Lane) (f : CtrSt → CtrSt) {k : Lane} (h : k ≠ n) : (s.onCtr n f).lane k = s.lane k := by
  cases n <;> cases k <;> first | exact absurd rfl h | rfl

/-! ### onProf -/

@[simp] theorem State.onProf_pending (s : State) (n : Lane) (f : ProfSt → ProfSt) : (s.onProf n f).pending = s.pending := by cases n <;> rfl
@[simp] theorem State.onProf_now (s : State) (n : Lane) (f : ProfSt → ProfSt) : (s.onProf n f).now = s.now := by cases n <;> rfl
@[simp] theorem State.onProf_free (s : State) (n : Lane) (f : ProfSt → ProfSt) : (s.onProf n f).free = s.free := by cases n <;> rfl
@[simp] theorem State.onProf_m (s : State) (n : Lane) (f : ProfSt → ProfSt) : (s.onProf n f).m = s.m := by cases n <;> rfl
@[simp] theorem State.onProf_hold (s : State) (n : Lane) (f : ProfSt → ProfSt) : (s.onProf n f).hold = s.hold := by cases n <;> rfl
@[simp] theorem State.onProf_hom (s : State) (n : Lane) (f : ProfSt → ProfSt) : (s.onProf n f).hom = s.hom := by cases n <;> rfl
@[simp] theorem State.onProf_meas (s : State) (n : Lane) (f : ProfSt → ProfSt) : (s.onProf n f).meas = s.meas := by cases n <;> rfl
@[simp] theorem State.onProf_host (s : State) (n : Lane) (f : ProfSt → ProfSt) : (s.onProf n f).host = s.host := by cases n <;> rfl
@[simp] theorem State.onProf_twin (s : State) (n : Lane) (f : ProfSt → ProfSt) : (s.onProf n f).twin = s.twin := by cases n <;> rfl
@[simp] theorem State.onProf_lane (s : State) (n : Lane) (f : ProfSt → ProfSt) : (s.onProf n f).lane n = { s.lane n with prof := f (s.lane n).prof } := by cases n <;> rfl
theorem State.onProf_lane_ne (s : State) (n : Lane) (f : ProfSt → ProfSt) {k : Lane} (h : k ≠ n) : (s.onProf n f).lane k = s.lane k := by
  cases n <;> cases k <;> first | exact absurd rfl h | rfl

/-! ### onVote -/

@[simp] theorem State.onVote_pending (s : State) (n : Lane) (f : VoteSt → VoteSt) : (s.onVote n f).pending = s.pending := by cases n <;> rfl
@[simp] theorem State.onVote_now (s : State) (n : Lane) (f : VoteSt → VoteSt) : (s.onVote n f).now = s.now := by cases n <;> rfl
@[simp] theorem State.onVote_free (s : State) (n : Lane) (f : VoteSt → VoteSt) : (s.onVote n f).free = s.free := by cases n <;> rfl
@[simp] theorem State.onVote_m (s : State) (n : Lane) (f : VoteSt → VoteSt) : (s.onVote n f).m = s.m := by cases n <;> rfl
@[simp] theorem State.onVote_hold (s : State) (n : Lane) (f : VoteSt → VoteSt) : (s.onVote n f).hold = s.hold := by cases n <;> rfl
@[simp] theorem State.onVote_hom (s : State) (n : Lane) (f : VoteSt → VoteSt) : (s.onVote n f).hom = s.hom := by cases n <;> rfl
@[simp] theorem State.onVote_meas (s : State) (n : Lane) (f : VoteSt → VoteSt) : (s.onVote n f).meas = s.meas := by cases n <;> rfl
@[simp] theorem State.onVote_host (s : State) (n : Lane) (f : VoteSt → VoteSt) : (s.onVote n f).host = s.host := by cases n <;> rfl
@[simp] theorem State.onVote_twin (s : State) (n : Lane) (f : VoteSt → VoteSt) : (s.onVote n f).twin = s.twin := by cases n <;> rfl
@[simp] theorem State.onVote_lane (s : State) (n : Lane) (f : VoteSt → VoteSt) : (s.onVote n f).lane n = { s.lane n with vote := f (s.lane n).vote } := by cases n <;> rfl
theorem State.onVote_lane_ne (s : State) (n : Lane) (f : VoteSt → VoteSt) {k : Lane} (h : k ≠ n) : (s.onVote n f).lane k = s.lane k := by
  cases n <;> cases k <;> first | exact absurd rfl h | rfl

/-! ### onSec -/

@[simp] theorem State.onSec_pending (s : State) (n : Lane) (f : SecSt → SecSt) : (s.onSec n f).pending = s.pending := by cases n <;> rfl
@[simp] theorem State.onSec_now (s : State) (n : Lane) (f : SecSt → SecSt) : (s.onSec n f).now = s.now := by cases n <;> rfl
@[simp] theorem State.onSec_free (s : State) (n : Lane) (f : SecSt → SecSt) : (s.onSec n f).free = s.free := by cases n <;> rfl
@[simp] theorem State.onSec_m (s : State) (n : Lane) (f : SecSt → SecSt) : (s.onSec n f).m = s.m := by cases n <;> rfl
@[simp] theorem State.onSec_hold (s : State) (n : Lane) (f : SecSt → SecSt) : (s.onSec n f).hold = s.hold := by cases n <;> rfl
@[simp] theorem State.onSec_hom (s : State) (n : Lane) (f : SecSt → SecSt) : (s.onSec n f).hom = s.hom := by cases n <;> rfl
@[simp] theorem State.onSec_meas (s : State) (n : Lane) (f : SecSt → SecSt) : (s.onSec n f).meas = s.meas := by cases n <;> rfl
@[simp] theorem State.onSec_host (s : State) (n : Lane) (f : SecSt → SecSt) : (s.onSec n f).host = s.host := by cases n <;> rfl
@[simp] theorem State.onSec_twin (s : State) (n : Lane) (f : SecSt → SecSt) : (s.onSec n f).twin = s.twin := by cases n <;> rfl
@[simp] theorem State.onSec_lane (s : State) (n : Lane) (f : SecSt → SecSt) : (s.onSec n f).lane n = { s.lane n with sec := f (s.lane n).sec } := by cases n <;> rfl
theorem State.onSec_lane_ne (s : State) (n : Lane) (f : SecSt → SecSt) {k : Lane} (h : k ≠ n) : (s.onSec n f).lane k = s.lane k := by
  cases n <;> cases k <;> first | exact absurd rfl h | rfl

/-! ### onRst -/

@[simp] theorem State.onRst_pending (s : State) (n : Lane) (f : ResetSt → ResetSt) : (s.onRst n f).pending = s.pending := by cases n <;> rfl
@[simp] theorem State.onRst_now (s : State) (n : Lane) (f : ResetSt → ResetSt) : (s.onRst n f).now = s.now := by cases n <;> rfl
@[simp] theorem State.onRst_free (s : State) (n : Lane) (f : ResetSt → ResetSt) : (s.onRst n f).free = s.free := by cases n <;> rfl
@[simp] theorem State.onRst_m (s : State) (n : Lane) (f : ResetSt → ResetSt) : (s.onRst n f).m = s.m := by cases n <;> rfl
@[simp] theorem State.onRst_hold (s : State) (n : Lane) (f : ResetSt → ResetSt) : (s.onRst n f).hold = s.hold := by cases n <;> rfl
@[simp] theorem State.onRst_hom (s : State) (n : Lane) (f : ResetSt → ResetSt) : (s.onRst n f).hom = s.hom := by cases n <;> rfl
@[simp] theorem State.onRst_meas (s : State) (n : Lane) (f : ResetSt → ResetSt) : (s.onRst n f).meas = s.meas := by cases n <;> rfl
@[simp] theorem State.onRst_host (s : State) (n : Lane) (f : ResetSt → ResetSt) : (s.onRst n f).host = s.host := by cases n <;> rfl
@[simp] theorem State.onRst_twin (s : State) (n : Lane) (f : ResetSt → ResetSt) : (s.onRst n f).twin = s.twin := by cases n <;> rfl
@[simp] theorem State.onRst_lane (s : State) (n : Lane) (f : ResetSt → ResetSt) : (s.onRst n f).lane n = { s.lane n with rst := f (s.lane n).rst } := by cases n <;> rfl
theorem State.onRst_lane_ne (s : State) (n : Lane) (f : ResetSt → ResetSt) {k : Lane} (h : k ≠ n) : (s.onRst n f).lane k = s.lane k := by
  cases n <;> cases k <;> first | exact absurd rfl h | rfl

/-! ### onTerm -/

@[simp] theorem State.onTerm_pending (s : State) (n k : Lane) (x : Axis) (f : SetTerm → SetTerm) : (s.onTerm n k x f).pending = s.pending := by
  cases n <;> rfl
@[simp] theorem State.onTerm_now (s : State) (n k : Lane) (x : Axis) (f : SetTerm → SetTerm) : (s.onTerm n k x f).now = s.now := by
  cases n <;> rfl
@[simp] theorem State.onTerm_free (s : State) (n k : Lane) (x : Axis) (f : SetTerm → SetTerm) : (s.onTerm n k x f).free = s.free := by
  cases n <;> rfl
@[simp] theorem State.onTerm_m (s : State) (n k : Lane) (x : Axis) (f : SetTerm → SetTerm) : (s.onTerm n k x f).m = s.m := by
  cases n <;> rfl
@[simp] theorem State.onTerm_hold (s : State) (n k : Lane) (x : Axis) (f : SetTerm → SetTerm) : (s.onTerm n k x f).hold = s.hold := by
  cases n <;> rfl
@[simp] theorem State.onTerm_hom (s : State) (n k : Lane) (x : Axis) (f : SetTerm → SetTerm) : (s.onTerm n k x f).hom = s.hom := by
  cases n <;> rfl
@[simp] theorem State.onTerm_meas (s : State) (n k : Lane) (x : Axis) (f : SetTerm → SetTerm) : (s.onTerm n k x f).meas = s.meas := by
  cases n <;> rfl
@[simp] theorem State.onTerm_host (s : State) (n k : Lane) (x : Axis) (f : SetTerm → SetTerm) : (s.onTerm n k x f).host = s.host := by
  cases n <;> rfl
@[simp] theorem State.onTerm_twin (s : State) (n k : Lane) (x : Axis) (f : SetTerm → SetTerm) : (s.onTerm n k x f).twin = s.twin := by
  cases n <;> rfl
@[simp] theorem State.onTerm_lane (s : State) (n k : Lane) (x : Axis) (f : SetTerm → SetTerm) :
    (s.onTerm n k x f).lane n = (s.lane n).onTerm k x f := by cases n <;> rfl
theorem State.onTerm_lane_ne (s : State) (n m : Lane) (x : Axis) (f : SetTerm → SetTerm) {k : Lane} (h : k ≠ n) :
    (s.onTerm n m x f).lane k = s.lane k := State.onLane_lane_ne s n _ h

/-! ### onLanes, onM and at_ -/

@[simp] theorem State.onLanes_pending (s : State) (f : Lane → LaneSt → LaneSt) : (s.onLanes f).pending = s.pending := rfl
@[simp] theorem State.onLanes_now (s : State) (f : Lane → LaneSt → LaneSt) : (s.onLanes f).now = s.now := rfl
@[simp] theorem State.onLanes_free (s : State) (f : Lane → LaneSt → LaneSt) : (s.onLanes f).free = s.free := rfl
@[simp] theorem State.onLanes_m (s : State) (f : Lane → LaneSt → LaneSt) : (s.onLanes f).m = s.m := rfl
@[simp] theorem State.onLanes_hold (s : State) (f : Lane → LaneSt → LaneSt) : (s.onLanes f).hold = s.hold := rfl
@[simp] theorem State.onLanes_hom (s : State) (f : Lane → LaneSt → LaneSt) : (s.onLanes f).hom = s.hom := rfl
@[simp] theorem State.onLanes_meas (s : State) (f : Lane → LaneSt → LaneSt) : (s.onLanes f).meas = s.meas := rfl
@[simp] theorem State.onLanes_host (s : State) (f : Lane → LaneSt → LaneSt) : (s.onLanes f).host = s.host := rfl
@[simp] theorem State.onLanes_twin (s : State) (f : Lane → LaneSt → LaneSt) : (s.onLanes f).twin = s.twin := rfl
@[simp] theorem State.onLanes_lane (s : State) (f : Lane → LaneSt → LaneSt) (n : Lane) : (s.onLanes f).lane n = f n (s.lane n) := by
  cases n <;> rfl
@[simp] theorem State.onM_pending (s : State) (f : ModSt → ModSt) : (s.onM f).pending = s.pending := rfl
@[simp] theorem State.onM_now (s : State) (f : ModSt → ModSt) : (s.onM f).now = s.now := rfl
@[simp] theorem State.onM_free (s : State) (f : ModSt → ModSt) : (s.onM f).free = s.free := rfl
@[simp] theorem State.onM_hold (s : State) (f : ModSt → ModSt) : (s.onM f).hold = s.hold := rfl
@[simp] theorem State.onM_hom (s : State) (f : ModSt → ModSt) : (s.onM f).hom = s.hom := rfl
@[simp] theorem State.onM_meas (s : State) (f : ModSt → ModSt) : (s.onM f).meas = s.meas := rfl
@[simp] theorem State.onM_host (s : State) (f : ModSt → ModSt) : (s.onM f).host = s.host := rfl
@[simp] theorem State.onM_twin (s : State) (f : ModSt → ModSt) : (s.onM f).twin = s.twin := rfl
@[simp] theorem State.onM_m (s : State) (f : ModSt → ModSt) : (s.onM f).m = f s.m := rfl
@[simp] theorem State.onM_lane (s : State) (f : ModSt → ModSt) (n : Lane) : (s.onM f).lane n = s.lane n := by cases n <;> rfl
@[simp] theorem State.at_pending (s : State) (t : Nat) : (s.at_ t).pending = s.pending := rfl
@[simp] theorem State.at_free (s : State) (t : Nat) : (s.at_ t).free = s.free := rfl
@[simp] theorem State.at_m (s : State) (t : Nat) : (s.at_ t).m = s.m := rfl
@[simp] theorem State.at_hold (s : State) (t : Nat) : (s.at_ t).hold = s.hold := rfl
@[simp] theorem State.at_hom (s : State) (t : Nat) : (s.at_ t).hom = s.hom := rfl
@[simp] theorem State.at_meas (s : State) (t : Nat) : (s.at_ t).meas = s.meas := rfl
@[simp] theorem State.at_host (s : State) (t : Nat) : (s.at_ t).host = s.host := rfl
@[simp] theorem State.at_twin (s : State) (t : Nat) : (s.at_ t).twin = s.twin := rfl
@[simp] theorem State.at_now (s : State) (t : Nat) : (s.at_ t).now = max s.now t := rfl
@[simp] theorem State.at_lane (s : State) (t : Nat) (n : Lane) : (s.at_ t).lane n = s.lane n := by cases n <;> rfl

@[simp] theorem State.with_pending_lane (s : State) (x : List Instr) (n : Lane) : ({ s with pending := x } : State).lane n = s.lane n := by cases n <;> rfl
@[simp] theorem State.with_hold_lane (s : State) (x : HoldSt) (n : Lane) : ({ s with hold := x } : State).lane n = s.lane n := by cases n <;> rfl
@[simp] theorem State.with_hom_lane (s : State) (x : HomSt) (n : Lane) : ({ s with hom := x } : State).lane n = s.lane n := by cases n <;> rfl
@[simp] theorem State.with_meas_lane (s : State) (x : MeasSt) (n : Lane) : ({ s with meas := x } : State).lane n = s.lane n := by cases n <;> rfl
@[simp] theorem State.with_host_lane (s : State) (x : HostSt) (n : Lane) : ({ s with host := x } : State).lane n = s.lane n := by cases n <;> rfl
@[simp] theorem State.with_twin_lane (s : State) (x : TwinSt) (n : Lane) : ({ s with twin := x } : State).lane n = s.lane n := by cases n <;> rfl
@[simp] theorem State.with_m_lane (s : State) (x : ModSt) (n : Lane) : ({ s with m := x } : State).lane n = s.lane n := by cases n <;> rfl
@[simp] theorem State.with_free_lane (s : State) (x : Nat) (n : Lane) : ({ s with free := x } : State).lane n = s.lane n := by cases n <;> rfl

/-! ### Sets, links, channels, ports -/

@[simp] theorem LaneSt.onSet_set (l : LaneSt) (x : Axis) (f : SetSt → SetSt) : (l.onSet x f).set x = f (l.set x) := by cases x <;> rfl
@[simp] theorem LaneSt.onLink_link (l : LaneSt) (n p : Lane) (f : LinkIn → LinkIn) : (l.onLink n p f).link n p = f (l.link n p) := by
  unfold LaneSt.onLink LaneSt.link; split <;> rfl
@[simp] theorem NetSt.onChan_chan (x : NetSt) (c : Chan) (f : ChanSt → ChanSt) : (x.onChan c f).chan c = f (x.chan c) := by cases c <;> rfl
@[simp] theorem LaneSt.onSent_sent (l : LaneSt) (p : SentPort) (f : SentSt → SentSt) : (l.onSent p f).sent p = f (l.sent p) := by cases p <;> rfl
@[simp] theorem LaneSt.onSw_sw (l : LaneSt) (p : SwPort) (f : SwSt → SwSt) : (l.onSw p f).sw p = f (l.sw p) := by cases p <;> rfl
@[simp] theorem LaneSt.onCon_con (l : LaneSt) (x : Axis) (f : ConSt → ConSt) : (l.onCon x f).con x = f (l.con x) := by cases x <;> rfl

@[simp] theorem LaneSt.onTerm_term (l : LaneSt) (m : Lane) (x : Axis) (f : SetTerm → SetTerm) : (l.onTerm m x f).term m x = f (l.term m x) := by
  cases m <;> cases x <;> rfl

/-! ### A change after a change, and the other links and sets -/

@[simp] theorem State.onLane_onLane (s : State) (n : Lane) (f g : LaneSt → LaneSt) : (s.onLane n f).onLane n g = s.onLane n (fun l => g (f l)) := by
  cases n <;> rfl

/-- A change of a lane is what it makes of that lane. -/
theorem State.onLane_congr {s : State} {n : Lane} {f g : LaneSt → LaneSt} (h : f (s.lane n) = g (s.lane n)) : s.onLane n f = s.onLane n g := by
  cases n <;> simp only [State.onLane] <;> simp only [State.lane] at h <;> rw [h]

@[simp] theorem State.onLane_self (s : State) (n : Lane) : s.onLane n (fun l => l) = s := by cases n <;> rfl

@[simp] theorem State.onLink_link (s : State) (a n : Lane) (f : LinkIn → LinkIn) : (s.onLink a n f).link a n = f (s.link a n) := by
  simp [State.link]

/-- Changing one incoming link of a lane leaves the incoming links of the others. -/
theorem State.onLink_link_ne (s : State) (a n b : Lane) (f : LinkIn → LinkIn) {k : Lane} (h : k ≠ n) :
    (s.onLink a n f).link b k = s.link b k := by simp [State.link, State.onLink_lane_ne s a n f h]

/-- Changing one set of a lane leaves the other. -/
theorem LaneSt.onSet_set_ne (l : LaneSt) {x y : Axis} (f : SetSt → SetSt) (h : y ≠ x) : (l.onSet x f).set y = l.set y := by
  cases x <;> cases y <;> first | exact absurd rfl h | rfl

end Sys2Proof.Machine
end

