-- ==== Sys2Proof/Laws/Keep.lean ====
section
/-! SUPPORT. What every operation keeps, said once as a relation between two states: the queue and the clock, and for each lane
the invariant, what is one-way, a set Caldera (unless the flag `kc` allows it to clear) and the memory (unless the flag `kw`
allows writes). Each operation of the machine has one lemma of this form; the statements over every command follow from them. -/

namespace Sys2Proof.Machine

/-- The parts of a lane the relation speaks of. -/
structure LaneCore where
  mem : List Host.Cell
  log : List LogEntry
  replies : List (Bool × List Byte)
  serial : BitVec 48
  owner0 : Option (BitVec 256)
  owner1 : Option (BitVec 256)
  retired : Bool
  rollback : List Byte
  caldera : Bool

/-- The parts of a lane the relation speaks of. -/
def LaneSt.core (l : LaneSt) : LaneCore :=
  { mem := l.mem, log := l.log, replies := l.net.replies, serial := l.serial, owner0 := l.sec.owner0, owner1 := l.sec.owner1,
    retired := l.sec.retired, rollback := l.sec.rollback, caldera := l.vote.caldera }

/-- What one lane keeps. -/
structure LaneK (kc kw : Bool) (a b : LaneSt) : Prop where
  sound : a.Sound → b.Sound
  oneWay : LaneSt.OneWay a b
  cal : kc = false → a.vote.caldera = true → b.vote.caldera = true
  mem : kw = false → a.memKept b

/-- What the module keeps. -/
structure Keep (kc kw : Bool) (s t : State) : Prop where
  pending : t.pending = s.pending
  now : t.now = s.now
  lane : ∀ n, LaneK kc kw (s.lane n) (t.lane n)

variable {kc kw : Bool} {s0 s t : State} {a b d : LaneSt}

/-! ### One lane -/

theorem LaneSt.OneWay.refl (a : LaneSt) : LaneSt.OneWay a a := ⟨rfl, fun _ => rfl, fun _ => rfl, id, List.prefix_refl _⟩

theorem LaneSt.OneWay.trans (h : LaneSt.OneWay a b) (k : LaneSt.OneWay b d) : LaneSt.OneWay a d := by
  obtain ⟨h1, h2, h3, h4, h5⟩ := h
  obtain ⟨k1, k2, k3, k4, k5⟩ := k
  refine ⟨k1.trans h1, fun x => ?_, fun x => ?_, fun x => k4 (h4 x), h5.trans k5⟩
  · have e := h2 x; rw [k2 (by rw [e]; exact x), e]
  · have e := h3 x; rw [k3 (by rw [e]; exact x), e]

theorem LaneSt.memKept.refl (a : LaneSt) : a.memKept a := fun _ => .inl rfl

theorem LaneSt.memKept.trans (h : a.memKept b) (k : b.memKept d) : a.memKept d := by
  intro x
  rcases k x with e | ⟨e1, e2⟩
  · rcases h x with f | ⟨f1, f2⟩
    · exact .inl (e.trans f)
    · exact .inr ⟨f1, e.trans f2⟩
  · exact .inr ⟨e1, e2⟩

theorem LaneK.refl (a : LaneSt) : LaneK kc kw a a := ⟨id, .refl a, fun _ => id, fun _ => .refl a⟩

theorem LaneK.trans (h : LaneK kc kw a b) (k : LaneK kc kw b d) : LaneK kc kw a d :=
  ⟨fun x => k.sound (h.sound x), h.oneWay.trans k.oneWay, fun e x => k.cal e (h.cal e x), fun e => (h.mem e).trans (k.mem e)⟩

/-- A change that leaves all these parts alone. -/
theorem LaneK.of_core (h : b.core = a.core) : LaneK kc kw a b := by
  simp only [LaneSt.core, LaneCore.mk.injEq] at h
  obtain ⟨h1, h2, h3, h4, h5, h6, h7, h8, h9⟩ := h
  refine ⟨fun x => ?_, ⟨h4, fun _ => h5, fun _ => h6, fun x => h7 ▸ x, h8 ▸ List.prefix_refl _⟩, fun _ x => h9 ▸ x, fun _ x => ?_⟩
  · unfold LaneSt.Sound; rw [h1, h2, h3]; exact x
  · rw [h1]; exact .inl rfl

/-- A change of two of them that stays in bounds. -/
theorem LaneK.of_bounds (h1 : b.mem = a.mem) (h2 : a.log.length ≤ logSize → b.log.length ≤ logSize)
    (h3 : a.net.replies.length ≤ 32 → b.net.replies.length ≤ 32) (h4 : LaneSt.OneWay a b)
    (h5 : kc = false → a.vote.caldera = true → b.vote.caldera = true) : LaneK kc kw a b := by
  refine ⟨fun x => ?_, h4, h5, fun _ x => ?_⟩
  · obtain ⟨x1, x2, x3⟩ := x
    exact ⟨by rw [h1]; exact x1, h2 x2, h3 x3⟩
  · rw [h1]; exact .inl rfl

theorem LaneK.ite {p : Prop} [Decidable p] {x y : LaneSt} (hx : p → LaneK kc kw a x) (hy : ¬p → LaneK kc kw a y) :
    LaneK kc kw a (if p then x else y) := by
  split
  · exact hx ‹_›
  · exact hy ‹_›

/-- Writing the fault log keeps its bound. -/
theorem LaneK.write (l : LaneSt) (n : Lane) (m : Mode) (t : Nat) (e : LogEv) : LaneK kc kw l (l.write n m t e) := by
  unfold LaneSt.write
  split
  · refine LaneK.of_bounds rfl ?_ id (.refl l) (fun _ => id)
    intro h
    show List.length (match l.log with | [] => [] | x :: r => _) ≤ _
    cases hl : l.log with
    | nil => simp
    | cons x r => rw [hl] at h; simpa using h
  · split
    · refine LaneK.of_bounds rfl ?_ id (.refl l) (fun _ => id)
      intro _; show (_ :: l.log).length ≤ _; simp only [List.length_cons]; omega
    · refine LaneK.of_bounds rfl ?_ id (.refl l) (fun _ => id)
      intro _; show (_ :: l.log.take (logSize - 1)).length ≤ _; simp only [List.length_cons, List.length_take]; unfold logSize; omega

theorem LaneSt.onSet_core (l : LaneSt) (x : Axis) (f : SetSt → SetSt) : (l.onSet x f).core = l.core := by cases x <;> rfl
theorem LaneSt.onLink_core (l : LaneSt) (n p : Lane) (f : LinkIn → LinkIn) : (l.onLink n p f).core = l.core := by
  unfold LaneSt.onLink; split <;> rfl
theorem LaneSt.onSent_core (l : LaneSt) (p : SentPort) (f : SentSt → SentSt) : (l.onSent p f).core = l.core := by cases p <;> rfl
theorem LaneSt.onSw_core (l : LaneSt) (p : SwPort) (f : SwSt → SwSt) : (l.onSw p f).core = l.core := by cases p <;> rfl
theorem LaneSt.onCon_core (l : LaneSt) (x : Axis) (f : ConSt → ConSt) : (l.onCon x f).core = l.core := by cases x <;> rfl
theorem LaneSt.onSlot_core (l : LaneSt) (k : BitVec 2) (f : SlotSt → SlotSt) : (l.onSlot k f).core = l.core := by
  unfold LaneSt.onSlot; repeat' split
  all_goals rfl
theorem LaneSt.onTerm_core (l : LaneSt) (m : Lane) (x : Axis) (f : SetTerm → SetTerm) : (l.onTerm m x f).core = l.core := by
  cases m <;> rfl
theorem NetSt.onChan_replies (x : NetSt) (k : Chan) (f : ChanSt → ChanSt) : (x.onChan k f).replies = x.replies := by cases k <;> rfl
theorem VoteSt.setOn_caldera (v : VoteSt) (n : Lane) (o : VoteOut) : (v.setOn n o).caldera = v.caldera := by cases n <;> rfl

/-! ### The module -/

theorem Keep.refl (s : State) : Keep kc kw s s := ⟨rfl, rfl, fun _ => .refl _⟩

theorem Keep.trans {r : State} (h : Keep kc kw r s) (k : Keep kc kw s t) : Keep kc kw r t :=
  ⟨k.pending.trans h.pending, k.now.trans h.now, fun n => (h.lane n).trans (k.lane n)⟩

/-- More may change where a flag allows it. -/
theorem Keep.weaken {kc' kw' : Bool} (h : Keep kc kw s t) (hc : kc' = false → kc = false) (hw : kw' = false → kw = false) :
    Keep kc' kw' s t :=
  ⟨h.pending, h.now, fun n => ⟨(h.lane n).sound, (h.lane n).oneWay, fun e => (h.lane n).cal (hc e), fun e => (h.lane n).mem (hw e)⟩⟩

theorem Keep.ite {p : Prop} [Decidable p] {x y : State} (hx : p → Keep kc kw s0 x) (hy : ¬p → Keep kc kw s0 y) :
    Keep kc kw s0 (if p then x else y) := by
  split
  · exact hx ‹_›
  · exact hy ‹_›

theorem Keep.foldl {α : Type} {l : List α} {f : State → α → State} (h : Keep kc kw s0 s)
    (hf : ∀ s x, Keep kc kw s0 s → Keep kc kw s0 (f s x)) : Keep kc kw s0 (l.foldl f s) := by
  induction l generalizing s with
  | nil => exact h
  | cons x r ih => exact ih (hf s x h)

theorem Keep.forLanes {f : State → Lane → State} (h : Keep kc kw s0 s)
    (hf : ∀ s n, Keep kc kw s0 s → Keep kc kw s0 (f s n)) : Keep kc kw s0 (s.forLanes f) :=
  h.foldl hf

/-- Everything but the queue, the clock and the lanes may change. -/
theorem Keep.rest (h : Keep kc kw s0 s) (f : Nat) (m : ModSt) (hd : HoldSt) (hm : HomSt) (me : MeasSt) (ho : HostSt) (tw : TwinSt) :
    Keep kc kw s0 ⟨s.pending, s.now, f, s.l1, s.l2, s.l3, m, hd, hm, me, ho, tw⟩ :=
  ⟨h.pending, h.now, fun n => by have := h.lane n; cases n <;> exact this⟩

theorem Keep.onLane {n : Lane} {f : LaneSt → LaneSt} (h : Keep kc kw s0 s) (hf : LaneK kc kw (s.lane n) (f (s.lane n))) :
    Keep kc kw s0 (s.onLane n f) := by
  refine ⟨(State.onLane_pending ..).trans h.pending, (State.onLane_now ..).trans h.now, fun k => ?_⟩
  by_cases hk : k = n
  · subst hk; rw [State.onLane_lane]; exact (h.lane k).trans hf
  · rw [State.onLane_lane_ne _ _ _ hk]; exact h.lane k

theorem Keep.onLanes {f : Lane → LaneSt → LaneSt} (h : Keep kc kw s0 s) (hf : ∀ n l, LaneK kc kw l (f n l)) :
    Keep kc kw s0 (s.onLanes f) :=
  ⟨h.pending, h.now, fun k => by rw [State.onLanes_lane]; exact (h.lane k).trans (hf k _)⟩

theorem Keep.onM {f : ModSt → ModSt} (h : Keep kc kw s0 s) : Keep kc kw s0 (s.onM f) := h.rest ..
theorem Keep.onSet {n : Lane} {x : Axis} {f : SetSt → SetSt} (h : Keep kc kw s0 s) : Keep kc kw s0 (s.onSet n x f) :=
  h.onLane (.of_core (LaneSt.onSet_core ..))
theorem Keep.onLink {m n : Lane} {f : LinkIn → LinkIn} (h : Keep kc kw s0 s) : Keep kc kw s0 (s.onLink m n f) :=
  h.onLane (.of_core (LaneSt.onLink_core ..))
theorem Keep.onNet {n : Lane} {f : NetSt → NetSt} (h : Keep kc kw s0 s) (hf : ∀ x, (f x).replies = x.replies) :
    Keep kc kw s0 (s.onNet n f) :=
  h.onLane (.of_core (by simp only [LaneSt.core, hf]))
theorem Keep.onChan {n : Lane} {k : Chan} {f : ChanSt → ChanSt} (h : Keep kc kw s0 s) : Keep kc kw s0 (s.onChan n k f) :=
  h.onNet (fun _ => NetSt.onChan_replies ..)
theorem Keep.onSup {n : Lane} {f : SupplySt → SupplySt} (h : Keep kc kw s0 s) : Keep kc kw s0 (s.onSup n f) := h.onLane (.of_core rfl)
theorem Keep.onCtr {n : Lane} {f : CtrSt → CtrSt} (h : Keep kc kw s0 s) : Keep kc kw s0 (s.onCtr n f) := h.onLane (.of_core rfl)
theorem Keep.onProf {n : Lane} {f : ProfSt → ProfSt} (h : Keep kc kw s0 s) : Keep kc kw s0 (s.onProf n f) := h.onLane (.of_core rfl)
theorem Keep.onRst {n : Lane} {f : ResetSt → ResetSt} (h : Keep kc kw s0 s) : Keep kc kw s0 (s.onRst n f) := h.onLane (.of_core rfl)
theorem Keep.onVote {n : Lane} {f : VoteSt → VoteSt} (h : Keep kc kw s0 s)
    (hf : ∀ v, kc = false → v.caldera = true → (f v).caldera = true) : Keep kc kw s0 (s.onVote n f) :=
  h.onLane (.of_bounds rfl id id (.refl _) (hf _))

/-- What a security section keeps. -/
def SecSt.OneWay (a b : SecSt) : Prop :=
  (a.owner0.isSome = true → b.owner0 = a.owner0) ∧ (a.owner1.isSome = true → b.owner1 = a.owner1) ∧
  (a.retired = true → b.retired = true) ∧ a.rollback <+: b.rollback

theorem SecSt.OneWay.of_eq {a b : SecSt} (h0 : b.owner0 = a.owner0) (h1 : b.owner1 = a.owner1) (h2 : b.retired = a.retired)
    (h3 : b.rollback = a.rollback) : SecSt.OneWay a b :=
  ⟨fun _ => h0, fun _ => h1, fun h => h2.trans h, h3 ▸ List.prefix_refl _⟩

theorem Keep.onSec {n : Lane} {f : SecSt → SecSt} (h : Keep kc kw s0 s) (hf : ∀ x, SecSt.OneWay x (f x)) :
    Keep kc kw s0 (s.onSec n f) :=
  h.onLane (.of_bounds rfl id id ⟨rfl, hf _⟩ (fun _ => id))

theorem Keep.log {n : Lane} {k : Half} {ad : Word} {ctx : Dword} (h : Keep kc kw s0 s) : Keep kc kw s0 (s.log n k ad ctx) :=
  h.onLane (.write ..)

theorem Keep.rest_iff {f : Nat} {m : ModSt} {hd : HoldSt} {hm : HomSt} {me : MeasSt} {ho : HostSt} {tw : TwinSt} :
    Keep kc kw s0 ⟨s.pending, s.now, f, s.l1, s.l2, s.l3, m, hd, hm, me, ho, tw⟩ ↔ Keep kc kw s0 s :=
  ⟨fun h => h.rest s.free s.m s.hold s.hom s.meas s.host s.twin, fun h => h.rest ..⟩

/-- An outcome that keeps what the module keeps. -/
def OutK (kc kw : Bool) (s : State) (o : Host.Outcome State Fault Refusal) : Prop := ∃ t, o = .next t ∧ Keep kc kw s t

theorem OutK.done (h : Keep kc kw s0 s) : OutK kc kw s0 (done s) := ⟨s, rfl, h⟩

theorem OutK.ite {p : Prop} [Decidable p] {x y : Host.Outcome State Fault Refusal} (hx : p → OutK kc kw s0 x) (hy : ¬p → OutK kc kw s0 y) :
    OutK kc kw s0 (if p then x else y) := by
  split
  · exact hx ‹_›
  · exact hy ‹_›

end Sys2Proof.Machine
end

