-- ==== Sys2Proof/Laws/KeepOps.lean ====
section
/-! SUPPORT. One lemma for each operation over the state: it keeps what the module keeps. -/

namespace Sys2Proof.Machine

variable {kc kw : Bool} {s0 s : State}

theorem State.onTerm_keep {n m : Lane} {x : Axis} {f : SetTerm → SetTerm} (hK : Keep kc kw s0 s) : Keep kc kw s0 (State.onTerm s n m x f) := by
  unfold State.onTerm
  refine Keep.onLane hK (.of_core ?_)
  exact LaneSt.onTerm_core ..

/-! ### Single pieces -/

theorem LaneSt.queueReply_keep (l : LaneSt) (okReply : Bool) (b : List Byte) : LaneK kc kw l (l.queueReply okReply b) := by
  unfold LaneSt.queueReply
  dsimp only
  split
  · refine LaneK.of_bounds rfl id ?_ (.refl l) (fun _ => id)
    intro _; show (l.net.replies ++ [_]).length ≤ 32; rw [List.length_append]; simp only [List.length_singleton]; omega
  · refine LaneK.of_bounds rfl id ?_ (.refl l) (fun _ => id)
    intro h; show (l.net.replies.eraseIdx _ ++ [_]).length ≤ 32
    rw [List.length_append, List.length_eraseIdx]; simp only [List.length_singleton]
    cases hf : List.findIdx? (fun x : Bool × List Byte => x.1) l.net.replies with
    | none => simp only [Option.getD_none]; split <;> omega
    | some i =>
      have hi := (List.findIdx?_eq_some_iff_findIdx_eq.mp hf).1
      simp only [Option.getD_some, hi, if_true]; omega

theorem LaneSt.noteRequest_core (l : LaneSt) (op : Half) (r : Req) (t : Nat) : (l.noteRequest op r t).core = l.core := by
  unfold LaneSt.noteRequest
  split
  · rfl
  · split
    · rfl
    · split <;> rfl

theorem LaneSt.disarm_floatLegs_core (l : LaneSt) : l.floatLegs.disarm.core = l.core := rfl

theorem SecSt.fuse_oneWay (x : SecSt) (b : List Byte) : SecSt.OneWay x (x.fuse b) := by
  unfold SecSt.fuse
  refine ⟨fun h => ?_, fun h => ?_, fun h => ?_, List.prefix_refl _⟩
  · cases ho : x.owner0 with
    | none => rw [ho] at h; cases h
    | some v => show (if _ then _ else _) = _; split <;> simp
  · cases ho : x.owner1 with
    | none => rw [ho] at h; cases h
    | some v => show (if _ then _ else _) = _; split <;> simp
  · show (x.retired || _) = true; rw [h]; rfl

theorem LaneSt.clearLog_keep (l : LaneSt) : LaneK kc kw l l.clearLog :=
  LaneK.of_bounds rfl (fun _ => Nat.zero_le _) id (.refl l) (fun _ => id)

theorem LaneSt.clearCounters_keep (l : LaneSt) : LaneK kc kw l l.clearCounters := LaneK.of_core rfl

/-- A lane that writes bytes to its memory. -/
theorem LaneK.of_writeBytes {a b : LaneSt} {x : Nat} {d : List Byte} (hw : kw = true) (h1 : b.mem = Memory.writeBytes a.mem x d)
    (h2 : b.log = a.log) (h3 : b.net.replies = a.net.replies) (h4 : LaneSt.OneWay a b) (h5 : b.vote.caldera = a.vote.caldera) :
    LaneK kc kw a b := by
  refine ⟨fun h => ?_, h4, fun _ h => h5.trans h, fun e => absurd (hw.symm.trans e) (by decide)⟩
  unfold LaneSt.Sound
  rw [h1, h2, h3]
  exact ⟨Memory.writeBytes_wf _ _ h.1, h.2⟩

theorem LaneSt.putChunk_keep (hw : kw = true) (l : LaneSt) (x : Xfer) (off : Nat) (data : List Byte) :
    LaneK kc kw l (l.putChunk x off data) :=
  LaneK.of_writeBytes hw rfl rfl rfl (.refl l) rfl

theorem LaneSt.activate_core (l : LaneSt) : l.activate.core = l.core := by
  unfold LaneSt.activate
  dsimp only
  split <;> rfl

/-- A reset lane keeps its fault log, its one-time programmable memory and what of its memory survives; its Caldera unless the
cause is one that clears it. -/
theorem LaneSt.afterReset_keep (l : LaneSt) : LaneK kc kw l l.afterReset := by
  refine ⟨fun h => ⟨Memory.filter_wf _ h.1, h.2.1, Nat.zero_le _⟩, ⟨rfl, fun _ => rfl, fun _ => rfl, id, List.prefix_refl _⟩, fun _ => id,
    fun _ a => ?_⟩
  have h := Memory.read_filter l.mem keptAt a
  show Memory.read (l.mem.filter (fun c => keptAt c.1)) a = _ ∨ _
  by_cases hk : keptAt a = true
  · exact .inl (h.trans (if_pos hk))
  · exact .inr ⟨by simpa using hk, h.trans (if_neg hk)⟩

theorem NetSt.putVersion_replies (x : NetSt) (k : BitVec 5) (a : Bool) (v w : Nat) : (x.putVersion k a v w).replies = x.replies := by
  unfold NetSt.putVersion
  split <;> rfl

theorem LaneSt.takeTemps_core (l : LaneSt) (a b : Int) : (l.takeTemps a b).core = l.core := by
  unfold LaneSt.takeTemps
  dsimp only
  repeat' split
  all_goals rfl

theorem LaneSt.servoEdge_core (l : LaneSt) (e : EdgeSample) : (l.servoEdge e).core = l.core := by
  unfold LaneSt.servoEdge
  dsimp only
  split
  · rfl
  · exact (show _ = LaneSt.core (LaneSt.onSet l e.axis _) from rfl).trans (LaneSt.onSet_core ..)

theorem LaneSt.servoEdges_core (l : LaneSt) (es : List EdgeSample) : (es.foldl LaneSt.servoEdge l).core = l.core := by
  induction es generalizing l with
  | nil => rfl
  | cons e r ih => exact (ih _).trans (LaneSt.servoEdge_core ..)

/-! ### Answers -/

/-- An answer whose state keeps what the module keeps. -/
def AnsK (kc kw : Bool) (s0 : State) : Answer → Prop
  | .err _ _ => True
  | .fail s _ _ => Keep kc kw s0 s
  | .ok s _ => Keep kc kw s0 s
  | .pending s _ => Keep kc kw s0 s
  | .later s => Keep kc kw s0 s

theorem AnsK.ite {p : Prop} [Decidable p] {x y : Answer} (hx : p → AnsK kc kw s0 x) (hy : ¬p → AnsK kc kw s0 y) :
    AnsK kc kw s0 (if p then x else y) := by
  split
  · exact hx ‹_›
  · exact hy ‹_›

/-- A handler whose answers keep what the module keeps. -/
def HandK (kc kw : Bool) (h : Handler) : Prop := ∀ s0 s n c, Keep kc kw s0 s → AnsK kc kw s0 (h s n c)

/-- The part of the lanes that do not answer, keeping what the module keeps. -/
def PeerK (kc kw : Bool) (p : PeerPart) : Prop := ∀ s0 s n c, Keep kc kw s0 s → Keep kc kw s0 (p s n c)

theorem PeerK.noPart : PeerK kc kw noPart := fun _ _ _ _ h => h

/-! ### The operations -/

theorem State.logLeader_keep {code : Half} {addr : Word} {ctx : Dword} (hK : Keep kc kw s0 s) : Keep kc kw s0 (State.logLeader s code addr ctx) := by
  unfold State.logLeader
  repeat' first
    | with_reducible assumption | with_reducible apply Keep.log

theorem State.logModule_keep {n : Lane} {code : Half} {addr : Word} {ctx : Dword} (hK : Keep kc kw s0 s) : Keep kc kw s0 (State.logModule s n code addr ctx) := by
  unfold State.logModule
  repeat' first
    | with_reducible assumption | with_reducible apply Keep.ite | with_reducible apply Keep.log | extract_lets | intro _

theorem State.markBit_keep {n : Lane} {k : Nat} (hK : Keep kc kw s0 s) : Keep kc kw s0 (State.markBit s n k) := by
  unfold State.markBit
  repeat' first
    | with_reducible assumption | with_reducible apply Keep.onCtr

theorem State.cast_keep {v n : Lane} {reason : BitVec 4} (hK : Keep kc kw s0 s) : Keep kc kw s0 (State.cast s v n reason) := by
  unfold State.cast
  repeat' first
    | with_reducible assumption | with_reducible apply Keep.ite | with_reducible apply Keep.onVote | extract_lets
    | (intro _ _ hv; exact (VoteSt.setOn_caldera ..).trans hv) | (intros; assumption) | intro _

theorem State.castIsolated_keep {v n : Lane} (hK : Keep kc kw s0 s) : Keep kc kw s0 (State.castIsolated s v n) := by
  unfold State.castIsolated
  repeat' first
    | with_reducible assumption | with_reducible apply Keep.ite | with_reducible apply Keep.onVote | extract_lets
    | (intro _ _ hv; exact (VoteSt.setOn_caldera ..).trans hv) | (intros; assumption) | intro _

theorem State.withdraw_keep {v n : Lane} (hK : Keep kc kw s0 s) : Keep kc kw s0 (State.withdraw s v n) := by
  unfold State.withdraw
  repeat' first
    | with_reducible assumption | with_reducible apply Keep.onVote | extract_lets | (intro _ _ hv; exact (VoteSt.setOn_caldera ..).trans hv)

theorem State.closeDisputes_keep {n : Lane} (hK : Keep kc kw s0 s) : Keep kc kw s0 (State.closeDisputes s n) := by
  unfold State.closeDisputes
  repeat' first
    | with_reducible assumption | with_reducible apply Keep.onLanes | extract_lets | exact LaneK.of_core rfl | intro _

theorem State.withdrawFor_keep {v n : Lane} (hK : Keep kc kw s0 s) : Keep kc kw s0 (State.withdrawFor s v n) := by
  unfold State.withdrawFor
  repeat' first
    | with_reducible assumption | with_reducible apply State.withdraw_keep | with_reducible apply Keep.onVote | extract_lets
    | (intros; assumption)

theorem State.setRole_keep {n : Lane} {r : Role} {leader : Option Lane} (hK : Keep kc kw s0 s) : Keep kc kw s0 (State.setRole s n r leader) := by
  unfold State.setRole
  repeat' first
    | with_reducible assumption | with_reducible apply Keep.ite | with_reducible apply Keep.onLane | with_reducible apply Keep.log
    | extract_lets | exact LaneK.of_core rfl | intro _

theorem State.floatAll_keep  (hK : Keep kc kw s0 s) : Keep kc kw s0 (State.floatAll s) := by
  unfold State.floatAll
  repeat' first
    | with_reducible assumption | with_reducible apply Keep.onLanes | with_reducible apply Keep.onM | extract_lets
    | (simp only [Keep.rest_iff]) | exact LaneK.of_core rfl | intro _

theorem State.abortMeasure_keep {n : Lane} {x : Axis} (hK : Keep kc kw s0 s) : Keep kc kw s0 (State.abortMeasure s n x) := by
  unfold State.abortMeasure
  repeat' first
    | with_reducible assumption | with_reducible apply Keep.ite | with_reducible apply State.floatAll_keep | with_reducible apply Keep.log
    | extract_lets | (simp only [Keep.rest_iff]) | (intros; assumption) | intro _ | dsimp +zetaDelta only

theorem State.endLoad_keep  (hK : Keep kc kw s0 s) : Keep kc kw s0 (State.endLoad s) := by
  unfold State.endLoad
  repeat' first
    | with_reducible assumption | with_reducible apply State.abortMeasure_keep

theorem State.leaveActive_keep {n : Lane} {st : LaneState} (hK : Keep kc kw s0 s) : Keep kc kw s0 (State.leaveActive s n st) := by
  unfold State.leaveActive
  dsimp only
  refine Keep.onM (Keep.onLane (State.setRole_keep (State.abortMeasure_keep (State.abortMeasure_keep hK))) ?_)
  exact LaneK.of_bounds rfl id (fun _ => Nat.zero_le _) (.refl _) (fun _ => id)

theorem State.isolate_keep {n : Lane} {code : Half} (hK : Keep kc kw s0 s) : Keep kc kw s0 (State.isolate s n code) := by
  unfold State.isolate
  repeat' first
    | with_reducible assumption | with_reducible apply State.leaveActive_keep | with_reducible apply Keep.log

theorem State.setCaldera_keep {n : Lane} {path : Nat} (hK : Keep kc kw s0 s) : Keep kc kw s0 (State.setCaldera s n path) := by
  unfold State.setCaldera
  repeat' first
    | with_reducible assumption | with_reducible apply State.closeDisputes_keep | with_reducible apply State.leaveActive_keep
    | with_reducible apply Keep.onVote | with_reducible apply Keep.log | extract_lets | (simp only [Keep.rest_iff])
    | (intro _ _ _; beta_reduce)

theorem State.quenchRequest_keep {n : Lane} (hK : Keep kc kw s0 s) : Keep kc kw s0 (State.quenchRequest s n) := by
  unfold State.quenchRequest
  repeat' first
    | with_reducible assumption | with_reducible apply Keep.ite | with_reducible apply State.cast_keep
    | with_reducible apply State.setCaldera_keep | with_reducible apply Keep.onVote | with_reducible apply Keep.foldl | extract_lets
    | (simp only [Keep.rest_iff]) | (intros; assumption) | (intro _ _ _; beta_reduce) | intro _

theorem State.adopt_keep {n : Lane} {e : Half} (hK : Keep kc kw s0 s) : Keep kc kw s0 (State.adopt s n e) := by
  unfold State.adopt
  repeat' first
    | with_reducible assumption | with_reducible apply Keep.onLane | extract_lets | exact LaneK.of_core rfl

theorem State.setMode_keep {md : Mode} (hK : Keep kc kw s0 s) : Keep kc kw s0 (State.setMode s md) := by
  unfold State.setMode
  repeat' first
    | with_reducible assumption | with_reducible apply Keep.ite | with_reducible apply State.logLeader_keep | with_reducible apply Keep.onM
    | extract_lets | intro _

theorem State.takeEffect_keep {e : Machine.Takes} (hK : Keep kc kw s0 s) : Keep kc kw s0 (State.takeEffect s e) := by
  unfold State.takeEffect
  repeat' first
    | with_reducible assumption | with_reducible apply Keep.onLanes | extract_lets | exact LaneK.of_core rfl | intro _
    | with_reducible apply LaneK.ite

theorem State.takeEffectIn_keep {n : Lane} {e : Machine.Takes} (hK : Keep kc kw s0 s) : Keep kc kw s0 (State.takeEffectIn s n e) := by
  unfold State.takeEffectIn
  repeat' first
    | with_reducible assumption | with_reducible apply Keep.onLane | extract_lets | exact LaneK.of_core rfl

theorem State.requestStop_keep  (hK : Keep kc kw s0 s) : Keep kc kw s0 (State.requestStop s) := by
  unfold State.requestStop
  repeat' first
    | with_reducible assumption | with_reducible apply Keep.ite | with_reducible apply State.logLeader_keep | with_reducible apply Keep.onM
    | extract_lets | (intros; assumption) | intro _

theorem State.enterLimp_keep {n : Lane} (hK : Keep kc kw s0 s) : Keep kc kw s0 (State.enterLimp s n) := by
  unfold State.enterLimp
  repeat' first
    | with_reducible assumption | with_reducible apply State.logModule_keep | with_reducible apply State.setMode_keep
    | with_reducible apply State.takeEffect_keep | with_reducible apply State.requestStop_keep | with_reducible apply Keep.onM

theorem State.enterRun_keep  (hK : Keep kc kw s0 s) : Keep kc kw s0 (State.enterRun s) := by
  unfold State.enterRun
  repeat' first
    | with_reducible assumption | with_reducible apply State.setMode_keep | with_reducible apply Keep.onM

theorem State.checkLimp_keep  (hK : Keep kc kw s0 s) : Keep kc kw s0 (State.checkLimp s) := by
  unfold State.checkLimp
  repeat' first
    | with_reducible assumption | with_reducible apply Keep.ite | with_reducible apply State.enterLimp_keep | with_reducible apply Keep.onM
    | extract_lets | (intros; assumption) | intro _

theorem State.reform_keep {n : Lane} (hK : Keep kc kw s0 s) : Keep kc kw s0 (State.reform s n) := by
  unfold State.reform
  repeat' first
    | with_reducible assumption | with_reducible apply Keep.onLane | extract_lets | exact LaneK.of_core rfl

theorem State.reformAll_keep  (hK : Keep kc kw s0 s) : Keep kc kw s0 (State.reformAll s) := by
  unfold State.reformAll
  repeat' first
    | with_reducible assumption | with_reducible apply Keep.ite | with_reducible apply State.reform_keep
    | with_reducible apply Keep.forLanes | extract_lets | (intros; assumption) | (intro _ _ _; beta_reduce) | intro _

theorem State.lostSet_keep {n : Lane} (hK : Keep kc kw s0 s) : Keep kc kw s0 (State.lostSet s n) := by
  unfold State.lostSet
  repeat' first
    | with_reducible assumption | with_reducible apply Keep.ite | with_reducible apply State.abortMeasure_keep
    | with_reducible apply State.reform_keep | extract_lets | (simp only [Keep.rest_iff]) | intro _

theorem State.dropSet_keep {n : Lane} {x : Axis} (hK : Keep kc kw s0 s) : Keep kc kw s0 (State.dropSet s n x) := by
  unfold State.dropSet
  repeat' first
    | with_reducible assumption | with_reducible apply State.lostSet_keep | with_reducible apply Keep.onSet

theorem State.pushItem_keep {n p : Lane} {b : List Byte} (hK : Keep kc kw s0 s) : Keep kc kw s0 (State.pushItem s n p b) := by
  unfold State.pushItem
  repeat' first
    | with_reducible assumption | with_reducible apply Keep.onLink

theorem State.pushBoth_keep {n : Lane} {b : List Byte} (hK : Keep kc kw s0 s) : Keep kc kw s0 (State.pushBoth s n b) := by
  unfold State.pushBoth
  repeat' first
    | with_reducible assumption | with_reducible apply State.pushItem_keep

theorem State.pushBothFirst_keep {n : Lane} {b : List Byte} (hK : Keep kc kw s0 s) : Keep kc kw s0 (State.pushBothFirst s n b) := by
  unfold State.pushBothFirst
  repeat' first
    | with_reducible assumption | with_reducible apply Keep.onLink

theorem State.dropItem_keep {src dst : Lane} {type : Byte} (hK : Keep kc kw s0 s) : Keep kc kw s0 (State.dropItem s src dst type) := by
  unfold State.dropItem
  repeat' first
    | with_reducible assumption | with_reducible apply Keep.onLink

theorem State.onNext_keep {src dst : Lane} {type : Byte} {f : State → List Byte → State}
    (hf : ∀ s b, Keep kc kw s0 s → Keep kc kw s0 (f s b)) (hK : Keep kc kw s0 s) : Keep kc kw s0 (State.onNext s src dst type f) := by
  unfold State.onNext
  refine Keep.ite (fun _ => hK) (fun _ => ?_)
  split
  · exact hf _ _ (State.dropItem_keep hK)
  · exact hK

theorem State.onItem_keep {src dst : Lane} {type : Byte} {item : List Byte} {f : State → List Byte → State}
    (hf : ∀ s b, Keep kc kw s0 s → Keep kc kw s0 (f s b)) (hK : Keep kc kw s0 s) :
    Keep kc kw s0 (State.onItem s src dst type item f) := by
  unfold State.onItem
  exact Keep.ite (fun _ => State.onNext_keep hf hK) (fun _ => hK)

theorem State.sendSnapshot_keep {n p : Lane} (hK : Keep kc kw s0 s) : Keep kc kw s0 (State.sendSnapshot s n p) := by
  unfold State.sendSnapshot
  repeat' first
    | with_reducible assumption | with_reducible apply State.pushItem_keep | with_reducible apply Keep.onLane | extract_lets
    | exact LaneK.of_core rfl

theorem State.sendReply_keep {n : Lane} {c : Carriage} {okReply : Bool} {b : List Byte} (hK : Keep kc kw s0 s) :
    Keep kc kw s0 (State.sendReply s n c okReply b) := by
  unfold State.sendReply
  split
  · exact Keep.onLane hK (LaneSt.queueReply_keep ..)
  · exact hK.rest ..

theorem State.replyError_keep {n : Lane} {op : Half} {r : Req} {st0 : Byte} {addr : Word} (hK : Keep kc kw s0 s) :
    Keep kc kw s0 (State.replyError s n op r st0 addr) := by
  unfold State.replyError
  exact Keep.onLane (State.sendReply_keep hK) (LaneK.write ..)

theorem State.reply_keep {n : Lane} {op : Half} {r : Req} {a : Answer} (hK : Keep kc kw s0 s) (ha : AnsK kc kw s0 a) :
    Keep kc kw s0 (State.reply s n op r a) := by
  unfold State.reply
  split
  · exact State.replyError_keep hK
  · exact State.replyError_keep ha
  · split
    · exact Keep.rest ha ..
    · exact State.sendReply_keep ha
  · exact State.sendReply_keep ha
  · exact Keep.rest ha ..

theorem State.noteAccepted_keep  (hK : Keep kc kw s0 s) : Keep kc kw s0 (State.noteAccepted s) := by
  unfold State.noteAccepted
  repeat' first
    | with_reducible assumption | with_reducible apply Keep.ite | with_reducible apply Keep.onM | extract_lets | (intros; assumption)
    | intro _

theorem State.noteSpread_keep {op : Half} {r : Req} (hK : Keep kc kw s0 s) : Keep kc kw s0 (State.noteSpread s op r) := by
  unfold State.noteSpread
  repeat' first
    | with_reducible assumption | with_reducible apply Keep.ite | with_reducible apply Keep.onLanes | extract_lets | exact LaneK.of_core rfl
    | (intros; assumption) | intro _ | with_reducible apply LaneK.ite

theorem State.answer_keep {n : Lane} {op : Half} {r : Req} {h : Handler} (hh : HandK kc kw h) (hK : Keep kc kw s0 s) :
    AnsK kc kw s0 (s.answer n op r h) := by
  unfold State.answer
  split
  · exact True.intro
  · split
    · exact AnsK.ite (fun _ => True.intro) (fun _ => hh _ _ _ _ hK)
    · exact hh _ _ _ _ hK

theorem State.fcpAnswer_keep {n : Lane} {op : Half} {r : Req} {h : Handler} (hh : HandK kc kw h) (hK : Keep kc kw s0 s) :
    Keep kc kw s0 (State.fcpAnswer s n op r h) := by
  unfold State.fcpAnswer
  have k : Keep kc kw s0 ((s.reply n op r (s.answer n op r h)).onLane n (fun l => l.noteRequest op r s.now)) :=
    Keep.onLane (State.reply_keep hK (State.answer_keep hh hK)) (.of_core (LaneSt.noteRequest_core ..))
  dsimp only
  split
  · exact k
  · exact k
  · exact State.noteAccepted_keep (State.noteSpread_keep k)

theorem State.fcpOther_keep {n : Lane} {ans : Option Lane} {op : Half} {r : Req} {peer : PeerPart} (hp : PeerK kc kw peer)
    (hK : Keep kc kw s0 s) : Keep kc kw s0 (State.fcpOther s n ans op r peer) := by
  unfold State.fcpOther
  refine Keep.ite (fun _ => Keep.onLane hK (.of_core ?_)) (fun _ => Keep.onLane ?_ (.of_core (LaneSt.noteRequest_core ..)))
  · exact (show _ = ((s.lane n).noteRequest op r s.now).core from rfl).trans (LaneSt.noteRequest_core ..)
  · exact Keep.ite (fun _ => hp _ _ _ _ hK) (fun _ => hK)

theorem State.fcpHear_keep {n : Lane} {ans : Option Lane} {op : Half} {r : Req} {peer : PeerPart} (hp : PeerK kc kw peer)
    (hK : Keep kc kw s0 s) : Keep kc kw s0 (State.fcpHear s n ans op r peer) := by
  unfold State.fcpHear
  exact Keep.ite (fun _ => Keep.onCtr hK) (fun _ => Keep.ite (fun _ => hK) (fun _ => State.fcpOther_keep hp hK))

theorem State.fcpLane_keep {n : Lane} {ans : Option Lane} {op : Half} {r : Req} {h : Handler} {peer : PeerPart}
    (hh : HandK kc kw h) (hp : PeerK kc kw peer) (hK : Keep kc kw s0 s) : Keep kc kw s0 (State.fcpLane s n ans op r h peer) := by
  unfold State.fcpLane
  exact Keep.ite (fun _ => State.fcpAnswer_keep hh hK) (fun _ => State.fcpHear_keep hp hK)

theorem State.fcpPeers_keep {ans : Option Lane} {op : Half} {r : Req} {peer : PeerPart} (hp : PeerK kc kw peer)
    (hK : Keep kc kw s0 s) : Keep kc kw s0 (State.fcpPeers s ans op r peer) := by
  unfold State.fcpPeers
  exact Keep.foldl hK (fun _ _ k => Keep.ite (fun _ => k) (fun _ => State.fcpHear_keep hp k))

theorem State.met_keep {op : Half} {r : Req} {peer : PeerPart} (hp : PeerK kc kw peer) (hK : Keep kc kw s0 (s.at_ r.at_)) :
    Keep kc kw s0 (State.met s op r peer) :=
  State.fcpPeers_keep hp hK

theorem State.fcp_keep {op : Half} {r : Req} {h : Handler} {peer : PeerPart} (hh : HandK kc kw h) (hp : PeerK kc kw peer)
    (hK : Keep kc kw s0 (s.at_ r.at_)) : Keep kc kw s0 (State.fcp s op r h peer) := by
  unfold State.fcp
  split
  · exact State.fcpLane_keep hh hp (State.met_keep hp hK)
  · exact State.met_keep hp hK

theorem State.agreeSent_keep {n : Lane} {p : SentPort} {step : Bool} (hK : Keep kc kw s0 s) : Keep kc kw s0 (State.agreeSent s n p step) := by
  unfold State.agreeSent
  repeat' first
    | with_reducible assumption | with_reducible apply Keep.ite | with_reducible apply Keep.onLane | with_reducible apply Keep.log
    | extract_lets | exact LaneK.of_core (LaneSt.onSent_core ..) | intro _

theorem State.agreeQuad_keep {n : Lane} (hK : Keep kc kw s0 s) : Keep kc kw s0 (State.agreeQuad s n) := by
  unfold State.agreeQuad
  repeat' first
    | with_reducible assumption | with_reducible apply Keep.ite | with_reducible apply Keep.onLane | with_reducible apply Keep.log
    | extract_lets | (simp only [Keep.rest_iff]) | exact LaneK.of_core rfl | intro _

theorem State.armSlot_keep {n : Lane} {k : BitVec 2} (hK : Keep kc kw s0 s) : Keep kc kw s0 (State.armSlot s n k) := by
  unfold State.armSlot
  repeat' first
    | with_reducible assumption | with_reducible apply Keep.ite | with_reducible apply Keep.onLane | with_reducible apply Keep.log
    | extract_lets | exact LaneK.of_core (LaneSt.onSlot_core ..) | intro _

theorem State.reslot_keep {n : Lane} (hK : Keep kc kw s0 s) : Keep kc kw s0 (State.reslot s n) := by
  unfold State.reslot
  repeat' first
    | with_reducible assumption | with_reducible apply Keep.ite | with_reducible apply State.armSlot_keep | with_reducible apply Keep.onLane
    | with_reducible apply Keep.foldl | extract_lets | (simp only [Keep.rest_iff]) | exact LaneK.of_core (LaneSt.onSlot_core ..)
    | (intros; assumption) | (intro _ _ _; beta_reduce) | intro _

theorem State.onEngines_keep {f : State → Lane → ProfSt} (hK : Keep kc kw s0 s) : Keep kc kw s0 (State.onEngines s f) := by
  unfold State.onEngines
  repeat' first
    | with_reducible assumption | with_reducible apply Keep.onProf | with_reducible apply Keep.foldl | extract_lets
    | (intro _ _ _; beta_reduce)

theorem State.beginStop_keep  (hK : Keep kc kw s0 s) : Keep kc kw s0 (State.beginStop s) := by
  unfold State.beginStop
  repeat' first
    | with_reducible assumption | with_reducible apply State.onEngines_keep | with_reducible apply Keep.onM

theorem State.endSteerHold_keep  (hK : Keep kc kw s0 s) : Keep kc kw s0 (State.endSteerHold s) := by
  unfold State.endSteerHold
  repeat' first
    | with_reducible assumption | extract_lets | (simp only [Keep.rest_iff])

theorem State.endBrakeHold_keep  (hK : Keep kc kw s0 s) : Keep kc kw s0 (State.endBrakeHold s) := by
  unfold State.endBrakeHold
  repeat' first
    | with_reducible assumption | extract_lets | (simp only [Keep.rest_iff])

theorem State.motionApplied_keep  (hK : Keep kc kw s0 s) : Keep kc kw s0 (State.motionApplied s) := by
  unfold State.motionApplied
  repeat' first
    | with_reducible assumption | with_reducible apply Keep.onM

theorem State.wakeSets_keep  (hK : Keep kc kw s0 s) : Keep kc kw s0 (State.wakeSets s) := by
  unfold State.wakeSets
  repeat' first
    | with_reducible assumption | with_reducible apply Keep.ite | with_reducible apply Keep.onM | extract_lets | (intros; assumption)
    | intro _

theorem State.noteLate_keep {n : Lane} (hK : Keep kc kw s0 s) : Keep kc kw s0 (State.noteLate s n) := by
  unfold State.noteLate
  repeat' first
    | with_reducible assumption | with_reducible apply Keep.onM

theorem State.applyMotion_keep {n : Lane} {c : Call} {eff : MotionEffect} {brake : Bool} (hK : Keep kc kw s0 s) : Keep kc kw s0 (State.applyMotion s n c eff brake) := by
  unfold State.applyMotion
  repeat' first
    | with_reducible assumption | with_reducible apply Keep.ite | with_reducible apply State.endSteerHold_keep
    | with_reducible apply State.endBrakeHold_keep | with_reducible apply State.motionApplied_keep
    | with_reducible apply State.wakeSets_keep | with_reducible apply State.noteLate_keep | with_reducible apply Keep.onProf
    | with_reducible apply Keep.log | extract_lets | intro _

theorem State.holdCommand_keep {n : Lane} {c : Call} (hK : Keep kc kw s0 s) : Keep kc kw s0 (State.holdCommand s n c) := by
  unfold State.holdCommand
  repeat' first
    | with_reducible assumption | with_reducible apply Keep.onProf

theorem State.noteSleep_keep  (hK : Keep kc kw s0 s) : Keep kc kw s0 (State.noteSleep s) := by
  unfold State.noteSleep
  repeat' first
    | with_reducible assumption | with_reducible apply Keep.onM

theorem State.resetLane_keep {n : Lane} {k : Nat} (hK : Keep kc kw s0 s) (hk : kc = false → k ≠ 1 ∧ k ≠ 3) :
    Keep kc kw s0 (State.resetLane s n k) := by
  unfold State.resetLane
  have ha : Keep kc kw s0 ((s.abortMeasure n .s).abortMeasure n .b) := State.abortMeasure_keep (State.abortMeasure_keep hK)
  extract_lets l wasLeader wasActive now s1 s2 s3
  have h2 : Keep kc kw s0 s2 := by
    refine Keep.onLane ha ?_
    generalize ((s.abortMeasure n .s).abortMeasure n .b).lane n = l
    have h : LaneK kc kw l (if l.rst.inReset then l else l.afterReset) :=
      LaneK.ite (fun _ => .refl _) (fun _ => LaneSt.afterReset_keep _)
    refine h.trans (LaneK.of_bounds rfl id id (.refl _) (fun e c => ?_))
    show (if _ then _ else _ : VoteSt).caldera = true
    rw [if_neg (by have := hk e; omega)]
    exact c
  have h3 : Keep kc kw s0 s3 := Keep.onM h2
  exact Keep.ite (fun _ => State.noteSleep_keep h3) (fun _ => h3)

theorem State.clearCause_keep {n : Lane} {k : Nat} (hK : Keep kc kw s0 s) : Keep kc kw s0 (State.clearCause s n k) := by
  unfold State.clearCause
  repeat' first
    | with_reducible assumption | with_reducible apply Keep.ite | with_reducible apply Keep.onLane | with_reducible apply Keep.onRst
    | extract_lets | exact LaneK.of_core rfl | intro _

theorem State.discardKiss_keep  (hK : Keep kc kw s0 s) : Keep kc kw s0 (State.discardKiss s) := by
  unfold State.discardKiss
  repeat' first
    | with_reducible assumption | with_reducible apply State.reslot_keep | with_reducible apply State.onEngines_keep
    | with_reducible apply Keep.onLane | with_reducible apply Keep.foldl | extract_lets | (simp only [Keep.rest_iff])
    | exact LaneK.of_core rfl | (intro _ _ _; beta_reduce) | split

theorem State.dropAxis_keep {x : Axis} (hK : Keep kc kw s0 s) : Keep kc kw s0 (State.dropAxis s x) := by
  unfold State.dropAxis
  repeat' first
    | with_reducible assumption | with_reducible apply State.onEngines_keep | with_reducible apply State.discardKiss_keep | split

theorem State.abortHoming_keep {reason : Byte} (hK : Keep kc kw s0 s) : Keep kc kw s0 (State.abortHoming s reason) := by
  unfold State.abortHoming
  repeat' first
    | with_reducible assumption | with_reducible apply Keep.ite | with_reducible apply State.logLeader_keep
    | with_reducible apply State.floatAll_keep | with_reducible apply State.dropAxis_keep | extract_lets | (simp only [Keep.rest_iff])
    | intro _ | split

theorem State.endCable_keep  (hK : Keep kc kw s0 s) : Keep kc kw s0 (State.endCable s) := by
  unfold State.endCable
  repeat' first
    | with_reducible apply Keep.ite | extract_lets | (simp only [Keep.rest_iff]) | (intros; assumption)

theorem State.endTest_keep  (hK : Keep kc kw s0 s) : Keep kc kw s0 (State.endTest s) := by
  unfold State.endTest
  repeat' first
    | with_reducible apply Keep.ite | extract_lets | (simp only [Keep.rest_iff]) | (intros; assumption)

theorem State.enterRejoin_keep {n : Lane} (hK : Keep kc kw s0 s) : Keep kc kw s0 (State.enterRejoin s n) := by
  unfold State.enterRejoin
  repeat' first
    | with_reducible assumption | with_reducible apply Keep.ite | with_reducible apply State.setRole_keep
    | with_reducible apply State.takeEffectIn_keep | with_reducible apply Keep.onLane | extract_lets | (simp only [Keep.rest_iff])
    | exact LaneK.of_core rfl | (intros; assumption) | intro _

theorem State.becomeActive_keep {n : Lane} (hK : Keep kc kw s0 s) : Keep kc kw s0 (State.becomeActive s n) := by
  unfold State.becomeActive
  repeat' first
    | with_reducible assumption | with_reducible apply Keep.onLane | extract_lets | exact LaneK.of_core rfl

theorem State.assignRoles_keep  (hK : Keep kc kw s0 s) : Keep kc kw s0 (State.assignRoles s) := by
  unfold State.assignRoles
  repeat' first
    | with_reducible assumption | with_reducible apply State.setRole_keep | with_reducible apply Keep.foldl | extract_lets
    | (intro _ _ _; beta_reduce)

theorem State.checkStamp_keep  (hK : Keep kc kw s0 s) : Keep kc kw s0 (State.checkStamp s) := by
  unfold State.checkStamp
  repeat' first
    | with_reducible assumption | with_reducible apply Keep.onLanes | extract_lets | exact LaneK.of_core rfl | intro _

theorem State.confirmTrial_keep  (hK : Keep kc kw s0 s) : Keep kc kw s0 (State.confirmTrial s) := by
  unfold State.confirmTrial
  repeat' first
    | with_reducible assumption | with_reducible apply Keep.ite | with_reducible apply State.logLeader_keep
    | with_reducible apply Keep.onSec | with_reducible apply Keep.onM | with_reducible apply Keep.foldl | extract_lets
    | (intros; exact SecSt.OneWay.of_eq rfl rfl rfl rfl) | (intros; assumption) | (intro _ _ _; beta_reduce) | intro _

theorem State.reportRollback_keep  (hK : Keep kc kw s0 s) : Keep kc kw s0 (State.reportRollback s) := by
  unfold State.reportRollback
  repeat' first
    | with_reducible assumption | with_reducible apply Keep.ite | with_reducible apply State.logLeader_keep
    | with_reducible apply Keep.onLanes | extract_lets | (simp only [Keep.rest_iff]) | exact LaneK.of_core rfl | (intros; assumption)
    | intro _

theorem State.enterReady_keep  (hK : Keep kc kw s0 s) : Keep kc kw s0 (State.enterReady s) := by
  unfold State.enterReady
  repeat' first
    | with_reducible assumption | with_reducible apply State.setMode_keep | with_reducible apply State.takeEffect_keep
    | with_reducible apply State.endSteerHold_keep | with_reducible apply State.endBrakeHold_keep
    | with_reducible apply State.checkStamp_keep | with_reducible apply State.confirmTrial_keep
    | with_reducible apply State.reportRollback_keep | with_reducible apply State.noteSleep_keep | with_reducible apply Keep.onLanes
    | with_reducible apply Keep.onM | extract_lets | (simp only [Keep.rest_iff]) | exact LaneK.of_core rfl | intro _

theorem State.leaveService_keep  (hK : Keep kc kw s0 s) : Keep kc kw s0 (State.leaveService s) := by
  unfold State.leaveService
  repeat' first
    | with_reducible assumption | with_reducible apply State.endLoad_keep | with_reducible apply State.endCable_keep
    | with_reducible apply State.endTest_keep | with_reducible apply State.enterReady_keep

theorem State.endService_keep  (hK : Keep kc kw s0 s) : Keep kc kw s0 (State.endService s) := by
  unfold State.endService
  repeat' first
    | with_reducible assumption | with_reducible apply Keep.ite | with_reducible apply State.beginStop_keep
    | with_reducible apply State.leaveService_keep | with_reducible apply Keep.onM | extract_lets | (intros; assumption) | intro _

theorem State.sleepLane_keep {n : Lane} (hK : Keep kc kw s0 s) : Keep kc kw s0 (State.sleepLane s n) := by
  unfold State.sleepLane
  repeat' first
    | with_reducible assumption | with_reducible apply Keep.ite | with_reducible apply State.resetLane_keep
    | with_reducible apply Keep.onLane | with_reducible apply Keep.onCtr | exact fun _ => ⟨by decide, by decide⟩ | extract_lets
    | exact LaneK.of_core rfl | intro _

theorem State.enterDormant_keep  (hK : Keep kc kw s0 s) : Keep kc kw s0 (State.enterDormant s) := by
  unfold State.enterDormant
  repeat' first
    | with_reducible assumption | with_reducible apply State.setMode_keep | with_reducible apply State.sleepLane_keep
    | with_reducible apply Keep.onM | with_reducible apply Keep.forLanes | extract_lets | (simp only [Keep.rest_iff])

theorem State.beginSafeStop_keep  (hK : Keep kc kw s0 s) : Keep kc kw s0 (State.beginSafeStop s) := by
  unfold State.beginSafeStop
  repeat' first
    | with_reducible assumption | with_reducible apply Keep.ite | with_reducible apply State.logLeader_keep
    | with_reducible apply State.beginStop_keep | with_reducible apply State.floatAll_keep | with_reducible apply State.abortHoming_keep
    | with_reducible apply State.enterReady_keep | with_reducible apply Keep.onM | extract_lets | intro _

theorem State.reviewStop_keep  (hK : Keep kc kw s0 s) : Keep kc kw s0 (State.reviewStop s) := by
  unfold State.reviewStop
  repeat' first
    | with_reducible assumption | with_reducible apply Keep.ite | with_reducible apply State.beginSafeStop_keep
    | with_reducible apply Keep.onM | extract_lets | (intros; assumption) | intro _

theorem State.clearCaldera_keep {n : Lane} (hc : kc = true) (hK : Keep kc kw s0 s) : Keep kc kw s0 (State.clearCaldera s n) :=
  Keep.onVote hK (fun _ h => absurd (hc.symm.trans h) (by decide))

theorem State.eccFault_keep {n : Lane} {a : Nat} {bus : Bool} (hK : Keep kc kw s0 s) : Keep kc kw s0 (State.eccFault s n a bus) := by
  unfold State.eccFault
  repeat' first
    | with_reducible assumption | with_reducible apply Keep.ite | with_reducible apply State.quenchRequest_keep
    | with_reducible apply State.checkLimp_keep | with_reducible apply Keep.onCtr | with_reducible apply Keep.log | extract_lets | intro _

theorem State.readWord_keep {n : Lane} {a : Nat} (hK : Keep kc kw s0 s) : Keep kc kw s0 (State.readWord s n a).1 := by
  unfold State.readWord
  repeat' first
    | with_reducible assumption | with_reducible apply Keep.ite | with_reducible apply State.eccFault_keep
    | with_reducible apply Keep.onLane | with_reducible apply Keep.onCtr | extract_lets | exact LaneK.of_core rfl | intro _ | split

theorem State.readWords_keep {n : Lane} {l : List Nat} (hK : Keep kc kw s0 s) : Keep kc kw s0 (State.readWords s n l).1 := by
  induction l generalizing s with
  | nil => exact hK
  | cons a r ih =>
    unfold State.readWords
    dsimp only
    split
    · exact State.readWord_keep hK
    · exact ih (State.readWord_keep hK)

theorem State.readBytes_keep {n : Lane} {a len : Nat} (hK : Keep kc kw s0 s) : Keep kc kw s0 (State.readBytes s n a len).1 := by
  unfold State.readBytes
  split
  · exact hK
  · exact State.readWords_keep hK

theorem State.failBits_keep {n : Lane} {ks : List Nat} {ctx : Nat → Dword} (hK : Keep kc kw s0 s) : Keep kc kw s0 (State.failBits s n ks ctx) := by
  unfold State.failBits
  repeat' first
    | with_reducible assumption | with_reducible apply Keep.ite | with_reducible apply State.markBit_keep | with_reducible apply Keep.log
    | with_reducible apply Keep.foldl | extract_lets | (intros; assumption) | (intro _ _ _; beta_reduce) | intro _

theorem State.domainOut_keep {n : Lane} {d : Fin 13} (hK : Keep kc kw s0 s) : Keep kc kw s0 (State.domainOut s n d) := by
  unfold State.domainOut
  repeat' first
    | with_reducible assumption | with_reducible apply Keep.ite | with_reducible apply State.checkLimp_keep
    | with_reducible apply State.lostSet_keep | with_reducible apply State.failBits_keep | with_reducible apply Keep.onLane
    | with_reducible apply Keep.onRst | extract_lets | (simp only [Keep.rest_iff]) | exact LaneK.of_core rfl | intro _

theorem State.readyCore_keep {n : Lane} (hK : Keep kc kw s0 s) : Keep kc kw s0 (State.readyCore s n) := by
  unfold State.readyCore
  repeat' first
    | with_reducible assumption | with_reducible apply Keep.onRst

theorem State.restart_keep {n : Lane} {k : Nat} (hK : Keep kc kw s0 s) (hk : kc = false → k ≠ 1 ∧ k ≠ 3) :
    Keep kc kw s0 (State.restart s n k) :=
  State.readyCore_keep (State.clearCause_keep (State.resetLane_keep hK hk))

theorem State.seeSupply_keep {n : Lane} {vsup link : Nat} (hK : Keep kc kw s0 s) : Keep kc kw s0 (State.seeSupply s n vsup link) := by
  unfold State.seeSupply
  repeat' first
    | with_reducible assumption | with_reducible apply Keep.onSup

theorem State.supplyBack_keep {n : Lane} {mv : Nat} (hK : Keep kc kw s0 s) : Keep kc kw s0 (State.supplyBack s n mv) := by
  unfold State.supplyBack
  repeat' first
    | with_reducible assumption | with_reducible apply Keep.ite | with_reducible apply State.clearCause_keep
    | with_reducible apply State.readyCore_keep | extract_lets | (intros; assumption) | intro _

theorem State.tryReady_keep (hK : Keep kc kw s0 s) : Keep kc kw s0 (State.tryReady s) := by
  unfold State.tryReady
  dsimp only
  exact Keep.ite (fun _ => State.enterReady_keep (Keep.foldl (State.assignRoles_keep hK) (fun _ _ k => State.adopt_keep k)))
    (fun _ => hK)

theorem State.failBoot_keep {n : Lane} {step : Nat} (hK : Keep kc kw s0 s) : Keep kc kw s0 (State.failBoot s n step) := by
  unfold State.failBoot
  repeat' first
    | with_reducible assumption | with_reducible apply Keep.onLane | with_reducible apply Keep.log | extract_lets | exact LaneK.of_core rfl

theorem State.failTrial_keep {n : Lane} (hK : Keep kc kw s0 s) : Keep kc kw s0 (State.failTrial s n) := by
  unfold State.failTrial
  repeat' first
    | with_reducible assumption | with_reducible apply Keep.onSec | with_reducible apply Keep.log | extract_lets
    | (simp only [Keep.rest_iff]) | (intros; exact SecSt.OneWay.of_eq rfl rfl rfl rfl) | split

theorem State.dropTrial_keep {n : Lane} (hK : Keep kc kw s0 s) : Keep kc kw s0 (State.dropTrial s n) := by
  unfold State.dropTrial
  repeat' first
    | with_reducible assumption | with_reducible apply Keep.ite | with_reducible apply State.restart_keep
    | with_reducible apply State.failTrial_keep | exact fun _ => ⟨by decide, by decide⟩ | extract_lets | (intros; assumption) | intro _

theorem State.logStored_keep {n : Lane} {base : Nat} {o : Option Nat} (hK : Keep kc kw s0 s) :
    Keep kc kw s0 (State.logStored s n base o) := by
  unfold State.logStored
  cases o
  · exact hK
  · exact Keep.log hK

theorem State.endBoot_keep {n : Lane} {on : Bool} (hK : Keep kc kw s0 s) : Keep kc kw s0 (State.endBoot s n on) := by
  unfold State.endBoot
  repeat' first
    | with_reducible assumption | with_reducible apply Keep.onLane | extract_lets | exact LaneK.of_core rfl

theorem State.applyLimits_keep {n : Lane} {c : Call} (hK : Keep kc kw s0 s) : Keep kc kw s0 (State.applyLimits s n c) := by
  unfold State.applyLimits
  repeat' first
    | with_reducible assumption | with_reducible apply State.applyMotion_keep | with_reducible apply Keep.onM

theorem State.beginSeek_keep {st : BitVec 3} (hK : Keep kc kw s0 s) : Keep kc kw s0 (State.beginSeek s st) := by
  unfold State.beginSeek
  repeat' first
    | with_reducible assumption | with_reducible apply State.onEngines_keep | extract_lets | (simp only [Keep.rest_iff])

theorem State.beginHoming_keep {x : Axis} (hK : Keep kc kw s0 s) : Keep kc kw s0 (State.beginHoming s x) := by
  unfold State.beginHoming
  repeat' first
    | with_reducible assumption | with_reducible apply State.onEngines_keep | with_reducible apply State.beginSeek_keep | extract_lets
    | (simp only [Keep.rest_iff]) | split | dsimp +zetaDelta only

theorem State.launchHoming_keep  (hK : Keep kc kw s0 s) : Keep kc kw s0 (State.launchHoming s) := by
  unfold State.launchHoming
  repeat' first
    | with_reducible assumption | with_reducible apply Keep.ite | with_reducible apply State.beginHoming_keep | extract_lets
    | (intros; assumption) | intro _

theorem State.homingStep_keep {n : Lane} (hK : Keep kc kw s0 s) : Keep kc kw s0 (State.homingStep s n) := by
  unfold State.homingStep
  repeat' first
    | with_reducible assumption | with_reducible apply Keep.ite | with_reducible apply State.onEngines_keep
    | with_reducible apply State.abortHoming_keep | with_reducible apply State.beginSeek_keep | extract_lets | (simp only [Keep.rest_iff])
    | (intros; assumption) | intro _ | split

theorem State.storeKiss_keep {n : Lane} {ps : Int} (hK : Keep kc kw s0 s) : Keep kc kw s0 (State.storeKiss s n ps) := by
  unfold State.storeKiss
  repeat' first
    | with_reducible assumption | with_reducible apply State.reslot_keep | with_reducible apply State.onEngines_keep
    | with_reducible apply Keep.onLane | with_reducible apply Keep.foldl | extract_lets | (simp only [Keep.rest_iff])
    | exact LaneK.of_core rfl | (intro _ _ _; beta_reduce)

theorem State.keepIdentities_keep {x : Axis} (hK : Keep kc kw s0 s) : Keep kc kw s0 (State.keepIdentities s x) := by
  unfold State.keepIdentities
  repeat' first
    | with_reducible assumption | with_reducible apply Keep.onLane | with_reducible apply Keep.foldl | extract_lets
    | (simp only [Keep.rest_iff]) | exact LaneK.of_core rfl | (intro _ _ _; beta_reduce) | split

theorem State.storeSteer_keep  (hK : Keep kc kw s0 s) : Keep kc kw s0 (State.storeSteer s) := by
  unfold State.storeSteer
  repeat' first
    | with_reducible assumption | with_reducible apply Keep.onLane | with_reducible apply Keep.foldl | extract_lets
    | (simp only [Keep.rest_iff]) | exact LaneK.of_core rfl | (intro _ _ _; beta_reduce)

theorem State.endHoming_keep  (hK : Keep kc kw s0 s) : Keep kc kw s0 (State.endHoming s) := by
  unfold State.endHoming
  repeat' first
    | with_reducible assumption | with_reducible apply Keep.ite | with_reducible apply State.floatAll_keep
    | with_reducible apply Keep.onLanes | with_reducible apply Keep.onLane | with_reducible apply Keep.foldl | extract_lets
    | (simp only [Keep.rest_iff]) | exact LaneK.of_core rfl | (intros; assumption) | (intro _ _ _; beta_reduce) | intro _

theorem State.abortNamed_keep {steer brake : Bool} (hK : Keep kc kw s0 s) : Keep kc kw s0 (State.abortNamed s steer brake) := by
  unfold State.abortNamed
  repeat' first
    | with_reducible assumption | with_reducible apply Keep.ite | with_reducible apply State.logLeader_keep
    | with_reducible apply State.dropAxis_keep | with_reducible apply State.abortHoming_keep | with_reducible apply State.launchHoming_keep
    | extract_lets | (simp only [Keep.rest_iff]) | (intros; assumption) | intro _

theorem State.startHoming_keep {n : Lane} {steer brake : Bool} (hK : Keep kc kw s0 s) : Keep kc kw s0 (State.startHoming s n steer brake) := by
  unfold State.startHoming
  repeat' first
    | with_reducible assumption | with_reducible apply Keep.ite | with_reducible apply State.takeEffect_keep
    | with_reducible apply State.endSteerHold_keep | with_reducible apply State.endBrakeHold_keep
    | with_reducible apply State.motionApplied_keep | with_reducible apply State.launchHoming_keep | with_reducible apply Keep.onM
    | extract_lets | (simp only [Keep.rest_iff]) | intro _

theorem State.keepDeputy_keep {old : State} (hK : Keep kc kw s0 s) : Keep kc kw s0 (State.keepDeputy s old) := by
  unfold State.keepDeputy
  refine hK.foldl (fun s d h => ?_)
  exact Keep.ite (fun _ => Keep.onProf h) (fun _ => h)

theorem State.applyHoming_keep {n : Lane} {c : Call} (hK : Keep kc kw s0 s) : Keep kc kw s0 (State.applyHoming s n c) := by
  unfold State.applyHoming
  dsimp only
  refine Keep.onProf (State.keepDeputy_keep ?_)
  exact Keep.ite (fun _ => State.motionApplied_keep (State.abortNamed_keep hK)) (fun _ => State.startHoming_keep hK)

theorem State.writePairs_keep {qs : List (Half × Int)} (hK : Keep kc kw s0 s) : Keep kc kw s0 (State.writePairs s qs) := by
  unfold State.writePairs
  repeat' first
    | with_reducible assumption | with_reducible apply State.takeEffect_keep | with_reducible apply Keep.onLanes | extract_lets
    | exact LaneK.of_core rfl | intro _ | with_reducible apply LaneK.ite

theorem State.beginCommit_keep {r : Req} (hK : Keep kc kw s0 s) : Keep kc kw s0 (State.beginCommit s r) := by
  unfold State.beginCommit
  repeat' first
    | with_reducible assumption | with_reducible apply Keep.onLanes | with_reducible apply Keep.onM | extract_lets
    | (simp only [Keep.rest_iff]) | exact LaneK.of_core rfl | intro _ | with_reducible apply LaneK.ite

theorem State.logRejected_keep {n : Lane} {b : List Byte} {order : Nat} {addr : Word} (hK : Keep kc kw s0 s) : Keep kc kw s0 (State.logRejected s n b order addr) := by
  unfold State.logRejected
  repeat' first
    | with_reducible assumption | with_reducible apply Keep.log

theorem State.addSession_keep {n : Lane} {e : SessionEntry} (hK : Keep kc kw s0 s) : Keep kc kw s0 (State.addSession s n e) := by
  unfold State.addSession
  repeat' first
    | with_reducible assumption | with_reducible apply Keep.onSec | with_reducible apply Keep.onM | extract_lets
    | (simp only [Keep.rest_iff]) | (intros; exact SecSt.OneWay.of_eq rfl rfl rfl rfl)

theorem State.closeSession_keep {n : Lane} {num : Half} (hK : Keep kc kw s0 s) : Keep kc kw s0 (State.closeSession s n num) := by
  unfold State.closeSession
  repeat' first
    | with_reducible assumption | with_reducible apply Keep.ite | with_reducible apply State.pushBoth_keep
    | with_reducible apply State.endService_keep | with_reducible apply Keep.onSec | extract_lets
    | (intros; exact SecSt.OneWay.of_eq rfl rfl rfl rfl) | intro _ | split

theorem State.dropSession_keep {n : Lane} {num : Half} {cause : Nat} (hK : Keep kc kw s0 s) : Keep kc kw s0 (State.dropSession s n num cause) := by
  unfold State.dropSession
  repeat' first
    | with_reducible assumption | with_reducible apply State.closeSession_keep | with_reducible apply Keep.log

theorem State.putKeys_keep {n : Lane} {pkg : List Byte} (hK : Keep kc kw s0 s) : Keep kc kw s0 (State.putKeys s n pkg) := by
  unfold State.putKeys
  repeat' first
    | with_reducible assumption | with_reducible apply State.dropSession_keep | with_reducible apply Keep.onSec
    | with_reducible apply Keep.log | with_reducible apply Keep.foldl | extract_lets | (intros; exact SecSt.OneWay.of_eq rfl rfl rfl rfl)
    | (intro _ _ _; beta_reduce)

theorem State.fuseAll_keep {pkg : List Byte} (hK : Keep kc kw s0 s) : Keep kc kw s0 (State.fuseAll s pkg) := by
  unfold State.fuseAll
  dsimp only
  exact hK.foldl (fun s k h => Keep.log (Keep.onSec h (fun x => SecSt.fuse_oneWay x _)))

theorem State.checkIdentity_keep {n : Lane} {p : SentPort} (hK : Keep kc kw s0 s) : Keep kc kw s0 (State.checkIdentity s n p) := by
  unfold State.checkIdentity
  repeat' first
    | with_reducible assumption | with_reducible apply Keep.ite | with_reducible apply State.reslot_keep | with_reducible apply Keep.onLanes
    | with_reducible apply Keep.onLane | with_reducible apply Keep.log | extract_lets | exact LaneK.of_core rfl
    | exact LaneK.of_core (LaneSt.onSent_core ..) | (intros; assumption) | intro _ | split

theorem State.quadLost_keep {n : Lane} (hK : Keep kc kw s0 s) : Keep kc kw s0 (State.quadLost s n) := by
  unfold State.quadLost
  repeat' first
    | with_reducible assumption | with_reducible apply Keep.ite | with_reducible apply State.abortHoming_keep | extract_lets
    | (intros; assumption) | intro _

theorem State.setSlot_keep {n : Lane} {p : List Byte} (hK : Keep kc kw s0 s) : Keep kc kw s0 (State.setSlot s n p) := by
  unfold State.setSlot
  repeat' first
    | with_reducible assumption | with_reducible apply Keep.ite | with_reducible apply State.armSlot_keep | with_reducible apply Keep.onLane
    | extract_lets | exact LaneK.of_core (LaneSt.onSlot_core ..) | intro _

theorem State.takeSetting_keep {src dst : Lane} (hK : Keep kc kw s0 s) : Keep kc kw s0 (State.takeSetting s src dst) := by
  unfold State.takeSetting
  repeat' first
    | with_reducible assumption | with_reducible apply Keep.ite | with_reducible apply State.onNext_keep
    | with_reducible apply State.setSlot_keep | with_reducible apply Keep.onCtr | extract_lets | (intro _ _ _; beta_reduce) | intro _

theorem State.applyCompareSet_keep {n : Lane} {c : Call} (hK : Keep kc kw s0 s) : Keep kc kw s0 (State.applyCompareSet s n c) := by
  unfold State.applyCompareSet
  repeat' first
    | with_reducible assumption | with_reducible apply Keep.ite | with_reducible apply State.pushItem_keep
    | with_reducible apply State.endSteerHold_keep | with_reducible apply State.motionApplied_keep | with_reducible apply State.setSlot_keep
    | with_reducible apply Keep.onProf | extract_lets | intro _

theorem State.reviewHoldOnly_keep  (hK : Keep kc kw s0 s) : Keep kc kw s0 (State.reviewHoldOnly s) := by
  unfold State.reviewHoldOnly
  repeat' first
    | with_reducible assumption | with_reducible apply Keep.ite | with_reducible apply State.logLeader_keep
    | with_reducible apply State.requestStop_keep | with_reducible apply State.onEngines_keep | with_reducible apply Keep.onM | extract_lets
    | (intros; assumption) | intro _

theorem State.stopServiceWork_keep  (hK : Keep kc kw s0 s) : Keep kc kw s0 (State.stopServiceWork s) := by
  unfold State.stopServiceWork
  repeat' first
    | with_reducible assumption | with_reducible apply Keep.ite | with_reducible apply State.endLoad_keep
    | with_reducible apply State.endCable_keep | with_reducible apply State.endTest_keep | with_reducible apply State.endService_keep
    | extract_lets | (intros; assumption) | intro _

theorem State.setLevel_keep {n : Lane} {new : Nat} (hK : Keep kc kw s0 s) : Keep kc kw s0 (State.setLevel s n new) := by
  unfold State.setLevel
  repeat' first
    | with_reducible assumption | with_reducible apply Keep.ite | with_reducible apply State.logModule_keep
    | with_reducible apply State.checkLimp_keep | with_reducible apply State.reviewHoldOnly_keep
    | with_reducible apply State.stopServiceWork_keep | with_reducible apply Keep.onLane | with_reducible apply Keep.onSup | extract_lets
    | (simp only [Keep.rest_iff]) | exact LaneK.of_core rfl | (intros; assumption) | intro _

theorem State.supplyQuench_keep {n : Lane} (hK : Keep kc kw s0 s) : Keep kc kw s0 (State.supplyQuench s n) := by
  unfold State.supplyQuench
  repeat' first
    | with_reducible assumption | with_reducible apply State.setCaldera_keep | with_reducible apply State.checkLimp_keep
    | with_reducible apply State.reformAll_keep | with_reducible apply State.setLevel_keep | with_reducible apply Keep.onVote
    | with_reducible apply Keep.log | extract_lets | (simp only [Keep.rest_iff]) | (intros; assumption)

theorem State.onGey_keep {n : Lane} {f : Gey → Gey} (hK : Keep kc kw s0 s) : Keep kc kw s0 (State.onGey s n f) := by
  unfold State.onGey
  repeat' first
    | with_reducible assumption | with_reducible apply Keep.onLane | extract_lets | exact LaneK.of_core rfl

theorem State.askGeyser_keep {n : Lane} {f : Gey → Gey} (hK : Keep kc kw s0 s) : Keep kc kw s0 (State.askGeyser s n f) := by
  unfold State.askGeyser
  repeat' first
    | with_reducible assumption | with_reducible apply Keep.ite | with_reducible apply State.onGey_keep | with_reducible apply Keep.log
    | extract_lets | (simp only [Keep.rest_iff]) | intro _

theorem State.failGeyser_keep {n : Lane} {kind r : Nat} (hK : Keep kc kw s0 s) : Keep kc kw s0 (State.failGeyser s n kind r) := by
  unfold State.failGeyser
  repeat' first
    | with_reducible assumption | with_reducible apply State.onGey_keep | with_reducible apply Keep.log

theorem State.observeLoss_keep {n : Lane} (hK : Keep kc kw s0 s) : Keep kc kw s0 (State.observeLoss s n) := by
  unfold State.observeLoss
  repeat' first
    | with_reducible assumption | with_reducible apply Keep.ite | with_reducible apply Keep.onLane | extract_lets
    | (simp only [Keep.rest_iff]) | exact LaneK.of_core rfl | (intros; assumption) | intro _

theorem State.compareTorque_keep {n : Lane} (hK : Keep kc kw s0 s) : Keep kc kw s0 (State.compareTorque s n) := by
  unfold State.compareTorque
  repeat' first
    | with_reducible assumption | with_reducible apply Keep.ite | with_reducible apply Keep.onProf | extract_lets
    | (simp only [Keep.rest_iff]) | (intros; assumption) | intro _ | split

theorem State.compareProfile_keep {n : Lane} (hK : Keep kc kw s0 s) : Keep kc kw s0 (State.compareProfile s n) := by
  unfold State.compareProfile
  repeat' first
    | with_reducible assumption | with_reducible apply Keep.ite | with_reducible apply Keep.onProf | extract_lets
    | (simp only [Keep.rest_iff]) | (intros; assumption) | intro _ | split

theorem State.compareStep_keep {n : Lane} (hK : Keep kc kw s0 s) : Keep kc kw s0 (State.compareStep s n) := by
  unfold State.compareStep
  repeat' first
    | with_reducible assumption | with_reducible apply State.compareTorque_keep | with_reducible apply State.compareProfile_keep

theorem State.follow_keep {src dst : Lane} (hK : Keep kc kw s0 s) : Keep kc kw s0 (State.follow s src dst) := by
  unfold State.follow
  repeat' first
    | with_reducible assumption | with_reducible apply Keep.ite | with_reducible apply State.setRole_keep
    | with_reducible apply State.adopt_keep | with_reducible apply Keep.onLane | extract_lets | (simp only [Keep.rest_iff])
    | exact LaneK.of_core rfl | intro _

theorem State.takeEpoch_keep {src dst : Lane} (hK : Keep kc kw s0 s) : Keep kc kw s0 (State.takeEpoch s src dst) := by
  unfold State.takeEpoch
  repeat' first
    | with_reducible assumption | with_reducible apply Keep.ite | with_reducible apply State.follow_keep | with_reducible apply Keep.onLane
    | with_reducible apply Keep.onCtr | extract_lets | (simp only [Keep.rest_iff]) | exact LaneK.of_core rfl | (intros; assumption)
    | intro _ | split

theorem State.countStale_keep {src dst : Lane} (hK : Keep kc kw s0 s) : Keep kc kw s0 (State.countStale s src dst) := by
  unfold State.countStale
  repeat' first
    | with_reducible assumption | with_reducible apply Keep.ite | with_reducible apply Keep.onCtr | extract_lets | (intros; assumption)
    | intro _

theorem State.endAttempt_keep {n : Lane} {again : Bool} (hK : Keep kc kw s0 s) : Keep kc kw s0 (State.endAttempt s n again) := by
  unfold State.endAttempt
  repeat' first
    | with_reducible assumption | with_reducible apply Keep.ite | with_reducible apply State.leaveActive_keep
    | with_reducible apply Keep.onLane | with_reducible apply Keep.log | extract_lets | (simp only [Keep.rest_iff])
    | exact LaneK.of_core rfl | intro _

theorem State.linkIsolate_keep {n : Lane} (hK : Keep kc kw s0 s) : Keep kc kw s0 (State.linkIsolate s n) := by
  unfold State.linkIsolate
  repeat' first
    | with_reducible assumption | with_reducible apply Keep.ite | with_reducible apply State.isolate_keep
    | with_reducible apply State.endAttempt_keep | with_reducible apply Keep.log | extract_lets | intro _

theorem State.checkLinks_keep {n : Lane} (hK : Keep kc kw s0 s) : Keep kc kw s0 (State.checkLinks s n) := by
  unfold State.checkLinks
  repeat' first
    | with_reducible assumption | with_reducible apply Keep.ite | with_reducible apply State.linkIsolate_keep | extract_lets
    | (intros; assumption) | intro _ | split

theorem State.noteAbsent_keep {src dst : Lane} (hK : Keep kc kw s0 s) : Keep kc kw s0 (State.noteAbsent s src dst) := by
  unfold State.noteAbsent
  repeat' first
    | with_reducible assumption | with_reducible apply Keep.ite | with_reducible apply State.withdrawFor_keep
    | with_reducible apply Keep.onM | extract_lets | (intros; assumption) | intro _

theorem State.reviewTemp_keep {n : Lane} (hK : Keep kc kw s0 s) : Keep kc kw s0 (State.reviewTemp s n) := by
  unfold State.reviewTemp
  repeat' first
    | with_reducible assumption | with_reducible apply Keep.ite | with_reducible apply State.reviewHoldOnly_keep
    | with_reducible apply Keep.onLane | with_reducible apply Keep.log | extract_lets | exact LaneK.of_core rfl | intro _

theorem State.reformIfLost_keep {old : State} {n : Lane} (hK : Keep kc kw s0 s) : Keep kc kw s0 (State.reformIfLost s old n) := by
  unfold State.reformIfLost
  exact Keep.ite (fun _ => State.reform_keep hK) (fun _ => hK)

theorem State.noteLost_keep {old : State} {dst : Lane} (hK : Keep kc kw s0 s) : Keep kc kw s0 (State.noteLost s old dst) := by
  unfold State.noteLost
  refine hK.foldl (fun s d h => ?_)
  exact Keep.ite (fun _ => Keep.log h) (fun _ => h)

theorem State.noteShare_keep {src dst : Lane} (hK : Keep kc kw s0 s) : Keep kc kw s0 (State.noteShare s src dst) := by
  unfold State.noteShare
  repeat' first
    | with_reducible assumption | with_reducible apply State.onTerm_keep | with_reducible apply Keep.foldl | extract_lets
    | (simp only [Keep.rest_iff]) | (intro _ _ _; beta_reduce)

theorem State.viewChanged_keep {old : State} {src dst : Lane} (hK : Keep kc kw s0 s) :
    Keep kc kw s0 (State.viewChanged s old src dst) := by
  unfold State.viewChanged
  extract_lets s1 s2 s3 s4 s5 s6
  have h1 : Keep kc kw s0 s1 := State.noteLost_keep hK
  have h2 : Keep kc kw s0 s2 := Keep.ite (fun _ => State.noteAbsent_keep h1) (fun _ => h1)
  have h3 : Keep kc kw s0 s3 := Keep.ite (fun _ => State.takeEpoch_keep h2) (fun _ => h2)
  have h4 : Keep kc kw s0 s4 := Keep.ite (fun _ => State.cast_keep h3) (fun _ => h3)
  have h5 : Keep kc kw s0 s5 := State.observeLoss_keep (State.checkLinks_keep h4)
  have h6 : Keep kc kw s0 s6 := State.reformIfLost_keep h5
  exact State.checkLimp_keep (Keep.ite (fun _ => State.noteSleep_keep h6) (fun _ => h6))

theorem State.latchT_keep {n : Lane} (hK : Keep kc kw s0 s) : Keep kc kw s0 (State.latchT s n) := by
  unfold State.latchT
  repeat' first
    | with_reducible assumption | with_reducible apply Keep.onLink | with_reducible apply Keep.foldl | extract_lets
    | (simp only [Keep.rest_iff]) | (intro _ _ _; beta_reduce)

theorem State.stampTime_keep {old : State} {src dst : Lane} (hK : Keep kc kw s0 s) : Keep kc kw s0 (State.stampTime s old src dst) := by
  unfold State.stampTime
  dsimp only
  exact Keep.ite (fun _ => Keep.onLink hK) (fun _ => hK)

theorem State.tryRelease_keep {n : Lane} (hK : Keep kc kw s0 s) : Keep kc kw s0 (State.tryRelease s n) := by
  unfold State.tryRelease
  repeat' first
    | with_reducible assumption | with_reducible apply Keep.ite | with_reducible apply State.enterRejoin_keep | extract_lets
    | (intros; assumption) | intro _

theorem State.markRead_keep {n : Lane} {id verdict : Byte} (hK : Keep kc kw s0 s) : Keep kc kw s0 (State.markRead s n id verdict) := by
  unfold State.markRead
  repeat' first
    | with_reducible assumption | with_reducible apply Keep.onLanes | extract_lets | (simp only [Keep.rest_iff]) | exact LaneK.of_core rfl
    | intro _

theorem State.rulePart_keep {n : Lane} {id verdict : Byte} (hK : Keep kc kw s0 s) : Keep kc kw s0 (State.rulePart s n id verdict) := by
  unfold State.rulePart
  repeat' first
    | with_reducible assumption | with_reducible apply Keep.ite | with_reducible apply State.cast_keep
    | with_reducible apply State.castIsolated_keep | with_reducible apply State.withdraw_keep | with_reducible apply State.leaveActive_keep
    | with_reducible apply State.setCaldera_keep | with_reducible apply State.checkLimp_keep | with_reducible apply State.reformAll_keep
    | with_reducible apply State.tryRelease_keep | with_reducible apply State.markRead_keep | with_reducible apply Keep.onVote
    | extract_lets | (simp only [Keep.rest_iff]) | (intros; assumption) | intro _ | split

theorem State.quenchPart_keep {n target : Lane} (hK : Keep kc kw s0 s) : Keep kc kw s0 (State.quenchPart s n target) := by
  unfold State.quenchPart
  repeat' first
    | with_reducible assumption | with_reducible apply Keep.ite | with_reducible apply State.cast_keep
    | with_reducible apply State.setCaldera_keep | with_reducible apply State.checkLimp_keep | with_reducible apply State.reformAll_keep
    | extract_lets | (intros; assumption) | intro _

theorem State.answerQuench_keep {n : Lane} (hK : Keep kc kw s0 s) : Keep kc kw s0 (State.answerQuench s n) := by
  unfold State.answerQuench
  repeat' first
    | with_reducible assumption | with_reducible apply State.reply_keep | with_reducible apply Keep.onM | with_reducible apply Keep.foldl
    | (show Keep _ _ _ _) | extract_lets | (intro _ _ _; beta_reduce)

theorem State.takeLead_keep {n : Lane} {old : Option Lane} (hK : Keep kc kw s0 s) : Keep kc kw s0 (State.takeLead s n old) := by
  unfold State.takeLead
  repeat' first
    | with_reducible assumption | with_reducible apply Keep.ite | with_reducible apply State.setRole_keep
    | with_reducible apply State.adopt_keep | with_reducible apply State.abortHoming_keep | with_reducible apply State.endLoad_keep
    | with_reducible apply Keep.onLane | with_reducible apply Keep.onM | with_reducible apply Keep.foldl | extract_lets
    | (simp only [Keep.rest_iff]) | exact LaneK.of_core rfl | (intros; assumption) | (intro _ _ _; beta_reduce) | intro _

theorem State.decideNow_keep  (hK : Keep kc kw s0 s) : Keep kc kw s0 (State.decideNow s) := by
  unfold State.decideNow
  repeat' first
    | with_reducible assumption | with_reducible apply State.checkLimp_keep | with_reducible apply State.reviewStop_keep
    | with_reducible apply State.reviewHoldOnly_keep

theorem State.makeDeputy_keep {n lead : Lane} (hK : Keep kc kw s0 s) : Keep kc kw s0 (State.makeDeputy s n lead) := by
  unfold State.makeDeputy
  repeat' first
    | with_reducible assumption | with_reducible apply State.setRole_keep | with_reducible apply State.dropItem_keep
    | with_reducible apply Keep.onProf

theorem State.failRejoin_keep {n : Lane} {code : Half} {addr : Word} (hK : Keep kc kw s0 s) : Keep kc kw s0 (State.failRejoin s n code addr) := by
  unfold State.failRejoin
  repeat' first
    | with_reducible assumption | with_reducible apply State.reformAll_keep | with_reducible apply State.endAttempt_keep
    | with_reducible apply Keep.log

theorem State.startRejoined_keep {n : Lane} (hK : Keep kc kw s0 s) : Keep kc kw s0 (State.startRejoined s n) := by
  unfold State.startRejoined
  repeat' first
    | with_reducible assumption | with_reducible apply Keep.ite | with_reducible apply Keep.onLane | extract_lets
    | (simp only [Keep.rest_iff]) | exact LaneK.of_core rfl | (intros; assumption) | intro _

theorem State.reviewTwin_keep {others : Nat} (hK : Keep kc kw s0 s) : Keep kc kw s0 (State.reviewTwin s others) := by
  unfold State.reviewTwin
  repeat' first
    | with_reducible apply Keep.ite | extract_lets | (simp only [Keep.rest_iff]) | (intros; assumption)

theorem State.formTwin_keep {ws : List Dword} (hK : Keep kc kw s0 s) : Keep kc kw s0 (State.formTwin s ws) := by
  unfold State.formTwin
  repeat' first
    | with_reducible assumption | with_reducible apply Keep.ite | with_reducible apply State.takeEffect_keep | extract_lets
    | (simp only [Keep.rest_iff]) | (intros; assumption) | intro _

theorem State.applyHeld_keep {n : Lane} {h : Half × Req × Half} (hK : Keep kc kw s0 s) : Keep kc kw s0 (State.applyHeld s n h) := by
  unfold State.applyHeld
  repeat' first
    | with_reducible assumption | with_reducible apply Keep.ite | with_reducible apply State.applyMotion_keep
    | with_reducible apply State.applyLimits_keep | with_reducible apply State.applyHoming_keep
    | with_reducible apply State.applyCompareSet_keep | extract_lets | intro _

theorem State.followTwin_keep {w2 : Dword} (hK : Keep kc kw s0 s) : Keep kc kw s0 (State.followTwin s w2) := by
  unfold State.followTwin
  repeat' first
    | with_reducible assumption | with_reducible apply State.applyHeld_keep | with_reducible apply Keep.onProf | extract_lets | split

theorem State.useTwin_keep {ws : List Dword} (hK : Keep kc kw s0 s) : Keep kc kw s0 (State.useTwin s ws) := by
  unfold State.useTwin
  repeat' first
    | with_reducible assumption | with_reducible apply Keep.ite | with_reducible apply State.reviewTwin_keep
    | with_reducible apply State.formTwin_keep | with_reducible apply State.followTwin_keep | with_reducible apply Keep.onCtr | extract_lets
    | (simp only [Keep.rest_iff]) | (intros; assumption) | intro _

theorem State.loseTwin_keep  (hK : Keep kc kw s0 s) : Keep kc kw s0 (State.loseTwin s) := by
  unfold State.loseTwin
  repeat' first
    | with_reducible assumption | with_reducible apply Keep.ite | with_reducible apply State.logLeader_keep
    | with_reducible apply State.onEngines_keep | extract_lets | (simp only [Keep.rest_iff]) | (intros; assumption) | intro _

theorem State.formConsensus_keep {n : Lane} {x : Axis} (hK : Keep kc kw s0 s) : Keep kc kw s0 (State.formConsensus s n x) := by
  unfold State.formConsensus
  repeat' first
    | with_reducible assumption | with_reducible apply Keep.ite | with_reducible apply Keep.onLane | with_reducible apply Keep.log
    | extract_lets | (simp only [Keep.rest_iff]) | exact LaneK.of_core (LaneSt.onCon_core ..) | intro _ | split | dsimp +zetaDelta only

theorem State.countNear_keep {n : Lane} {x : Axis} (hK : Keep kc kw s0 s) : Keep kc kw s0 (State.countNear s n x) := by
  unfold State.countNear
  repeat' first
    | with_reducible assumption | with_reducible apply Keep.onSet

theorem State.startAcquisition_keep {x : Axis} {again : Bool} (hK : Keep kc kw s0 s) : Keep kc kw s0 (State.startAcquisition s x again) := by
  unfold State.startAcquisition
  repeat' first
    | with_reducible assumption | with_reducible apply Keep.onLanes | with_reducible apply Keep.onM | extract_lets
    | (simp only [Keep.rest_iff]) | exact LaneK.of_core rfl | intro _ | split

theorem State.detectPolarity_keep {n : Lane} {x : Axis} {ps : List PulsePair} (hK : Keep kc kw s0 s) : Keep kc kw s0 (State.detectPolarity s n x ps) := by
  unfold State.detectPolarity
  repeat' first
    | with_reducible assumption | with_reducible apply Keep.ite | with_reducible apply Keep.onSet | with_reducible apply Keep.log
    | extract_lets | (simp only [Keep.rest_iff]) | (intros; assumption) | intro _ | split

theorem State.flipSet_keep {n : Lane} {x : Axis} (hK : Keep kc kw s0 s) : Keep kc kw s0 (State.flipSet s n x) := by
  unfold State.flipSet
  repeat' first
    | with_reducible assumption | with_reducible apply Keep.onSet | with_reducible apply Keep.log

theorem State.endAcquisition_keep {x : Axis} (hK : Keep kc kw s0 s) : Keep kc kw s0 (State.endAcquisition s x) := by
  unfold State.endAcquisition
  repeat' first
    | with_reducible assumption | with_reducible apply Keep.onSet | with_reducible apply Keep.onM | with_reducible apply Keep.foldl
    | extract_lets | (simp only [Keep.rest_iff]) | (intro _ _ _; beta_reduce)

theorem State.fieldUpdate_keep {n : Lane} {x : Axis} {m : CurrentSample} (hK : Keep kc kw s0 s) : Keep kc kw s0 (State.fieldUpdate s n x m) := by
  unfold State.fieldUpdate
  repeat' first
    | with_reducible assumption | with_reducible apply Keep.ite | with_reducible apply Keep.onSet | extract_lets | (intros; assumption)
    | intro _

theorem State.checkRefs_keep {n : Lane} {a b : Nat} (hK : Keep kc kw s0 s) : Keep kc kw s0 (State.checkRefs s n a b) := by
  unfold State.checkRefs
  repeat' first
    | with_reducible assumption | with_reducible apply Keep.ite | with_reducible apply State.checkLimp_keep
    | with_reducible apply State.lostSet_keep | with_reducible apply State.failBits_keep | with_reducible apply Keep.onLane
    | with_reducible apply Keep.onCtr | extract_lets | exact LaneK.of_core rfl | (intros; assumption) | intro _

theorem State.runVectors_keep {n : Lane} {okS okB : Bool} (hK : Keep kc kw s0 s) : Keep kc kw s0 (State.runVectors s n okS okB) := by
  unfold State.runVectors
  repeat' first
    | with_reducible assumption | with_reducible apply Keep.ite | with_reducible apply State.markBit_keep
    | with_reducible apply State.checkLimp_keep | with_reducible apply State.lostSet_keep | with_reducible apply Keep.onLane
    | with_reducible apply Keep.onSet | with_reducible apply Keep.log | extract_lets | (simp only [Keep.rest_iff]) | exact LaneK.of_core rfl
    | (intros; assumption) | intro _

theorem State.armQuench_keep {n : Lane} (hK : Keep kc kw s0 s) : Keep kc kw s0 (State.armQuench s n) := by
  unfold State.armQuench
  repeat' first
    | with_reducible assumption | with_reducible apply Keep.ite | with_reducible apply State.supplyQuench_keep
    | with_reducible apply Keep.onSup | extract_lets | intro _

theorem State.alignCarrier_keep {n : Lane} {err : Int} (hK : Keep kc kw s0 s) : Keep kc kw s0 (State.alignCarrier s n err) := by
  unfold State.alignCarrier
  repeat' first
    | with_reducible assumption | with_reducible apply Keep.ite | with_reducible apply Keep.onCtr | extract_lets | intro _

theorem State.resumeSets_keep {n : Lane} (hK : Keep kc kw s0 s) : Keep kc kw s0 (State.resumeSets s n) := by
  unfold State.resumeSets
  repeat' first
    | with_reducible assumption | with_reducible apply Keep.ite | with_reducible apply Keep.onLane | extract_lets
    | (simp only [Keep.rest_iff]) | exact LaneK.of_core rfl | (intros; assumption) | intro _

theorem State.countTime_keep {n : Lane} (hK : Keep kc kw s0 s) : Keep kc kw s0 (State.countTime s n) := by
  unfold State.countTime
  repeat' first
    | with_reducible assumption | with_reducible apply Keep.onLane | extract_lets | exact LaneK.of_core rfl

theorem State.sendReports_keep {n : Lane} (hK : Keep kc kw s0 s) : Keep kc kw s0 (State.sendReports s n) := by
  unfold State.sendReports
  repeat' first
    | with_reducible assumption | with_reducible apply Keep.ite | with_reducible apply State.pushItem_keep
    | with_reducible apply State.pushBoth_keep | with_reducible apply State.pushBothFirst_keep
    | with_reducible apply State.sendSnapshot_keep | with_reducible apply Keep.onLane | with_reducible apply Keep.foldl | extract_lets
    | exact LaneK.of_core rfl | (intros; assumption) | (intro _ _ _; beta_reduce) | intro _

theorem State.sendFrames_keep {n : Lane} (hK : Keep kc kw s0 s) : Keep kc kw s0 (State.sendFrames s n) := by
  unfold State.sendFrames
  repeat' first
    | with_reducible assumption | with_reducible apply Keep.onLane | with_reducible apply Keep.onLink | with_reducible apply Keep.foldl
    | extract_lets | exact LaneK.of_core rfl | (intro _ _ _; beta_reduce)

theorem State.reformStale_keep {n : Lane} (hK : Keep kc kw s0 s) : Keep kc kw s0 (State.reformStale s n) := by
  unfold State.reformStale
  repeat' first
    | with_reducible assumption | with_reducible apply Keep.ite | with_reducible apply State.reform_keep | extract_lets
    | (intros; assumption) | intro _

theorem State.pwmPeak_keep {n : Lane} {m : PeriodSample} (hK : Keep kc kw s0 s) : Keep kc kw s0 (State.pwmPeak s n m) := by
  unfold State.pwmPeak
  repeat' first
    | with_reducible assumption | with_reducible apply Keep.ite | with_reducible apply State.startRejoined_keep
    | with_reducible apply State.formConsensus_keep | with_reducible apply State.countNear_keep | with_reducible apply State.runVectors_keep
    | with_reducible apply State.armQuench_keep | with_reducible apply State.alignCarrier_keep | with_reducible apply State.resumeSets_keep
    | with_reducible apply State.countTime_keep | with_reducible apply State.reformStale_keep | with_reducible apply Keep.onLane
    | exact LaneK.of_core (LaneSt.servoEdges_core _ _) | extract_lets | (simp only [Keep.rest_iff]) | intro _

theorem State.tripLeg_keep {n : Lane} {x : Axis} {p : Phase} (hK : Keep kc kw s0 s) : Keep kc kw s0 (State.tripLeg s n x p) := by
  unfold State.tripLeg
  repeat' first
    | with_reducible assumption | with_reducible apply State.checkLimp_keep | with_reducible apply State.lostSet_keep
    | with_reducible apply Keep.onSet

theorem State.logFindings_keep {n : Lane} {x : Axis} {fs : List (Nat × Phase × Nat)} (hK : Keep kc kw s0 s) : Keep kc kw s0 (State.logFindings s n x fs) := by
  unfold State.logFindings
  repeat' first
    | with_reducible assumption | with_reducible apply Keep.ite | with_reducible apply Keep.log | with_reducible apply Keep.foldl
    | extract_lets | (intros; assumption) | (intro _ _ _; beta_reduce) | intro _

theorem State.testSet_keep {n : Lane} {x : Axis} {m : SetReadings} (hK : Keep kc kw s0 s) : Keep kc kw s0 (State.testSet s n x m) := by
  unfold State.testSet
  repeat' first
    | with_reducible assumption | with_reducible apply Keep.ite | with_reducible apply State.logFindings_keep
    | with_reducible apply Keep.onSet | extract_lets | (intros; assumption) | intro _

theorem State.testGeyser_keep {n : Lane} {m : OffStateSample} (hK : Keep kc kw s0 s) : Keep kc kw s0 (State.testGeyser s n m) := by
  unfold State.testGeyser
  repeat' first
    | with_reducible assumption | with_reducible apply Keep.ite | with_reducible apply State.onGey_keep
    | with_reducible apply State.failGeyser_keep | extract_lets | intro _

theorem State.openTransfer_keep {kind total : Nat} {id : Word} (hK : Keep kc kw s0 s) : Keep kc kw s0 (State.openTransfer s kind total id) := by
  unfold State.openTransfer
  repeat' first
    | with_reducible assumption | with_reducible apply Keep.onLanes | with_reducible apply Keep.onM | extract_lets
    | (simp only [Keep.rest_iff]) | exact LaneK.of_core rfl | intro _

theorem State.restartModule_keep  (hK : Keep kc kw s0 s) : Keep kc kw s0 (State.restartModule s) := by
  unfold State.restartModule
  repeat' first
    | with_reducible assumption | with_reducible apply State.setMode_keep | with_reducible apply State.restart_keep
    | with_reducible apply Keep.onLanes | with_reducible apply Keep.onSec | with_reducible apply Keep.onM | with_reducible apply Keep.foldl
    | exact fun _ => ⟨by decide, by decide⟩ | extract_lets | (simp only [Keep.rest_iff]) | exact LaneK.of_core rfl
    | (intros; exact SecSt.OneWay.of_eq rfl rfl rfl rfl) | (intro _ _ _; beta_reduce) | intro _

theorem State.raise_keep {n : Lane} {v : Byte} (hK : Keep kc kw s0 s) : Keep kc kw s0 (State.raise s n v) := by
  unfold State.raise
  have h0 : Keep kc kw s0 (s.onSec n (fun x => { x with raiseDue := none })) := Keep.onSec hK (fun _ => .of_eq rfl rfl rfl rfl)
  dsimp only
  refine Keep.ite (fun _ => h0) (fun _ => Keep.ite (fun _ => Keep.log h0) (fun _ => Keep.log (Keep.onSec hK (fun x => ?_))))
  exact ⟨fun _ => rfl, fun _ => rfl, id, List.prefix_append _ _⟩

theorem State.copyFirmware_keep {n p : Lane} {e : BootReport} (hK : Keep kc kw s0 s) : Keep kc kw s0 (State.copyFirmware s n p e) := by
  unfold State.copyFirmware
  repeat' first
    | with_reducible assumption | with_reducible apply Keep.ite | with_reducible apply State.pushItem_keep | with_reducible apply Keep.foldl
    | extract_lets | (intros; assumption) | (intro _ _ _; beta_reduce) | intro _ | split

theorem State.sendKeys_keep {n p : Lane} {e : BootReport} (hK : Keep kc kw s0 s) : Keep kc kw s0 (State.sendKeys s n p e) := by
  unfold State.sendKeys
  repeat' first
    | with_reducible assumption | with_reducible apply Keep.ite | with_reducible apply State.pushItem_keep | with_reducible apply Keep.foldl
    | extract_lets | (intros; assumption) | (intro _ _ _; beta_reduce) | intro _

theorem State.takeKeys_keep {n : Lane} {pkg : List Byte} (hK : Keep kc kw s0 s) : Keep kc kw s0 (State.takeKeys s n pkg) := by
  unfold State.takeKeys
  repeat' first
    | with_reducible assumption | with_reducible apply Keep.ite | with_reducible apply Keep.onSec | extract_lets
    | (intros; exact SecSt.OneWay.of_eq rfl rfl rfl rfl) | (intros; assumption) | intro _ | split

theorem State.takeOwner_keep {n : Lane} {pkg : List Byte} (hK : Keep kc kw s0 s) : Keep kc kw s0 (State.takeOwner s n pkg) := by
  unfold State.takeOwner
  dsimp only
  split
  · exact Keep.onSec hK (fun x => SecSt.fuse_oneWay x _)
  · exact hK

theorem State.pendAlmanac_keep {pkg : List Byte} (hw : kw = true) (hK : Keep kc kw s0 s) : Keep kc kw s0 (State.pendAlmanac s pkg) := by
  unfold State.pendAlmanac
  refine Keep.onLanes hK (fun _ l => LaneK.ite (fun _ => ?_) (fun _ => .refl _))
  exact LaneK.of_writeBytes (x := l.net.almBase) (d := pkg) hw rfl rfl rfl ⟨rfl, fun _ => rfl, fun _ => rfl, id, List.prefix_refl _⟩ rfl

theorem State.tryBank_keep {n : Lane} {b : BootChecks} {k : BitVec 2} (hK : Keep kc kw s0 s) : Keep kc kw s0 (State.tryBank s n b k) := by
  unfold State.tryBank
  repeat' first
    | with_reducible assumption | with_reducible apply Keep.ite | with_reducible apply State.failTrial_keep
    | with_reducible apply Keep.onSec | with_reducible apply State.logStored_keep | extract_lets | (intros; exact SecSt.OneWay.of_eq rfl rfl rfl rfl)
    | (intros; assumption) | intro _

theorem State.bootBank_keep {n : Lane} {b : BootChecks} (hK : Keep kc kw s0 s) : Keep kc kw s0 (State.bootBank s n b) := by
  unfold State.bootBank
  repeat' first
    | with_reducible assumption | with_reducible apply State.tryBank_keep | with_reducible apply Keep.onLane
    | with_reducible apply Keep.onSec | with_reducible apply Keep.foldl | extract_lets | exact LaneK.of_core rfl
    | (intros; exact SecSt.OneWay.of_eq rfl rfl rfl rfl) | (intro _ _ _; beta_reduce)

theorem State.bootAlmanac_keep {n : Lane} {b : BootChecks} (hK : Keep kc kw s0 s) : Keep kc kw s0 (State.bootAlmanac s n b) := by
  unfold State.bootAlmanac
  repeat' first
    | with_reducible assumption | with_reducible apply Keep.ite | with_reducible apply Keep.onNet | with_reducible apply Keep.log | with_reducible apply State.logStored_keep
    | extract_lets | (simp only [Keep.rest_iff]) | intro _ | split

theorem State.bootKeys_keep {n : Lane} {b : BootChecks} (hK : Keep kc kw s0 s) : Keep kc kw s0 (State.bootKeys s n b) := by
  unfold State.bootKeys
  repeat' first
    | with_reducible assumption | with_reducible apply Keep.ite | with_reducible apply Keep.onSec
    | with_reducible apply State.logStored_keep | extract_lets | (intros; exact SecSt.OneWay.of_eq rfl rfl rfl rfl) | intro _

theorem State.bootParams_keep {n : Lane} {b : BootChecks} (hK : Keep kc kw s0 s) : Keep kc kw s0 (State.bootParams s n b) := by
  unfold State.bootParams
  repeat' first
    | with_reducible assumption | with_reducible apply Keep.ite | with_reducible apply Keep.onLane | with_reducible apply Keep.log | with_reducible apply State.logStored_keep
    | extract_lets | (simp only [Keep.rest_iff]) | exact LaneK.of_core rfl | intro _ | split

theorem State.bootBist_keep {n : Lane} {b : BootChecks} (hK : Keep kc kw s0 s) : Keep kc kw s0 (State.bootBist s n b) := by
  unfold State.bootBist
  repeat' first
    | with_reducible assumption | with_reducible apply State.failBits_keep | with_reducible apply Keep.onLane | extract_lets
    | exact LaneK.of_core rfl

theorem State.release_keep {n : Lane} (hK : Keep kc kw s0 s) : Keep kc kw s0 (State.release s n) := by
  unfold State.release
  repeat' first
    | with_reducible assumption | with_reducible apply Keep.ite | with_reducible apply State.failTrial_keep
    | with_reducible apply Keep.onLane | with_reducible apply Keep.log | with_reducible apply Keep.foldl | extract_lets
    | (simp only [Keep.rest_iff]) | exact LaneK.of_core rfl | (intro _ _ _; beta_reduce) | intro _

theorem State.otpWord_keep {n : Lane} {a : Nat} (hK : Keep kc kw s0 s) : Keep kc kw s0 (State.otpWord s n a).1 := by
  unfold State.otpWord
  repeat' first
    | with_reducible assumption | with_reducible apply State.eccFault_keep | with_reducible apply Keep.onCtr | with_reducible apply Keep.log
    | split

theorem State.checkOtp_keep {n : Lane} {bits : List (BitVec 7 × Dword × Byte)} (hK : Keep kc kw s0 s) : Keep kc kw s0 (State.checkOtp s n bits).1 := by
  unfold State.checkOtp
  extract_lets s1 at_ q
  have h1 : Keep kc kw s0 s1 := hK.foldl (fun s e h => Keep.onLane h (.of_core rfl))
  have h2 : ∀ (l : List Nat) (z : State × Bool), Keep kc kw s0 z.1 →
      Keep kc kw s0 (l.foldl (fun q a => ((q.1.otpWord n a).1, q.2 && (q.1.otpWord n a).2)) z).1 := by
    intro l
    induction l with
    | nil => exact fun _ h => h
    | cons a r ih => exact fun z h => ih _ (State.otpWord_keep h)
  exact Keep.onLane (h2 at_ (s1, true) h1) (.of_core rfl)

theorem State.bootSteps_keep {n : Lane} {b : BootChecks} (hK : Keep kc kw s0 s) : Keep kc kw s0 (State.bootSteps s n b) := by
  unfold State.bootSteps
  repeat' first
    | with_reducible assumption | with_reducible apply Keep.ite | with_reducible apply State.failBits_keep
    | with_reducible apply State.failBoot_keep | with_reducible apply State.bootBank_keep | with_reducible apply State.bootAlmanac_keep
    | with_reducible apply State.bootKeys_keep | with_reducible apply State.bootParams_keep | with_reducible apply State.bootBist_keep
    | with_reducible apply State.checkOtp_keep | with_reducible apply Keep.onLane | with_reducible apply Keep.onSec
    | with_reducible apply Keep.onRst | extract_lets | (simp only [Keep.rest_iff]) | exact LaneK.of_core rfl
    | (intros; exact SecSt.OneWay.of_eq rfl rfl rfl rfl) | intro _

theorem State.reviewRelay_keep {n : Lane} (hK : Keep kc kw s0 s) : Keep kc kw s0 (State.reviewRelay s n) := by
  unfold State.reviewRelay
  repeat' first
    | with_reducible assumption | with_reducible apply Keep.ite | with_reducible apply Keep.onNet | with_reducible apply Keep.log
    | extract_lets | (simp only [Keep.rest_iff]) | (intros; assumption) | intro _

theorem State.reviewSync_keep {n : Lane} (hK : Keep kc kw s0 s) : Keep kc kw s0 (State.reviewSync s n) := by
  unfold State.reviewSync
  repeat' first
    | with_reducible assumption | with_reducible apply Keep.onLane | extract_lets | exact LaneK.of_core rfl

theorem State.passiveChan_keep {n : Lane} {c : Chan} {reason : BitVec 3} (hK : Keep kc kw s0 s) : Keep kc kw s0 (State.passiveChan s n c reason) := by
  unfold State.passiveChan
  repeat' first
    | with_reducible assumption | with_reducible apply Keep.ite | with_reducible apply State.endCable_keep
    | with_reducible apply State.reviewRelay_keep | with_reducible apply State.reviewSync_keep | with_reducible apply Keep.onChan
    | with_reducible apply Keep.log | extract_lets | (intros; assumption) | intro _

theorem State.passiveLane_keep {n : Lane} {reason : BitVec 3} (hK : Keep kc kw s0 s) : Keep kc kw s0 (State.passiveLane s n reason) := by
  unfold State.passiveLane
  repeat' first
    | with_reducible assumption | with_reducible apply State.passiveChan_keep

theorem State.integrate_keep {n : Lane} {c : Chan} (hK : Keep kc kw s0 s) : Keep kc kw s0 (State.integrate s n c) := by
  unfold State.integrate
  repeat' first
    | with_reducible assumption | with_reducible apply State.tryReady_keep | with_reducible apply State.reviewRelay_keep
    | with_reducible apply State.reviewSync_keep | with_reducible apply Keep.onLane | with_reducible apply Keep.onChan
    | with_reducible apply Keep.log | extract_lets | exact LaneK.of_core rfl

theorem State.receive_keep {n : Lane} {c : Chan} {f : HFrame} (hK : Keep kc kw s0 s) : Keep kc kw s0 (State.receive s n c f).1 := by
  unfold State.receive
  repeat' first
    | with_reducible assumption | with_reducible apply Keep.ite | with_reducible apply Keep.onChan | with_reducible apply Keep.log
    | extract_lets | (simp only [Keep.rest_iff]) | intro _ | split | dsimp +zetaDelta only

theorem State.takeCommand_keep {n : Lane} {f : HFrame} (hK : Keep kc kw s0 s) : Keep kc kw s0 (State.takeCommand s n f).1 := by
  unfold State.takeCommand
  repeat' first
    | with_reducible assumption | with_reducible apply Keep.ite | with_reducible apply Keep.onNet | with_reducible apply Keep.onCtr
    | with_reducible apply Keep.log | extract_lets | (simp only [Keep.rest_iff]) | intro _ | split

theorem State.offerRelay_keep {n : Lane} {c : Chan} {f : HFrame} (hK : Keep kc kw s0 s) : Keep kc kw s0 (State.offerRelay s n c f) := by
  unfold State.offerRelay
  repeat' first
    | with_reducible assumption | with_reducible apply Keep.ite | with_reducible apply Keep.onLink | with_reducible apply Keep.foldl
    | extract_lets | (intros; assumption) | (intro _ _ _; beta_reduce) | intro _

theorem State.capsPart_keep {n : Lane} {c : Call} {fcp hiolo : Nat} (hK : Keep kc kw s0 s) : Keep kc kw s0 (State.capsPart s n c fcp hiolo) := by
  unfold State.capsPart
  repeat' first
    | with_reducible assumption | with_reducible apply Keep.ite | with_reducible apply State.integrate_keep
    | with_reducible apply Keep.onNet | (intro _; exact NetSt.putVersion_replies ..) | extract_lets | (simp only [Keep.rest_iff]) | intro _
    | split

theorem State.appendRelay_keep {n p : Lane} {room : Nat} (hK : Keep kc kw s0 s) : Keep kc kw s0 (State.appendRelay s n p room).1 := by
  unfold State.appendRelay
  repeat' first
    | with_reducible assumption | with_reducible apply Keep.onLink | (simp only [Keep.rest_iff]) | split

theorem State.latchStatus_keep {n : Lane} {room : Nat} (hK : Keep kc kw s0 s) : Keep kc kw s0 (State.latchStatus s n room) := by
  unfold State.latchStatus
  dsimp only
  refine Keep.onLane ?_ (LaneK.of_bounds rfl id (fun h => ?_) (.refl _) (fun _ => id))
  · split
    · exact State.appendRelay_keep (State.appendRelay_keep hK)
    · exact hK
  · show (List.drop _ _).length ≤ 32
    rw [List.length_drop]; omega

theorem State.transmit_keep {n : Lane} {w p : Nat} {null : Bool} (hK : Keep kc kw s0 s) : Keep kc kw s0 (State.transmit s n w p null) := by
  unfold State.transmit
  repeat' first
    | with_reducible assumption | with_reducible apply Keep.ite | with_reducible apply Keep.onChan | with_reducible apply Keep.foldl
    | extract_lets | (intros; assumption) | (intro _ _ _; beta_reduce) | intro _

theorem State.relayStatus_keep {n p : Lane} (hK : Keep kc kw s0 s) : Keep kc kw s0 (State.relayStatus s n p) := by
  unfold State.relayStatus
  repeat' first
    | with_reducible assumption | with_reducible apply Keep.onLink

theorem State.block_keep {n : Lane} {c : Chan} (hK : Keep kc kw s0 s) : Keep kc kw s0 (State.block s n c) := by
  unfold State.block
  repeat' first
    | with_reducible assumption | with_reducible apply Keep.ite | with_reducible apply State.passiveChan_keep
    | with_reducible apply Keep.onChan | extract_lets | (intros; assumption) | intro _

theorem State.pulse_keep {n : Lane} (hK : Keep kc kw s0 s) : Keep kc kw s0 (State.pulse s n) := by
  unfold State.pulse
  repeat' first
    | with_reducible assumption | with_reducible apply Keep.ite | with_reducible apply Keep.onChan | extract_lets | (intros; assumption)
    | intro _

theorem State.repliesLeft_keep {n : Lane} (hK : Keep kc kw s0 s) : Keep kc kw s0 (State.repliesLeft s n) := by
  unfold State.repliesLeft
  repeat' first
    | with_reducible assumption | with_reducible apply Keep.ite | with_reducible apply State.restartModule_keep
    | with_reducible apply Keep.onM | extract_lets | (intros; assumption) | intro _

theorem State.stepTime_keep {n : Lane} {addr : Word} {d : Int} (hK : Keep kc kw s0 s) : Keep kc kw s0 (State.stepTime s n addr d) := by
  unfold State.stepTime
  repeat' first
    | with_reducible assumption | with_reducible apply Keep.onLane | with_reducible apply Keep.log | extract_lets | exact LaneK.of_core rfl

theorem State.checkEnable_keep {n : Lane} {c : Chan} {high : Nat} (hK : Keep kc kw s0 s) : Keep kc kw s0 (State.checkEnable s n c high) := by
  unfold State.checkEnable
  repeat' first
    | with_reducible assumption | with_reducible apply Keep.ite | with_reducible apply State.failBits_keep
    | with_reducible apply Keep.onLane | extract_lets | exact LaneK.of_core rfl | (intros; assumption) | intro _

theorem State.enterService_keep {session : Half} (hK : Keep kc kw s0 s) : Keep kc kw s0 (State.enterService s session) := by
  unfold State.enterService
  repeat' first
    | with_reducible assumption | with_reducible apply Keep.ite | with_reducible apply State.setMode_keep
    | with_reducible apply State.takeEffect_keep | with_reducible apply State.enterRejoin_keep | with_reducible apply Keep.onLane
    | with_reducible apply Keep.onVote | with_reducible apply Keep.onM | with_reducible apply Keep.forLanes | extract_lets
    | (simp only [Keep.rest_iff]) | exact LaneK.of_core rfl | (intros; assumption) | (intro _ _ _; beta_reduce) | intro _

theorem State.joinTorque_keep {n : Lane} (hK : Keep kc kw s0 s) : Keep kc kw s0 (State.joinTorque s n) := by
  unfold State.joinTorque
  repeat' first
    | with_reducible assumption | with_reducible apply Keep.ite | with_reducible apply State.reform_keep
    | with_reducible apply State.enterRejoin_keep | with_reducible apply Keep.onLane | with_reducible apply Keep.onM | extract_lets
    | (simp only [Keep.rest_iff]) | exact LaneK.of_core rfl | intro _

theorem State.beginLoad_keep {n : Lane} {xs : List Axis} {q : BitVec 4} (hK : Keep kc kw s0 s) : Keep kc kw s0 (State.beginLoad s n xs q) := by
  unfold State.beginLoad
  repeat' first
    | with_reducible assumption | with_reducible apply Keep.onSet | with_reducible apply Keep.onM | with_reducible apply Keep.foldl
    | extract_lets | (simp only [Keep.rest_iff]) | (intro _ _ _; beta_reduce)

theorem State.beginCable_keep {n : Lane} {ch : Chan} (hK : Keep kc kw s0 s) : Keep kc kw s0 (State.beginCable s n ch) := by
  unfold State.beginCable
  repeat' first
    | with_reducible assumption | with_reducible apply Keep.onChan | extract_lets | (simp only [Keep.rest_iff])

theorem State.beginTest_keep {ls : List Lane} {mask : Half} (hK : Keep kc kw s0 s) : Keep kc kw s0 (State.beginTest s ls mask) := by
  unfold State.beginTest
  repeat' first
    | with_reducible assumption | extract_lets | (simp only [Keep.rest_iff])

theorem State.clearBits_keep {n : Lane} {done_ bad : Byte} {badBits : Dword} (hK : Keep kc kw s0 s) : Keep kc kw s0 (State.clearBits s n done_ bad badBits) := by
  unfold State.clearBits
  repeat' first
    | with_reducible assumption | with_reducible apply Keep.ite | with_reducible apply Keep.onChan | with_reducible apply Keep.onCtr
    | with_reducible apply Keep.log | with_reducible apply Keep.foldl | extract_lets | (simp only [Keep.rest_iff]) | (intros; assumption)
    | (intro _ _ _; beta_reduce) | intro _

theorem State.clearLane_keep {n : Lane} {scope : Byte} {session : Half} (hK : Keep kc kw s0 s) :
    Keep kc kw s0 (State.clearLane s n scope session) := by
  unfold State.clearLane
  refine Keep.log (Keep.onLane hK ?_)
  have h1 : LaneK kc kw (s.lane n) (if scope.getLsbD 0 then (s.lane n).clearLog else s.lane n) :=
    LaneK.ite (fun _ => LaneSt.clearLog_keep _) (fun _ => .refl _)
  refine LaneK.ite (fun _ => LaneK.trans ?_ (LaneSt.clearCounters_keep _)) (fun _ => ?_)
  all_goals exact LaneK.ite (fun _ => h1.trans (.of_core rfl)) (fun _ => h1)

theorem State.clearLanes_keep {ls : List Lane} {scope : Byte} {session : Half} (hK : Keep kc kw s0 s) : Keep kc kw s0 (State.clearLanes s ls scope session) := by
  unfold State.clearLanes
  repeat' first
    | with_reducible assumption | with_reducible apply Keep.ite | with_reducible apply State.clearLane_keep
    | with_reducible apply Keep.foldl | extract_lets | (simp only [Keep.rest_iff]) | (intro _ _ _; beta_reduce) | intro _

theorem State.serveKept_keep {n : Lane} {q : Nat × Req × Half × Option (Byte × Word)}
    (hh : ∀ op, HandK kc kw (handlerOf op).1 ∧ PeerK kc kw (handlerOf op).2) (hK : Keep kc kw s0 s) :
    Keep kc kw s0 (State.serveKept s n q) := by
  unfold State.serveKept
  dsimp only
  have hr : Keep kc kw s0 ((s.reply n q.2.2.1 q.2.1 ((handlerOf q.2.2.1).1 s n ((s.lane n).call q.2.2.1 q.2.1))).noteAccepted) :=
    State.noteAccepted_keep (State.reply_keep hK ((hh _).1 _ _ _ _ hK))
  split
  · exact Keep.ite (fun _ => State.replyError_keep hK) (fun _ => hK)
  · refine Keep.ite (fun _ => hK) (fun _ => Keep.ite (fun _ => ?_) (fun _ => (hh _).2 _ _ _ _ hK))
    split
    · exact Keep.ite (fun _ => State.replyError_keep hK) (fun _ => hr)
    · exact hr

theorem State.serveQueue_keep {n : Lane} (hh : ∀ op, HandK kc kw (handlerOf op).1 ∧ PeerK kc kw (handlerOf op).2)
    (hK : Keep kc kw s0 s) : Keep kc kw s0 (State.serveQueue s n) := by
  unfold State.serveQueue
  exact Keep.ite (fun _ => hK) (fun _ => Keep.foldl (Keep.onLane hK (.of_core rfl)) (fun _ _ k => State.serveKept_keep hh k))

theorem State.refuseBroken_keep {n : Lane} {st : Byte} {op : Half} {r : Req} (hK : Keep kc kw s0 s) : Keep kc kw s0 (State.refuseBroken s n st op r) := by
  unfold State.refuseBroken
  repeat' first
    | with_reducible assumption | with_reducible apply Keep.ite | with_reducible apply State.replyError_keep
    | with_reducible apply Keep.onLane | with_reducible apply Keep.onCtr | extract_lets | exact LaneK.of_core rfl | (intros; assumption)
    | intro _

theorem State.takePacket_keep {n : Lane} {x : Parsed} (hh : ∀ op, HandK kc kw (handlerOf op).1 ∧ PeerK kc kw (handlerOf op).2)
    (hK : Keep kc kw s0 s) : Keep kc kw s0 (State.takePacket s n x) := by
  unfold State.takePacket
  split
  · exact State.fcpLane_keep (hh _).1 (hh _).2 hK
  · exact State.refuseBroken_keep hK

theorem State.countFresh_keep {n : Lane} {fresh : Bool} (hK : Keep kc kw s0 s) : Keep kc kw s0 (State.countFresh s n fresh) := by
  unfold State.countFresh
  repeat' first
    | with_reducible assumption | with_reducible apply Keep.ite | with_reducible apply Keep.onM | extract_lets | (intros; assumption)
    | intro _

theorem State.keepBroken_keep {st : Byte} {op : Half} {r : Req} (hK : Keep kc kw s0 s) : Keep kc kw s0 (State.keepBroken s st op r) := by
  unfold State.keepBroken
  repeat' first
    | with_reducible assumption | with_reducible apply Keep.ite | with_reducible apply Keep.onLane | with_reducible apply Keep.forLanes
    | extract_lets | exact LaneK.of_core rfl | (intros; assumption) | (intro _ _ _; beta_reduce) | intro _

theorem parsePacket_at {t : Nat} {c : Carriage} {b : List Byte} {op : Half} {r : Req} {rest : List Byte}
    (h : parsePacket t c b = .packet op r rest) : r.at_ = t := by
  unfold parsePacket at h
  dsimp only at h
  obtain ⟨-, h⟩ | ⟨-, h⟩ := ite_eq_iff.mp h
  · cases h
  · obtain ⟨-, h⟩ | ⟨-, h⟩ := ite_eq_iff.mp h <;> cases h
    rfl

theorem State.hostRequest_keep {b : List Byte} (hh : ∀ op, HandK kc kw (handlerOf op).1 ∧ PeerK kc kw (handlerOf op).2)
    (hK : Keep kc kw s0 s) : Keep kc kw s0 (State.hostRequest s b) := by
  unfold State.hostRequest
  split
  · split
    · exact State.refuseBroken_keep hK
    · exact (State.keepBroken_keep hK).rest ..
  · rename_i op r rest hp
    have hr := parsePacket_at hp
    dsimp only
    have hf : Keep kc kw s0 (State.fcp { s with host := { s.host with busy := s.host.busy || (!r.isReply && takesIn s.m.mode op r && (s.answerer r).isNone) } }
        op r (handlerOf op).1 (handlerOf op).2) := by
      refine State.fcp_keep (hh _).1 (hh _).2 ?_
      refine ⟨hK.pending, ?_, fun n => by have := hK.lane n; cases n <;> exact this⟩
      show max s.now r.at_ = _
      rw [hr, Nat.max_self]; exact hK.now
    exact Keep.ite (fun _ => State.restartModule_keep hf) (fun _ => hf)

theorem State.hostBusy_keep {b : List Byte} (hK : Keep kc kw s0 s) : Keep kc kw s0 (State.hostBusy s b) := by
  unfold State.hostBusy
  repeat' first
    | with_reducible assumption | with_reducible apply State.replyError_keep | with_reducible apply State.keepBroken_keep | extract_lets
    | (simp only [Keep.rest_iff]) | split

theorem State.stepSetpoints_keep {n : Lane} (hK : Keep kc kw s0 s) : Keep kc kw s0 (State.stepSetpoints s n) := by
  unfold State.stepSetpoints
  repeat' first
    | with_reducible assumption | with_reducible apply Keep.ite | with_reducible apply Keep.onProf | extract_lets | (intros; assumption)
    | intro _ | split

theorem State.dropTravel_keep {n : Lane} (hK : Keep kc kw s0 s) : Keep kc kw s0 (State.dropTravel s n) := by
  unfold State.dropTravel
  repeat' first
    | with_reducible assumption | with_reducible apply Keep.ite | with_reducible apply Keep.onProf | extract_lets
    | (simp only [Keep.rest_iff]) | (intros; assumption) | intro _

theorem State.locMove_keep {n : Lane} (hK : Keep kc kw s0 s) : Keep kc kw s0 (State.locMove s n) := by
  unfold State.locMove
  repeat' first
    | with_reducible assumption | with_reducible apply Keep.ite | with_reducible apply Keep.onProf | extract_lets | (intros; assumption)
    | intro _

theorem State.integrateAngle_keep {n : Lane} (hK : Keep kc kw s0 s) : Keep kc kw s0 (State.integrateAngle s n) := by
  unfold State.integrateAngle
  repeat' first
    | with_reducible assumption | with_reducible apply Keep.onLane | extract_lets | exact LaneK.of_core rfl

theorem State.latchLegs_keep {n : Lane} (hK : Keep kc kw s0 s) : Keep kc kw s0 (State.latchLegs s n) := by
  unfold State.latchLegs
  repeat' first
    | with_reducible assumption | with_reducible apply Keep.onLane | extract_lets | (simp only [Keep.rest_iff]) | exact LaneK.of_core rfl

theorem State.stepShares_keep {n : Lane} (hK : Keep kc kw s0 s) : Keep kc kw s0 (State.stepShares s n) := by
  unfold State.stepShares
  extract_lets now s1
  have h1 : Keep kc kw s0 s1 := Keep.onLane (State.latchLegs_keep hK) (.of_core rfl)
  clear_value s1
  refine Keep.ite (fun _ => State.reform_keep (Keep.onLane h1 ?_)) (fun _ => State.reform_keep h1)
  exact .of_core (by dsimp only [LaneSt.core])

theorem State.stepTorque_keep {n : Lane} (hK : Keep kc kw s0 s) : Keep kc kw s0 (State.stepTorque s n).1 := by
  unfold State.stepTorque
  repeat' first
    | with_reducible assumption | with_reducible apply Keep.ite | with_reducible apply State.reform_keep | with_reducible apply Keep.onLane
    | with_reducible apply Keep.onProf | extract_lets | (simp only [Keep.rest_iff]) | exact LaneK.of_core rfl | intro _

theorem State.stopEnd_keep {n : Lane} (hK : Keep kc kw s0 s) : Keep kc kw s0 (State.stopEnd s n) := by
  unfold State.stopEnd
  repeat' first
    | with_reducible assumption | with_reducible apply Keep.ite | with_reducible apply State.leaveService_keep
    | with_reducible apply State.reviewStop_keep | with_reducible apply Keep.onM | extract_lets | (intros; assumption) | intro _

theorem State.noteSlow_keep {n : Lane} (hK : Keep kc kw s0 s) : Keep kc kw s0 (State.noteSlow s n) := by
  unfold State.noteSlow
  repeat' first
    | with_reducible assumption | with_reducible apply Keep.onM

theorem State.followSteer_keep {n : Lane} (hK : Keep kc kw s0 s) : Keep kc kw s0 (State.followSteer s n) := by
  unfold State.followSteer
  repeat' first
    | with_reducible assumption | with_reducible apply Keep.ite | with_reducible apply State.endSteerHold_keep | extract_lets
    | (simp only [Keep.rest_iff]) | (intros; assumption) | intro _

theorem State.followBrake_keep {n : Lane} (hK : Keep kc kw s0 s) : Keep kc kw s0 (State.followBrake s n) := by
  unfold State.followBrake
  repeat' first
    | with_reducible assumption | with_reducible apply Keep.ite | with_reducible apply State.endBrakeHold_keep | extract_lets
    | (simp only [Keep.rest_iff]) | (intros; assumption) | intro _

theorem State.liftAxis_keep {n : Lane} {x : Axis} (hK : Keep kc kw s0 s) : Keep kc kw s0 (State.liftAxis s n x) := by
  unfold State.liftAxis
  repeat' first
    | with_reducible assumption | with_reducible apply Keep.ite | with_reducible apply State.reformAll_keep
    | with_reducible apply State.onEngines_keep | with_reducible apply State.startAcquisition_keep | with_reducible apply Keep.onLanes
    | with_reducible apply Keep.onM | extract_lets | exact LaneK.of_core (LaneSt.onCon_core ..) | (intros; assumption) | intro _

theorem State.stepEntry_keep  (hK : Keep kc kw s0 s) : Keep kc kw s0 (State.stepEntry s) := by
  unfold State.stepEntry
  repeat' first
    | with_reducible assumption | with_reducible apply Keep.ite | with_reducible apply Keep.onM | extract_lets | (intros; assumption)
    | intro _

theorem State.endServiceMove_keep {n : Lane} (hK : Keep kc kw s0 s) : Keep kc kw s0 (State.endServiceMove s n) := by
  unfold State.endServiceMove
  repeat' first
    | with_reducible assumption | with_reducible apply Keep.ite | with_reducible apply State.floatAll_keep | extract_lets
    | (intros; assumption) | intro _

theorem State.endAborted_keep {n : Lane} (hK : Keep kc kw s0 s) : Keep kc kw s0 (State.endAborted s n) := by
  unfold State.endAborted
  repeat' first
    | with_reducible assumption | with_reducible apply Keep.ite | with_reducible apply State.floatAll_keep | extract_lets
    | (intros; assumption) | intro _

theorem State.stepTwin_keep {qs qb : Int} (hK : Keep kc kw s0 s) : Keep kc kw s0 (State.stepTwin s qs qb) := by
  unfold State.stepTwin
  repeat' first
    | with_reducible assumption | with_reducible apply Keep.ite | with_reducible apply Keep.foldl | extract_lets
    | (simp only [Keep.rest_iff]) | (intros; assumption) | (intro _ _ _; beta_reduce) | intro _

theorem State.leaderStep_keep {n : Lane} {qs qb : Int} (hK : Keep kc kw s0 s) : Keep kc kw s0 (State.leaderStep s n qs qb) := by
  unfold State.leaderStep
  repeat' first
    | with_reducible assumption | with_reducible apply State.checkLimp_keep | with_reducible apply State.noteLate_keep
    | with_reducible apply State.homingStep_keep | with_reducible apply State.stopEnd_keep | with_reducible apply State.noteSlow_keep
    | with_reducible apply State.followSteer_keep | with_reducible apply State.followBrake_keep | with_reducible apply State.liftAxis_keep
    | with_reducible apply State.stepEntry_keep | with_reducible apply State.endServiceMove_keep
    | with_reducible apply State.endAborted_keep | with_reducible apply State.stepTwin_keep | with_reducible apply Keep.onM

theorem State.startAxis_keep {x : Axis} (hK : Keep kc kw s0 s) : Keep kc kw s0 (State.startAxis s x) := by
  unfold State.startAxis
  repeat' first
    | with_reducible assumption | with_reducible apply Keep.ite | with_reducible apply State.startAcquisition_keep
    | with_reducible apply Keep.onLanes | with_reducible apply Keep.onLane | with_reducible apply Keep.onSet
    | with_reducible apply Keep.foldl | extract_lets | (simp only [Keep.rest_iff]) | exact LaneK.of_core (LaneSt.onCon_core ..)
    | exact LaneK.of_core (LaneSt.onSet_core ..) | (intro _ _ _; beta_reduce) | intro _ | split

theorem State.catchSet_keep {n : Lane} {x : Axis} {m : CatchSample} (hK : Keep kc kw s0 s) : Keep kc kw s0 (State.catchSet s n x m).1 := by
  unfold State.catchSet
  repeat' first
    | with_reducible assumption | with_reducible apply Keep.ite | with_reducible apply State.logFindings_keep
    | with_reducible apply Keep.onSet | with_reducible apply Keep.log | extract_lets | (simp only [Keep.rest_iff]) | intro _ | split

theorem State.endCatchStep_keep {n : Lane} (hK : Keep kc kw s0 s) : Keep kc kw s0 (State.endCatchStep s n) := by
  unfold State.endCatchStep
  repeat' first
    | with_reducible assumption | with_reducible apply Keep.onLane | extract_lets | exact LaneK.of_core rfl

end Sys2Proof.Machine
end

