-- ==== Sys2Proof/Laws/KeepFcp.lean ====
section
/-! SUPPORT. Every operation of the protocol keeps what the module keeps. -/

namespace Sys2Proof.Machine

variable {kc kw : Bool} {s0 s : State}

theorem State.piecewise_keep {n : Lane} {c : Call} {off : Nat} {record : List Byte} (hK : Keep kc kw s0 s) : AnsK kc kw s0 (State.piecewise s n c off record) := by
  unfold State.piecewise
  repeat' first
    | with_reducible assumption | with_reducible apply Keep.ite | with_reducible apply Keep.onSec | exact True.intro
    | with_reducible apply AnsK.ite | (show Keep _ _ _ _) | extract_lets | (intros; exact SecSt.OneWay.of_eq rfl rfl rfl rfl)
    | (intros; assumption) | intro _

theorem motionHandler_keep {chk : MotionCheck} {eff : MotionEffect} {brake : Bool} : HandK kc kw (motionHandler chk eff brake) := by
  intro s0 s n c hK
  unfold motionHandler
  split
  · exact True.intro
  · exact Keep.ite (fun _ => State.holdCommand_keep hK) (fun _ => State.applyMotion_keep hK)

theorem holdMotion_keep {chk : MotionCheck} : PeerK kc kw (holdMotion chk) :=
  fun _ _ _ _ hK => Keep.ite (fun _ => State.holdCommand_keep hK) (fun _ => hK)

/-- An answer from a checked read. -/
theorem AnsK.read {q : State × Option (List Byte)} {n : Lane} {f : List Byte → List Byte} (h : Keep kc kw s0 q.1) :
    AnsK kc kw s0 (match q.2 with | some b => .ok q.1 (f b) | none => faultedRead q.1 n) := by
  split
  · exact h
  · exact h

theorem handleParamRead_keep : HandK kc kw handleParamRead := by
  intro s0 s n c hK
  unfold handleParamRead
  dsimp only
  refine AnsK.ite (fun _ => ?_) (fun _ => AnsK.ite (fun _ => ?_) (fun _ => True.intro))
  · split
    · exact hK
    · exact True.intro
  · refine AnsK.ite (fun _ => True.intro) (fun _ => ?_)
    split
    · exact True.intro
    · split
      · exact True.intro
      · exact AnsK.ite (fun _ => True.intro) (fun _ => AnsK.read (State.readBytes_keep hK))

theorem handleParamWrite_keep : HandK kc kw handleParamWrite := by
  intro s0 s n c hK
  unfold handleParamWrite
  repeat' first
    | with_reducible assumption | with_reducible apply State.writePairs_keep | exact True.intro | with_reducible apply AnsK.ite
    | (show Keep _ _ _ _) | extract_lets | intro _ | split

theorem handleParamCommit_keep : HandK kc kw handleParamCommit := by
  intro s0 s n c hK
  unfold handleParamCommit
  repeat' first
    | with_reducible assumption | with_reducible apply State.beginCommit_keep | exact True.intro | with_reducible apply AnsK.ite
    | (show Keep _ _ _ _) | extract_lets | intro _ | split

theorem handleImageInfo_keep : HandK kc kw handleImageInfo := by
  intro s0 s n c hK
  unfold handleImageInfo
  repeat' first
    | with_reducible assumption | with_reducible apply State.piecewise_keep

theorem handleSessionOpen_keep : HandK kc kw handleSessionOpen := by
  intro s0 s n c hK
  unfold handleSessionOpen
  extract_lets l lv k slot open_ host s1 e
  have h1 : Keep kc kw s0 s1 := State.takeEffectIn_keep hK
  refine AnsK.ite (fun _ => True.intro) (fun _ => AnsK.ite (fun _ => True.intro) (fun _ => AnsK.ite (fun _ => True.intro)
    (fun _ => AnsK.ite (fun _ => True.intro) (fun _ => ?_))))
  exact State.pushBoth_keep (State.addSession_keep h1)

theorem handleSessionClose_keep : HandK kc kw handleSessionClose := by
  intro s0 s n c hK
  unfold handleSessionClose
  repeat' first
    | with_reducible assumption | with_reducible apply State.closeSession_keep | exact True.intro | with_reducible apply AnsK.ite
    | (show Keep _ _ _ _) | extract_lets | intro _

theorem handleAttest_keep : HandK kc kw handleAttest := by
  intro s0 s n c hK
  unfold handleAttest
  repeat' first
    | with_reducible assumption | with_reducible apply State.piecewise_keep | with_reducible apply Keep.onSec | exact True.intro
    | with_reducible apply AnsK.ite | (show Keep _ _ _ _) | extract_lets | (intros; exact SecSt.OneWay.of_eq rfl rfl rfl rfl) | intro _
    | split

theorem State.reject_keep {n : Lane} {pkg : List Byte} {order : Nat} {st : Byte} {addr : Nat} (hK : Keep kc kw s0 s) : AnsK kc kw s0 (State.reject s n pkg order st addr) := by
  unfold State.reject
  repeat' first
    | with_reducible assumption | with_reducible apply State.logRejected_keep | (show Keep _ _ _ _)

theorem State.storeKeys_keep {n : Lane} {pkg : List Byte} {base : Nat} (hK : Keep kc kw s0 s) : AnsK kc kw s0 (State.storeKeys s n pkg base) := by
  unfold State.storeKeys
  repeat' first
    | with_reducible assumption | with_reducible apply State.putKeys_keep | with_reducible apply State.reject_keep | (show Keep _ _ _ _)
    | split

theorem State.enrol_keep {n : Lane} {pkg : List Byte} {base : Nat} (hK : Keep kc kw s0 s) : AnsK kc kw s0 (State.enrol s n pkg base) := by
  unfold State.enrol
  repeat' first
    | with_reducible assumption | with_reducible apply State.fuseAll_keep | with_reducible apply State.reject_keep | (show Keep _ _ _ _)
    | split

theorem State.finishKeys_keep {n : Lane} {pkg : List Byte} (hK : Keep kc kw s0 s) : AnsK kc kw s0 (State.finishKeys s n pkg) := by
  unfold State.finishKeys
  repeat' first
    | with_reducible assumption | with_reducible apply State.reject_keep | with_reducible apply State.storeKeys_keep
    | with_reducible apply State.enrol_keep | with_reducible apply AnsK.ite | extract_lets | intro _ | split

theorem handleKeyProvision_keep : HandK kc kw handleKeyProvision := by
  intro s0 s n c hK
  unfold handleKeyProvision
  repeat' first
    | with_reducible assumption | with_reducible apply State.finishKeys_keep | with_reducible apply Keep.onM | exact True.intro
    | with_reducible apply AnsK.ite | (show Keep _ _ _ _) | extract_lets | intro _ | split

theorem handleFwBegin_keep : HandK kc kw handleFwBegin := by
  intro s0 s n c hK
  unfold handleFwBegin
  repeat' first
    | with_reducible assumption | with_reducible apply State.openTransfer_keep | exact True.intro | with_reducible apply AnsK.ite
    | (show Keep _ _ _ _) | extract_lets | intro _ | split

theorem handleFwChunk_keep (hw : kw = true) : HandK kc kw handleFwChunk := by
  intro s0 s n c hK
  unfold handleFwChunk
  repeat' first
    | with_reducible assumption | with_reducible apply Keep.onLanes | exact True.intro | with_reducible apply AnsK.ite | (show Keep _ _ _ _)
    | exact LaneSt.putChunk_keep hw .. | extract_lets | exact LaneK.of_core rfl | (intros; assumption) | intro _
    | with_reducible apply LaneK.ite | split

theorem handleFwVerify_keep : HandK kc kw handleFwVerify := by
  intro s0 s n c hK
  unfold handleFwVerify
  repeat' first
    | with_reducible assumption | with_reducible apply Keep.onM | exact True.intro | with_reducible apply AnsK.ite | (show Keep _ _ _ _)
    | extract_lets | (simp only [Keep.rest_iff]) | (intros; assumption) | intro _

theorem handleFwActivate_keep : HandK kc kw handleFwActivate := by
  intro s0 s n c hK
  unfold handleFwActivate
  repeat' first
    | with_reducible assumption | with_reducible apply State.takeEffect_keep | with_reducible apply Keep.onLanes
    | with_reducible apply Keep.onM | exact True.intro | with_reducible apply AnsK.ite | (show Keep _ _ _ _)
    | exact LaneK.of_core (LaneSt.activate_core ..) | extract_lets | exact LaneK.of_core rfl | intro _ | with_reducible apply LaneK.ite

theorem State.finishAlmanac_keep {n : Lane} {op : Word} {pkg : List Byte} (hw : kw = true) (hK : Keep kc kw s0 s) :
    AnsK kc kw s0 (State.finishAlmanac s n op pkg) := by
  unfold State.finishAlmanac
  dsimp only
  split
  · exact State.reject_keep hK
  · split
    · exact State.reject_keep hK
    · exact State.pendAlmanac_keep hw hK

theorem handleScheduleLoad_keep (hw : kw = true) : HandK kc kw handleScheduleLoad := by
  intro s0 s n c hK
  unfold handleScheduleLoad
  repeat' first
    | with_reducible assumption | with_reducible apply State.finishAlmanac_keep hw | with_reducible apply Keep.onM | exact True.intro
    | with_reducible apply AnsK.ite | (show Keep _ _ _ _) | extract_lets | intro _ | split

theorem handleCapsExchange_keep : HandK kc kw handleCapsExchange := by
  intro s0 s n c hK
  unfold handleCapsExchange
  repeat' first
    | with_reducible assumption | with_reducible apply State.capsPart_keep | exact True.intro | with_reducible apply AnsK.ite
    | (show Keep _ _ _ _) | extract_lets | intro _

theorem peerCapsExchange_keep : PeerK kc kw peerCapsExchange := by
  intro s0 s n c hK
  unfold peerCapsExchange
  repeat' first
    | with_reducible assumption | with_reducible apply Keep.ite | with_reducible apply State.capsPart_keep | extract_lets
    | (intros; assumption) | intro _

theorem handleProfileLimits_keep : HandK kc kw handleProfileLimits := by
  intro s0 s n c hK
  unfold handleProfileLimits
  split
  · exact True.intro
  · exact Keep.ite (fun _ => State.holdCommand_keep hK) (fun _ => State.applyLimits_keep hK)

theorem handleHomingStart_keep : HandK kc kw handleHomingStart := by
  intro s0 s n c hK
  unfold handleHomingStart
  split
  · exact True.intro
  · have h : Keep kc kw s0 (if (s.twinFollows && !c.aborts) = true then s.holdCommand n c else s.applyHoming n c) :=
      Keep.ite (fun _ => State.holdCommand_keep hK) (fun _ => State.applyHoming_keep hK)
    exact AnsK.ite (fun _ => h) (fun _ => h)

theorem handleHomingStatus_keep : HandK kc kw handleHomingStatus := by
  intro s0 s n c hK
  unfold handleHomingStatus
  repeat' first
    | with_reducible assumption | with_reducible apply State.piecewise_keep

theorem State.requestRun_keep {n : Lane} {op : Word} (hK : Keep kc kw s0 s) : AnsK kc kw s0 (State.requestRun s n op) := by
  unfold State.requestRun
  repeat' first
    | with_reducible assumption | with_reducible apply State.takeEffect_keep | with_reducible apply Keep.onM | exact True.intro
    | (show Keep _ _ _ _) | split

theorem State.requestRunFromLimp_keep {n : Lane} {op : Word} (hK : Keep kc kw s0 s) : AnsK kc kw s0 (State.requestRunFromLimp s n op) := by
  unfold State.requestRunFromLimp
  exact AnsK.ite (fun _ => True.intro) (fun _ => Keep.onM (State.enterRun_keep hK))

theorem State.requestService_keep {c : Call} (hK : Keep kc kw s0 s) : AnsK kc kw s0 (State.requestService s c) := by
  unfold State.requestService
  repeat' first
    | with_reducible assumption | with_reducible apply State.enterService_keep | exact True.intro | (show Keep _ _ _ _) | split

theorem State.requestDormant_keep {op : Word} (hK : Keep kc kw s0 s) : AnsK kc kw s0 (State.requestDormant s op) := by
  unfold State.requestDormant
  repeat' first
    | with_reducible assumption | with_reducible apply Keep.onM | exact True.intro | (show Keep _ _ _ _) | split

theorem State.requestReady_keep  (hK : Keep kc kw s0 s) : AnsK kc kw s0 (State.requestReady s) := by
  unfold State.requestReady
  repeat' first
    | with_reducible assumption | with_reducible apply State.beginStop_keep | with_reducible apply State.endService_keep
    | with_reducible apply Keep.onM | with_reducible apply AnsK.ite | (show Keep _ _ _ _) | extract_lets | intro _

theorem handleModeRequest_keep : HandK kc kw handleModeRequest := by
  intro s0 s n c hK
  unfold handleModeRequest
  repeat' first
    | with_reducible assumption | with_reducible apply Keep.ite | with_reducible apply State.requestRun_keep
    | with_reducible apply State.requestRunFromLimp_keep | with_reducible apply State.requestService_keep
    | with_reducible apply State.requestDormant_keep | with_reducible apply State.requestReady_keep | with_reducible apply Keep.onM
    | exact True.intro | with_reducible apply AnsK.ite | (show Keep _ _ _ _) | extract_lets | (intros; assumption) | intro _ | split
    | dsimp +zetaDelta only

theorem handleModeStatus_keep : HandK kc kw handleModeStatus := by
  intro s0 s n c hK
  unfold handleModeStatus
  repeat' first
    | with_reducible assumption | (show Keep _ _ _ _)

theorem handleEnableStatus_keep : HandK kc kw handleEnableStatus := by
  intro s0 s n c hK
  unfold handleEnableStatus
  repeat' first
    | with_reducible assumption | (show Keep _ _ _ _)

theorem State.startLoad_keep {n : Lane} {c : Call} (hK : Keep kc kw s0 s) : AnsK kc kw s0 (State.startLoad s n c) := by
  unfold State.startLoad
  repeat' first
    | with_reducible assumption | with_reducible apply State.beginLoad_keep | exact True.intro | (show Keep _ _ _ _) | extract_lets | split

theorem handleMeasureLoad_keep : HandK kc kw handleMeasureLoad := by
  intro s0 s n c hK
  unfold handleMeasureLoad
  repeat' first
    | with_reducible assumption | with_reducible apply State.piecewise_keep | with_reducible apply State.startLoad_keep | exact True.intro
    | with_reducible apply AnsK.ite | extract_lets | intro _ | split

theorem handleMeasureCable_keep : HandK kc kw handleMeasureCable := by
  intro s0 s n c hK
  unfold handleMeasureCable
  repeat' first
    | with_reducible assumption | with_reducible apply State.beginCable_keep | exact True.intro | with_reducible apply AnsK.ite
    | (show Keep _ _ _ _) | extract_lets | (intros; assumption) | intro _

theorem handleSelftestRun_keep : HandK kc kw handleSelftestRun := by
  intro s0 s n c hK
  unfold handleSelftestRun
  repeat' first
    | with_reducible assumption | with_reducible apply State.beginTest_keep | exact True.intro | (show Keep _ _ _ _) | extract_lets | split

theorem handleSelftestResult_keep : HandK kc kw handleSelftestResult := by
  intro s0 s n c hK
  unfold handleSelftestResult
  repeat' first
    | with_reducible assumption | with_reducible apply State.piecewise_keep

theorem handleHealthRead_keep : HandK kc kw handleHealthRead := by
  intro s0 s n c hK
  unfold handleHealthRead
  repeat' first
    | with_reducible assumption | with_reducible apply State.piecewise_keep | exact True.intro | extract_lets | split

theorem handleTimeStatus_keep : HandK kc kw handleTimeStatus := by
  intro s0 s n c hK
  unfold handleTimeStatus
  repeat' first
    | with_reducible assumption | with_reducible apply State.piecewise_keep

theorem State.readEntries_keep {n : Lane} {k : Nat} {start : Nat} (hK : Keep kc kw s0 s) : Keep kc kw s0 (State.readEntries s n start k).1 := by
  induction k generalizing s start with
  | zero => exact hK
  | succ k ih =>
    unfold State.readEntries
    dsimp only
    split
    · exact State.readBytes_keep hK
    · exact ih (State.readBytes_keep hK)

theorem handleLogRead_keep : HandK kc kw handleLogRead := by
  intro s0 s n c hK
  unfold handleLogRead
  dsimp only
  refine AnsK.ite (fun _ => True.intro) (fun _ => AnsK.ite (fun _ => True.intro) (fun _ => AnsK.ite (fun _ => True.intro)
    (fun _ => AnsK.ite (fun _ => True.intro) (fun _ => AnsK.read (State.readEntries_keep hK)))))

theorem handleLogClear_keep : HandK kc kw handleLogClear := by
  intro s0 s n c hK
  unfold handleLogClear
  repeat' first
    | with_reducible assumption | with_reducible apply State.clearLanes_keep | exact True.intro | with_reducible apply AnsK.ite
    | (show Keep _ _ _ _) | extract_lets | intro _

theorem handleCompareSet_keep : HandK kc kw handleCompareSet := by
  intro s0 s n c hK
  unfold handleCompareSet
  split
  · exact True.intro
  · exact Keep.ite (fun _ => State.holdCommand_keep hK) (fun _ => State.applyCompareSet_keep hK)

theorem handleMeasureSupply_keep : HandK kc kw handleMeasureSupply := by
  intro s0 s n c hK
  unfold handleMeasureSupply
  repeat' first
    | with_reducible assumption | with_reducible apply State.piecewise_keep

theorem handleArbitrate_keep : HandK kc kw handleArbitrate := by
  intro s0 s n c hK
  unfold handleArbitrate
  repeat' first
    | with_reducible assumption | with_reducible apply State.rulePart_keep | with_reducible apply Keep.log | exact True.intro
    | with_reducible apply AnsK.ite | (show Keep _ _ _ _) | extract_lets | intro _

theorem peerArbitrate_keep : PeerK kc kw peerArbitrate := by
  intro s0 s n c hK
  unfold peerArbitrate
  repeat' first
    | with_reducible assumption | with_reducible apply Keep.ite | with_reducible apply State.rulePart_keep | extract_lets
    | (intros; assumption) | intro _

theorem handleQuench_keep : HandK kc kw handleQuench := by
  intro s0 s n c hK
  unfold handleQuench
  repeat' first
    | with_reducible assumption | with_reducible apply State.quenchPart_keep | with_reducible apply Keep.onM | exact True.intro
    | with_reducible apply AnsK.ite | (show Keep _ _ _ _) | extract_lets | (intros; assumption) | intro _ | split

theorem peerQuench_keep : PeerK kc kw peerQuench := by
  intro s0 s n c hK
  unfold peerQuench
  split
  · exact State.quenchPart_keep hK
  · exact hK

theorem handleCalderaClear_keep (hc : kc = true) : HandK kc kw handleCalderaClear := by
  intro s0 s n c hK
  unfold handleCalderaClear
  repeat' first
    | with_reducible assumption | with_reducible apply State.withdraw_keep | with_reducible apply State.clearCaldera_keep
    | with_reducible apply State.restart_keep | with_reducible apply Keep.foldl | exact True.intro | with_reducible apply AnsK.ite
    | (show Keep _ _ _ _) | exact fun _ => ⟨by decide, by decide⟩ | extract_lets | (intro _ _ _; beta_reduce) | intro _ | split


/-- Every operation an opcode stands for keeps what the module keeps, where Caldera may clear and memory may be written. -/
theorem handlerOf_keep (op : Half) : HandK true true (handlerOf op).1 ∧ PeerK true true (handlerOf op).2 := by
  have h : ∀ e ∈ handlers1 ++ handlers2, HandK true true e.2.1 ∧ PeerK true true e.2.2 := by
    intro e he
    simp only [handlers1, handlers2, List.cons_append, List.nil_append, List.mem_cons, List.not_mem_nil, or_false] at he
    rcases he with rfl | rfl | rfl | rfl | rfl | rfl | rfl | rfl | rfl | rfl | rfl | rfl | rfl | rfl | rfl | rfl | rfl | rfl | rfl | rfl | rfl |
      rfl | rfl | rfl | rfl | rfl | rfl | rfl | rfl | rfl | rfl | rfl | rfl | rfl | rfl | rfl | rfl | rfl | rfl | rfl | rfl | rfl
    · exact ⟨handleModeRequest_keep, PeerK.noPart⟩
    · exact ⟨handleModeStatus_keep, PeerK.noPart⟩
    · exact ⟨handleEnableStatus_keep, PeerK.noPart⟩
    · exact ⟨motionHandler_keep, holdMotion_keep⟩
    · exact ⟨motionHandler_keep, holdMotion_keep⟩
    · exact ⟨motionHandler_keep, holdMotion_keep⟩
    · exact ⟨motionHandler_keep, holdMotion_keep⟩
    · exact ⟨motionHandler_keep, holdMotion_keep⟩
    · exact ⟨motionHandler_keep, holdMotion_keep⟩
    · exact ⟨motionHandler_keep, holdMotion_keep⟩
    · exact ⟨motionHandler_keep, holdMotion_keep⟩
    · exact ⟨handleProfileLimits_keep, holdMotion_keep⟩
    · exact ⟨motionHandler_keep, holdMotion_keep⟩
    · exact ⟨handleParamRead_keep, PeerK.noPart⟩
    · exact ⟨handleParamWrite_keep, PeerK.noPart⟩
    · exact ⟨handleParamCommit_keep, PeerK.noPart⟩
    · exact ⟨handleImageInfo_keep, PeerK.noPart⟩
    · exact ⟨handleMeasureLoad_keep, PeerK.noPart⟩
    · exact ⟨handleMeasureCable_keep, PeerK.noPart⟩
    · exact ⟨handleMeasureSupply_keep, PeerK.noPart⟩
    · exact ⟨handleCapsExchange_keep, peerCapsExchange_keep⟩
    · exact ⟨handleSelftestRun_keep, PeerK.noPart⟩
    · exact ⟨handleSelftestResult_keep, PeerK.noPart⟩
    · exact ⟨handleHealthRead_keep, PeerK.noPart⟩
    · exact ⟨handleAttest_keep, PeerK.noPart⟩
    · exact ⟨handleSessionOpen_keep, PeerK.noPart⟩
    · exact ⟨handleSessionClose_keep, PeerK.noPart⟩
    · exact ⟨handleKeyProvision_keep, PeerK.noPart⟩
    · exact ⟨handleFwBegin_keep, PeerK.noPart⟩
    · exact ⟨(handleFwChunk_keep rfl), PeerK.noPart⟩
    · exact ⟨handleFwVerify_keep, PeerK.noPart⟩
    · exact ⟨handleFwActivate_keep, PeerK.noPart⟩
    · exact ⟨handleTimeStatus_keep, PeerK.noPart⟩
    · exact ⟨(handleScheduleLoad_keep rfl), PeerK.noPart⟩
    · exact ⟨handleLogRead_keep, PeerK.noPart⟩
    · exact ⟨handleLogClear_keep, PeerK.noPart⟩
    · exact ⟨handleHomingStart_keep, holdMotion_keep⟩
    · exact ⟨handleHomingStatus_keep, PeerK.noPart⟩
    · exact ⟨handleCompareSet_keep, holdMotion_keep⟩
    · exact ⟨handleArbitrate_keep, peerArbitrate_keep⟩
    · exact ⟨handleQuench_keep, peerQuench_keep⟩
    · exact ⟨(handleCalderaClear_keep rfl), PeerK.noPart⟩
  unfold handlerOf
  cases hf : (handlers1 ++ handlers2).find? (fun e => e.1 == op) with
  | none => exact ⟨fun _ _ _ _ _ => True.intro, PeerK.noPart⟩
  | some e => exact h e (List.mem_of_find?_eq_some hf)

end Sys2Proof.Machine
end

