-- ==== Sys2Proof/Laws/KeepExec.lean ====
section
/-! SUPPORT. Every command keeps what the module keeps. -/

namespace Sys2Proof.Machine
set_option linter.unusedSimpArgs false
set_option linter.unusedTactic false

variable {kc kw : Bool} {s0 s : State}

theorem execWake_keep {t : Nat} {n : Lane} {held : Nat} : OutK kc kw (s.at_ t) (execWake t n held s) := by
  have hK : Keep kc kw (s.at_ t) (s.at_ t) := .refl _
  unfold execWake
  generalize s.at_ t = s at *
  repeat' first
    | with_reducible assumption | with_reducible apply Keep.ite | with_reducible apply Keep.onLane | with_reducible apply Keep.onM
    | with_reducible apply OutK.done | with_reducible apply OutK.ite | extract_lets | (simp only [Keep.rest_iff]) | exact LaneK.of_core rfl
    | intro _

theorem execPrechargeComplete_keep {t : Nat} {n : Lane} {vsup : Nat} {mv : Nat} : OutK kc kw (s.at_ t) (execPrechargeComplete t n vsup mv s) := by
  have hK : Keep kc kw (s.at_ t) (s.at_ t) := .refl _
  unfold execPrechargeComplete
  generalize s.at_ t = s at *
  repeat' first
    | with_reducible assumption | with_reducible apply State.clearCause_keep | with_reducible apply State.readyCore_keep
    | with_reducible apply State.supplyBack_keep | with_reducible apply Keep.onSup | with_reducible apply OutK.done
    | with_reducible apply OutK.ite | extract_lets | intro _

theorem execPrechargeRetry_keep {t : Nat} {n : Lane} : OutK kc kw (s.at_ t) (execPrechargeRetry t n s) := by
  have hK : Keep kc kw (s.at_ t) (s.at_ t) := .refl _
  unfold execPrechargeRetry
  generalize s.at_ t = s at *
  repeat' first
    | with_reducible assumption | with_reducible apply Keep.onSup | with_reducible apply OutK.done | with_reducible apply OutK.ite
    | extract_lets | intro _

theorem execDisconnectBlock_keep {t : Nat} {n : Lane} {vsup : Nat} {mv : Nat} : OutK kc kw (s.at_ t) (execDisconnectBlock t n vsup mv s) := by
  have hK : Keep kc kw (s.at_ t) (s.at_ t) := .refl _
  unfold execDisconnectBlock
  generalize s.at_ t = s at *
  repeat' first
    | with_reducible assumption | with_reducible apply Keep.onSup | with_reducible apply OutK.done | with_reducible apply OutK.ite
    | extract_lets | intro _

theorem execDisconnectConductForward_keep {t : Nat} {n : Lane} {vsup : Nat} {mv : Nat} : OutK kc kw (s.at_ t) (execDisconnectConductForward t n vsup mv s) := by
  have hK : Keep kc kw (s.at_ t) (s.at_ t) := .refl _
  unfold execDisconnectConductForward
  generalize s.at_ t = s at *
  repeat' first
    | with_reducible assumption | with_reducible apply Keep.onLane | with_reducible apply Keep.onSup | with_reducible apply OutK.done
    | with_reducible apply OutK.ite | extract_lets | (simp only [Keep.rest_iff]) | exact LaneK.of_core rfl | intro _

theorem execBleederOff_keep {t : Nat} {n : Lane} {mv : Nat} : OutK kc kw (s.at_ t) (execBleederOff t n mv s) := by
  have hK : Keep kc kw (s.at_ t) (s.at_ t) := .refl _
  unfold execBleederOff
  generalize s.at_ t = s at *
  repeat' first
    | with_reducible assumption | with_reducible apply Keep.onSup | with_reducible apply OutK.done | with_reducible apply OutK.ite
    | extract_lets | intro _

theorem execClockQualified_keep {t : Nat} {n : Lane} {d : Fin 13} {taps : List Nat} {count : Nat} : OutK kc kw (s.at_ t) (execClockQualified t n d taps count s) := by
  have hK : Keep kc kw (s.at_ t) (s.at_ t) := .refl _
  unfold execClockQualified
  generalize s.at_ t = s at *
  repeat' first
    | with_reducible assumption | with_reducible apply Keep.ite | with_reducible apply State.clearCause_keep
    | with_reducible apply State.readyCore_keep | with_reducible apply Keep.onRst | with_reducible apply OutK.done
    | with_reducible apply OutK.ite | extract_lets | intro _

theorem execClockQualFail_keep {t : Nat} {n : Lane} {d : Fin 13} {waited : Nat} : OutK kc kw (s.at_ t) (execClockQualFail t n d waited s) := by
  have hK : Keep kc kw (s.at_ t) (s.at_ t) := .refl _
  unfold execClockQualFail
  generalize s.at_ t = s at *
  repeat' first
    | with_reducible assumption | with_reducible apply Keep.ite | with_reducible apply State.logLeader_keep
    | with_reducible apply State.resetLane_keep | with_reducible apply State.domainOut_keep | with_reducible apply Keep.onLane
    | with_reducible apply Keep.log | with_reducible apply OutK.done | with_reducible apply OutK.ite | exact fun _ => ⟨by decide, by decide⟩
    | extract_lets | (simp only [Keep.rest_iff]) | exact LaneK.of_core rfl | (intros; assumption) | intro _

theorem execClockQualRetry_keep {t : Nat} {n : Lane} : OutK kc kw (s.at_ t) (execClockQualRetry t n s) := by
  have hK : Keep kc kw (s.at_ t) (s.at_ t) := .refl _
  unfold execClockQualRetry
  generalize s.at_ t = s at *
  repeat' first
    | with_reducible assumption | with_reducible apply Keep.onRst | with_reducible apply OutK.done | with_reducible apply OutK.ite
    | extract_lets | intro _

theorem execClockLoss_keep {t : Nat} {n : Lane} {d : Fin 13} {taps : List Nat} : OutK kc kw (s.at_ t) (execClockLoss t n d taps s) := by
  have hK : Keep kc kw (s.at_ t) (s.at_ t) := .refl _
  unfold execClockLoss
  generalize s.at_ t = s at *
  repeat' first
    | with_reducible assumption | with_reducible apply Keep.ite | with_reducible apply State.logLeader_keep
    | with_reducible apply State.checkLimp_keep | with_reducible apply State.resetLane_keep | with_reducible apply State.domainOut_keep
    | with_reducible apply Keep.onLane | with_reducible apply Keep.onLink | with_reducible apply Keep.log | with_reducible apply OutK.done
    | with_reducible apply OutK.ite | exact fun _ => ⟨by decide, by decide⟩ | extract_lets | exact LaneK.of_core rfl | (intros; assumption)
    | intro _

theorem execResetAssert_keep {t : Nat} {n : Lane} {src : ResetSource}
    (hs : kc = false → (∀ a b, src ≠ .supply a b) ∧ src ≠ .supplyRestart) : OutK kc kw (s.at_ t) (execResetAssert t n src s) := by
  unfold execResetAssert
  extract_lets s1 k s2 s3
  have h1 : Keep kc kw (s.at_ t) s1 := by
    show Keep kc kw (s.at_ t) (State.seeSource _ _ _)
    unfold State.seeSource
    split
    · exact State.seeSupply_keep (.refl _)
    · exact .refl _
  have hk : kc = false → k ≠ 1 ∧ k ≠ 3 := fun e => by
    obtain ⟨g1, g2⟩ := hs e
    show causeOf _ src ≠ 1 ∧ causeOf _ src ≠ 3
    cases src with
    | supply a b => exact absurd rfl (g1 a b)
    | supplyRestart => exact absurd rfl g2
    | _ => exact ⟨by simp [causeOf], by simp [causeOf]⟩
  have h2 : Keep kc kw (s.at_ t) s2 :=
    Keep.ite (fun _ => h1) (fun _ => Keep.ite (fun _ => State.restart_keep h1 hk) (fun _ => State.resetLane_keep h1 hk))
  have h3 : Keep kc kw (s.at_ t) s3 := Keep.ite (fun _ => Keep.onSup h2) (fun _ => h2)
  exact OutK.done (Keep.ite (fun _ => h3) (fun _ => State.checkLimp_keep h3))

theorem execExternalReset_keep {t : Nat} {n : Lane} {low : Nat} : OutK kc kw (s.at_ t) (execExternalReset t n low s) := by
  have hK : Keep kc kw (s.at_ t) (s.at_ t) := .refl _
  unfold execExternalReset
  generalize s.at_ t = s at *
  repeat' first
    | with_reducible assumption | with_reducible apply Keep.ite | with_reducible apply State.checkLimp_keep
    | with_reducible apply State.reformAll_keep | with_reducible apply State.resetLane_keep | with_reducible apply OutK.done
    | with_reducible apply OutK.ite | exact fun _ => ⟨by decide, by decide⟩ | extract_lets | (simp only [Keep.rest_iff]) | intro _
    | dsimp +zetaDelta only

theorem execRstHandshakeSample_keep {t : Nat} {n : Lane} {low : Bool} : OutK kc kw (s.at_ t) (execRstHandshakeSample t n low s) := by
  have hK : Keep kc kw (s.at_ t) (s.at_ t) := .refl _
  unfold execRstHandshakeSample
  generalize s.at_ t = s at *
  repeat' first
    | with_reducible assumption | with_reducible apply Keep.onRst | with_reducible apply OutK.done | with_reducible apply OutK.ite
    | extract_lets | intro _

theorem execWatchdog_keep {t : Nat} {n : Lane} : OutK kc kw (s.at_ t) (execWatchdog t n s) := by
  have hK : Keep kc kw (s.at_ t) (s.at_ t) := .refl _
  unfold execWatchdog
  generalize s.at_ t = s at *
  repeat' first
    | with_reducible assumption | with_reducible apply State.quenchRequest_keep | with_reducible apply State.checkLimp_keep
    | with_reducible apply Keep.onRst | with_reducible apply OutK.done | with_reducible apply OutK.ite | extract_lets | intro _

theorem execWatchdogReset_keep {t : Nat} {n : Lane} : OutK kc kw (s.at_ t) (execWatchdogReset t n s) := by
  have hK : Keep kc kw (s.at_ t) (s.at_ t) := .refl _
  unfold execWatchdogReset
  generalize s.at_ t = s at *
  repeat' first
    | with_reducible assumption | with_reducible apply State.checkLimp_keep | with_reducible apply State.reformAll_keep
    | with_reducible apply State.restart_keep | with_reducible apply OutK.done | with_reducible apply OutK.ite
    | exact fun _ => ⟨by decide, by decide⟩ | extract_lets | intro _

theorem execResetRelease_keep {t : Nat} {n : Lane} {b : BootChecks} : OutK kc kw (s.at_ t) (execResetRelease t n b s) := by
  have hK : Keep kc kw (s.at_ t) (s.at_ t) := .refl _
  unfold execResetRelease
  generalize s.at_ t = s at *
  repeat' first
    | with_reducible assumption | with_reducible apply State.enterRejoin_keep | with_reducible apply State.tryReady_keep
    | with_reducible apply State.endBoot_keep | with_reducible apply State.release_keep | with_reducible apply State.bootSteps_keep
    | with_reducible apply Keep.onLane | with_reducible apply OutK.done | with_reducible apply OutK.ite | extract_lets
    | exact LaneK.of_core rfl | intro _

theorem execVoteLineTest_keep {t : Nat} {seen : List VoteLines} : OutK kc kw (s.at_ t) (execVoteLineTest t seen s) := by
  have hK : Keep kc kw (s.at_ t) (s.at_ t) := .refl _
  unfold execVoteLineTest
  generalize s.at_ t = s at *
  repeat' first
    | with_reducible assumption | with_reducible apply Keep.ite | with_reducible apply State.isolate_keep
    | with_reducible apply State.becomeActive_keep | with_reducible apply State.tryReady_keep | with_reducible apply State.endBoot_keep
    | with_reducible apply Keep.onLane | with_reducible apply Keep.onVote | with_reducible apply Keep.onRst | with_reducible apply Keep.log
    | with_reducible apply Keep.foldl | with_reducible apply OutK.done | with_reducible apply OutK.ite | extract_lets
    | (simp only [Keep.rest_iff]) | exact LaneK.of_core rfl | (intros; assumption) | (intro _ _ _; beta_reduce) | intro _

theorem execBootWaitTimeout_keep {t : Nat} : OutK kc kw (s.at_ t) (execBootWaitTimeout t s) := by
  have hK : Keep kc kw (s.at_ t) (s.at_ t) := .refl _
  unfold execBootWaitTimeout
  generalize s.at_ t = s at *
  repeat' first
    | with_reducible assumption | with_reducible apply Keep.ite | with_reducible apply State.tryReady_keep | with_reducible apply Keep.onM
    | with_reducible apply OutK.done | with_reducible apply OutK.ite | extract_lets | (intros; assumption) | intro _

theorem execBootToDormant_keep {t : Nat} {held : Nat} : OutK kc kw (s.at_ t) (execBootToDormant t held s) := by
  have hK : Keep kc kw (s.at_ t) (s.at_ t) := .refl _
  unfold execBootToDormant
  generalize s.at_ t = s at *
  repeat' first
    | with_reducible assumption | with_reducible apply State.enterDormant_keep | with_reducible apply Keep.onLanes
    | with_reducible apply OutK.done | with_reducible apply OutK.ite | extract_lets | (simp only [Keep.rest_iff]) | exact LaneK.of_core rfl
    | intro _

theorem execBootReportItem_keep {t : Nat} {src : Lane} {dst : Lane} {e : BootReport} : OutK kc kw (s.at_ t) (execBootReportItem t src dst e s) := by
  have hK : Keep kc kw (s.at_ t) (s.at_ t) := .refl _
  unfold execBootReportItem
  generalize s.at_ t = s at *
  repeat' first
    | with_reducible assumption | with_reducible apply Keep.ite | with_reducible apply State.onItem_keep
    | with_reducible apply State.tryReady_keep | with_reducible apply State.failBoot_keep | with_reducible apply State.dropTrial_keep
    | with_reducible apply State.copyFirmware_keep | with_reducible apply State.sendKeys_keep | with_reducible apply Keep.onLink
    | with_reducible apply OutK.done | extract_lets | (simp only [Keep.rest_iff]) | (intro _ _ _; beta_reduce) | intro _ | split

theorem execFwTrialTimeout_keep {t : Nat} : OutK kc kw (s.at_ t) (execFwTrialTimeout t s) := by
  have hK : Keep kc kw (s.at_ t) (s.at_ t) := .refl _
  unfold execFwTrialTimeout
  generalize s.at_ t = s at *
  repeat' first
    | with_reducible assumption | with_reducible apply Keep.ite | with_reducible apply State.dropTrial_keep
    | with_reducible apply Keep.forLanes | with_reducible apply OutK.done | with_reducible apply OutK.ite | extract_lets
    | (simp only [Keep.rest_iff]) | (intros; assumption) | (intro _ _ _; beta_reduce) | intro _

theorem execParamReadKey_keep {r : Req} : OutK kc kw (s.at_ r.at_) (execParamReadKey r s) := by
  unfold execParamReadKey
  exact OutK.done (State.fcp_keep handleParamRead_keep PeerK.noPart (.refl _))

theorem execParamReadMemory_keep {r : Req} : OutK kc kw (s.at_ r.at_) (execParamReadMemory r s) := by
  unfold execParamReadMemory
  exact OutK.done (State.fcp_keep handleParamRead_keep PeerK.noPart (.refl _))

theorem execParamWrite_keep {r : Req} : OutK kc kw (s.at_ r.at_) (execParamWrite r s) := by
  unfold execParamWrite
  exact OutK.done (State.fcp_keep handleParamWrite_keep PeerK.noPart (.refl _))

theorem execParamCommit_keep {r : Req} : OutK kc kw (s.at_ r.at_) (execParamCommit r s) := by
  unfold execParamCommit
  exact OutK.done (State.fcp_keep handleParamCommit_keep PeerK.noPart (.refl _))

theorem execParamCommitDone_keep {t : Nat} : OutK kc kw (s.at_ t) (execParamCommitDone t s) := by
  have hK : Keep kc kw (s.at_ t) (s.at_ t) := .refl _
  unfold execParamCommitDone
  generalize s.at_ t = s at *
  repeat' first
    | with_reducible assumption | with_reducible apply State.reply_keep | with_reducible apply Keep.onLanes | with_reducible apply Keep.onM
    | with_reducible apply OutK.done | (show Keep _ _ _ _) | extract_lets | exact LaneK.of_core rfl | intro _
    | with_reducible apply LaneK.ite | split

theorem execParamImageInfo_keep {r : Req} : OutK kc kw (s.at_ r.at_) (execParamImageInfo r s) := by
  unfold execParamImageInfo
  exact OutK.done (State.fcp_keep handleImageInfo_keep PeerK.noPart (.refl _))

theorem execSessionOpen_keep {r : Req} : OutK kc kw (s.at_ r.at_) (execSessionOpen r s) := by
  unfold execSessionOpen
  exact OutK.done (State.fcp_keep handleSessionOpen_keep PeerK.noPart (.refl _))

theorem execSessionClose_keep {r : Req} : OutK kc kw (s.at_ r.at_) (execSessionClose r s) := by
  unfold execSessionClose
  exact OutK.done (State.fcp_keep handleSessionClose_keep PeerK.noPart (.refl _))

theorem execSessionItem_keep {t : Nat} {src : Lane} {dst : Lane} {c : SessionChange} : OutK kc kw (s.at_ t) (execSessionItem t src dst c s) := by
  have hK : Keep kc kw (s.at_ t) (s.at_ t) := .refl _
  unfold execSessionItem
  generalize s.at_ t = s at *
  repeat' first
    | with_reducible assumption | with_reducible apply Keep.ite | with_reducible apply State.onItem_keep | with_reducible apply Keep.onSec
    | with_reducible apply OutK.done | extract_lets | (simp only [Keep.rest_iff]) | (intros; exact SecSt.OneWay.of_eq rfl rfl rfl rfl)
    | (intro _ _ _; beta_reduce) | intro _

theorem execSessionIdleTimeout_keep {t : Nat} {num : Half} : OutK kc kw (s.at_ t) (execSessionIdleTimeout t num s) := by
  have hK : Keep kc kw (s.at_ t) (s.at_ t) := .refl _
  unfold execSessionIdleTimeout
  generalize s.at_ t = s at *
  repeat' first
    | with_reducible assumption | with_reducible apply State.closeSession_keep | with_reducible apply OutK.done
    | with_reducible apply OutK.ite | extract_lets | intro _ | split

theorem execSessionDropped_keep {t : Nat} {num : Half} : OutK kc kw (s.at_ t) (execSessionDropped t num s) := by
  have hK : Keep kc kw (s.at_ t) (s.at_ t) := .refl _
  unfold execSessionDropped
  generalize s.at_ t = s at *
  repeat' first
    | with_reducible assumption | with_reducible apply State.dropSession_keep | with_reducible apply OutK.done | extract_lets | split

theorem execPiecewiseSnapshotExpiry_keep {t : Nat} {n : Lane} {session : Half} : OutK kc kw (s.at_ t) (execPiecewiseSnapshotExpiry t n session s) := by
  have hK : Keep kc kw (s.at_ t) (s.at_ t) := .refl _
  unfold execPiecewiseSnapshotExpiry
  generalize s.at_ t = s at *
  repeat' first
    | with_reducible assumption | with_reducible apply Keep.onSec | with_reducible apply OutK.done | extract_lets
    | (intros; exact SecSt.OneWay.of_eq rfl rfl rfl rfl)

theorem execAttestChallenge_keep {r : Req} : OutK kc kw (s.at_ r.at_) (execAttestChallenge r s) := by
  unfold execAttestChallenge
  exact OutK.done (State.fcp_keep handleAttest_keep PeerK.noPart (.refl _))

theorem execAttestReportDone_keep {t : Nat} {n : Lane} : OutK kc kw (s.at_ t) (execAttestReportDone t n s) := by
  have hK : Keep kc kw (s.at_ t) (s.at_ t) := .refl _
  unfold execAttestReportDone
  generalize s.at_ t = s at *
  repeat' first
    | with_reducible assumption | with_reducible apply State.reply_keep | with_reducible apply State.piecewise_keep
    | with_reducible apply Keep.onSec | with_reducible apply OutK.done | extract_lets | (intros; exact SecSt.OneWay.of_eq rfl rfl rfl rfl)
    | split

theorem execKeyProvision_keep {r : Req} : OutK kc kw (s.at_ r.at_) (execKeyProvision r s) := by
  unfold execKeyProvision
  exact OutK.done (State.fcp_keep handleKeyProvision_keep PeerK.noPart (.refl _))

theorem execFwBegin_keep {r : Req} : OutK kc kw (s.at_ r.at_) (execFwBegin r s) := by
  unfold execFwBegin
  exact OutK.done (State.fcp_keep handleFwBegin_keep PeerK.noPart (.refl _))

theorem execFwChunk_keep {r : Req} (hw : kw = true) : OutK kc kw (s.at_ r.at_) (execFwChunk r s) := by
  unfold execFwChunk
  exact OutK.done (State.fcp_keep (handleFwChunk_keep hw) PeerK.noPart (.refl _))

theorem execFwVerifyStart_keep {r : Req} : OutK kc kw (s.at_ r.at_) (execFwVerifyStart r s) := by
  unfold execFwVerifyStart
  exact OutK.done (State.fcp_keep handleFwVerify_keep PeerK.noPart (.refl _))

theorem execFwVerifyRead_keep {r : Req} : OutK kc kw (s.at_ r.at_) (execFwVerifyRead r s) := by
  unfold execFwVerifyRead
  exact OutK.done (State.fcp_keep handleFwVerify_keep PeerK.noPart (.refl _))

theorem execFwVerifyComplete_keep {t : Nat} : OutK kc kw (s.at_ t) (execFwVerifyComplete t s) := by
  have hK : Keep kc kw (s.at_ t) (s.at_ t) := .refl _
  unfold execFwVerifyComplete
  generalize s.at_ t = s at *
  repeat' first
    | with_reducible assumption | with_reducible apply State.logRejected_keep | with_reducible apply Keep.onM
    | with_reducible apply Keep.foldl | with_reducible apply OutK.done | with_reducible apply OutK.ite | extract_lets
    | (intro _ _ _; beta_reduce) | intro _ | split

theorem execFwActivate_keep {r : Req} : OutK kc kw (s.at_ r.at_) (execFwActivate r s) := by
  unfold execFwActivate
  have h : Keep kc kw (s.at_ r.at_) (s.fcp 0x0904 r handleFwActivate noPart) :=
    State.fcp_keep handleFwActivate_keep PeerK.noPart (.refl _)
  exact OutK.done (Keep.ite (fun _ => State.restartModule_keep h) (fun _ => h))

theorem execRollbackRaised_keep {t : Nat} : OutK kc kw (s.at_ t) (execRollbackRaised t s) := by
  have hK : Keep kc kw (s.at_ t) (s.at_ t) := .refl _
  unfold execRollbackRaised
  generalize s.at_ t = s at *
  repeat' first
    | with_reducible assumption | with_reducible apply State.raise_keep | with_reducible apply Keep.foldl | with_reducible apply OutK.done
    | with_reducible apply OutK.ite | extract_lets | (intro _ _ _; beta_reduce) | intro _ | split

theorem execFirmwareCopyItem_keep {t : Nat} {src : Lane} {dst : Lane} {off : Nat} {len : Nat} {data : List Byte} (hw : kw = true) : OutK kc kw (s.at_ t) (execFirmwareCopyItem t src dst off len data s) := by
  unfold execFirmwareCopyItem
  refine OutK.done (State.onItem_keep (fun s i hK => ?_) (.refl _))
  refine Keep.ite (fun _ => hK) (fun _ => ?_)
  extract_lets k base got s1 s2
  have h1 : Keep kc kw _ s1 := Keep.onLane hK (.of_writeBytes (x := base + rd i 3 4) (d := i.drop 7) hw rfl rfl rfl
    ⟨rfl, fun _ => rfl, fun _ => rfl, id, List.prefix_refl _⟩ rfl)
  refine Keep.ite (fun _ => h1) (fun _ => ?_)
  split
  · exact Keep.onSec (State.logRejected_keep h1) (fun _ => SecSt.OneWay.of_eq rfl rfl rfl rfl)
  · exact State.restart_keep (Keep.log (Keep.onSec h1 (fun _ => SecSt.OneWay.of_eq rfl rfl rfl rfl))) (fun _ => ⟨by decide, by decide⟩)

theorem execKeyItem_keep {t : Nat} {src : Lane} {dst : Lane} {e : KeyContent} : OutK kc kw (s.at_ t) (execKeyItem t src dst e s) := by
  have hK : Keep kc kw (s.at_ t) (s.at_ t) := .refl _
  unfold execKeyItem
  generalize s.at_ t = s at *
  repeat' first
    | with_reducible assumption | with_reducible apply Keep.ite | with_reducible apply State.onItem_keep
    | with_reducible apply State.restart_keep | with_reducible apply State.takeKeys_keep | with_reducible apply State.takeOwner_keep
    | with_reducible apply Keep.onSec | with_reducible apply OutK.done | exact fun _ => ⟨by decide, by decide⟩ | extract_lets
    | (simp only [Keep.rest_iff]) | (intros; exact SecSt.OneWay.of_eq rfl rfl rfl rfl) | (intros; assumption) | (intro _ _ _; beta_reduce)
    | intro _ | split

theorem execScheduleLoad_keep {r : Req} (hw : kw = true) : OutK kc kw (s.at_ r.at_) (execScheduleLoad r s) := by
  unfold execScheduleLoad
  exact OutK.done (State.fcp_keep (handleScheduleLoad_keep hw) PeerK.noPart (.refl _))

theorem execCommandFrame_keep {t : Nat} {n : Lane} {c : Chan} {f : HFrame} : OutK kc kw (s.at_ t) (execCommandFrame t n c f s) := by
  have hK : Keep kc kw (s.at_ t) (s.at_ t) := .refl _
  unfold execCommandFrame
  generalize s.at_ t = s at *
  repeat' first
    | with_reducible assumption | with_reducible apply Keep.ite | with_reducible apply State.receive_keep
    | with_reducible apply State.takeCommand_keep | with_reducible apply State.offerRelay_keep | with_reducible apply OutK.done
    | with_reducible apply OutK.ite | extract_lets | intro _ | split

theorem execNullFrame_keep {t : Nat} {n : Lane} {c : Chan} {f : HFrame} : OutK kc kw (s.at_ t) (execNullFrame t n c f s) := by
  have hK : Keep kc kw (s.at_ t) (s.at_ t) := .refl _
  unfold execNullFrame
  generalize s.at_ t = s at *
  repeat' first
    | with_reducible assumption | with_reducible apply State.receive_keep | with_reducible apply OutK.done

theorem execReferenceFrame_keep {t : Nat} {n : Lane} {c : Chan} {f : HFrame} : OutK kc kw (s.at_ t) (execReferenceFrame t n c f s) := by
  have hK : Keep kc kw (s.at_ t) (s.at_ t) := .refl _
  unfold execReferenceFrame
  generalize s.at_ t = s at *
  repeat' first
    | with_reducible assumption | with_reducible apply State.receive_keep | with_reducible apply Keep.onLane
    | with_reducible apply Keep.onChan | with_reducible apply OutK.done | with_reducible apply OutK.ite | extract_lets
    | exact LaneK.of_core rfl | intro _ | split

theorem execCapsFrame_keep {t : Nat} {n : Lane} {c : Chan} {f : HFrame} : OutK kc kw (s.at_ t) (execCapsFrame t n c f s) := by
  have hK : Keep kc kw (s.at_ t) (s.at_ t) := .refl _
  unfold execCapsFrame
  generalize s.at_ t = s at *
  repeat' first
    | with_reducible assumption | with_reducible apply State.receive_keep | with_reducible apply Keep.onNet
    | with_reducible apply Keep.onChan | with_reducible apply Keep.log | with_reducible apply OutK.done | with_reducible apply OutK.ite
    | (intro _; exact NetSt.putVersion_replies ..) | extract_lets | intro _ | split

theorem execCapsFrameSend_keep {t : Nat} {n : Lane} {c : Chan} {m : ArbSense} : OutK kc kw (s.at_ t) (execCapsFrameSend t n c m s) := by
  have hK : Keep kc kw (s.at_ t) (s.at_ t) := .refl _
  unfold execCapsFrameSend
  generalize s.at_ t = s at *
  repeat' first
    | with_reducible assumption | with_reducible apply Keep.ite | with_reducible apply State.integrate_keep
    | with_reducible apply Keep.onChan | with_reducible apply OutK.done | with_reducible apply OutK.ite | extract_lets
    | (simp only [Keep.rest_iff]) | intro _ | split

theorem execCapsExchange_keep {r : Req} : OutK kc kw (s.at_ r.at_) (execCapsExchange r s) := by
  unfold execCapsExchange
  exact OutK.done (State.fcp_keep handleCapsExchange_keep peerCapsExchange_keep (.refl _))

theorem execStatusFrameSend_keep {t : Nat} {n : Lane} : OutK kc kw (s.at_ t) (execStatusFrameSend t n s) := by
  have hK : Keep kc kw (s.at_ t) (s.at_ t) := .refl _
  unfold execStatusFrameSend
  generalize s.at_ t = s at *
  repeat' first
    | with_reducible assumption | with_reducible apply Keep.ite | with_reducible apply State.latchStatus_keep
    | with_reducible apply State.transmit_keep | with_reducible apply State.relayStatus_keep | with_reducible apply State.block_keep
    | with_reducible apply State.pulse_keep | with_reducible apply State.repliesLeft_keep | with_reducible apply Keep.onNet
    | with_reducible apply OutK.done | with_reducible apply OutK.ite | extract_lets | (simp only [Keep.rest_iff]) | intro _ | split

theorem execOffsetCorrection_keep {t : Nat} {n : Lane} : OutK kc kw (s.at_ t) (execOffsetCorrection t n s) := by
  have hK : Keep kc kw (s.at_ t) (s.at_ t) := .refl _
  unfold execOffsetCorrection
  generalize s.at_ t = s at *
  repeat' first
    | with_reducible assumption | with_reducible apply Keep.ite | with_reducible apply State.reviewSync_keep
    | with_reducible apply State.passiveLane_keep | with_reducible apply Keep.onLane | with_reducible apply OutK.done
    | with_reducible apply OutK.ite | extract_lets | exact LaneK.of_core rfl | intro _

theorem execRateCorrection_keep {t : Nat} {n : Lane} : OutK kc kw (s.at_ t) (execRateCorrection t n s) := by
  have hK : Keep kc kw (s.at_ t) (s.at_ t) := .refl _
  unfold execRateCorrection
  generalize s.at_ t = s at *
  repeat' first
    | with_reducible assumption | with_reducible apply Keep.ite | with_reducible apply State.passiveLane_keep
    | with_reducible apply Keep.onLane | with_reducible apply OutK.done | with_reducible apply OutK.ite | extract_lets
    | exact LaneK.of_core rfl | intro _

theorem execShutterPhaseCheck_keep {t : Nat} {n : Lane} {c : Chan} {k : Nat} {high : Nat} : OutK kc kw (s.at_ t) (execShutterPhaseCheck t n c k high s) := by
  have hK : Keep kc kw (s.at_ t) (s.at_ t) := .refl _
  unfold execShutterPhaseCheck
  generalize s.at_ t = s at *
  repeat' first
    | with_reducible assumption | with_reducible apply State.passiveChan_keep | with_reducible apply State.checkEnable_keep
    | with_reducible apply Keep.onChan | with_reducible apply OutK.done | with_reducible apply OutK.ite | extract_lets | intro _

theorem execSyncHoldover_keep {t : Nat} {n : Lane} : OutK kc kw (s.at_ t) (execSyncHoldover t n s) := by
  have hK : Keep kc kw (s.at_ t) (s.at_ t) := .refl _
  unfold execSyncHoldover
  generalize s.at_ t = s at *
  repeat' first
    | with_reducible assumption | with_reducible apply Keep.ite | with_reducible apply State.passiveLane_keep
    | with_reducible apply OutK.done | extract_lets | (intros; assumption) | intro _

theorem execTimeStep_keep {t : Nat} {n : Lane} {c : Chan} : OutK kc kw (s.at_ t) (execTimeStep t n c s) := by
  have hK : Keep kc kw (s.at_ t) (s.at_ t) := .refl _
  unfold execTimeStep
  generalize s.at_ t = s at *
  repeat' first
    | with_reducible assumption | with_reducible apply State.stepTime_keep | with_reducible apply Keep.onLane
    | with_reducible apply OutK.done | with_reducible apply OutK.ite | extract_lets | (simp only [Keep.rest_iff]) | exact LaneK.of_core rfl
    | intro _ | split

theorem execChannelIntegrated_keep {t : Nat} {n : Lane} {c : Chan} : OutK kc kw (s.at_ t) (execChannelIntegrated t n c s) := by
  have hK : Keep kc kw (s.at_ t) (s.at_ t) := .refl _
  unfold execChannelIntegrated
  generalize s.at_ t = s at *
  repeat' first
    | with_reducible assumption | with_reducible apply Keep.ite | with_reducible apply State.integrate_keep
    | with_reducible apply Keep.onChan | with_reducible apply OutK.done | with_reducible apply OutK.ite | extract_lets
    | (intros; assumption) | intro _

theorem execJoinTimeout_keep {t : Nat} {n : Lane} {c : Chan} : OutK kc kw (s.at_ t) (execJoinTimeout t n c s) := by
  have hK : Keep kc kw (s.at_ t) (s.at_ t) := .refl _
  unfold execJoinTimeout
  generalize s.at_ t = s at *
  repeat' first
    | with_reducible assumption | with_reducible apply Keep.onChan | with_reducible apply Keep.log | with_reducible apply OutK.done
    | with_reducible apply OutK.ite | extract_lets | intro _

theorem execPeerSkew_keep {t : Nat} {n : Lane} : OutK kc kw (s.at_ t) (execPeerSkew t n s) := by
  have hK : Keep kc kw (s.at_ t) (s.at_ t) := .refl _
  unfold execPeerSkew
  generalize s.at_ t = s at *
  repeat' first
    | with_reducible assumption | with_reducible apply State.passiveLane_keep | with_reducible apply OutK.done
    | with_reducible apply OutK.ite | extract_lets | intro _ | split

theorem execChannelLost_keep {t : Nat} {n : Lane} {c : Chan} : OutK kc kw (s.at_ t) (execChannelLost t n c s) := by
  have hK : Keep kc kw (s.at_ t) (s.at_ t) := .refl _
  unfold execChannelLost
  generalize s.at_ t = s at *
  repeat' first
    | with_reducible assumption | with_reducible apply Keep.onChan | with_reducible apply Keep.log | with_reducible apply OutK.done
    | with_reducible apply OutK.ite | extract_lets | intro _

theorem execAlmanacSwitch_keep {t : Nat} {n : Lane} : OutK kc kw (s.at_ t) (execAlmanacSwitch t n s) := by
  have hK : Keep kc kw (s.at_ t) (s.at_ t) := .refl _
  unfold execAlmanacSwitch
  generalize s.at_ t = s at *
  repeat' first
    | with_reducible assumption | with_reducible apply Keep.ite | with_reducible apply Keep.onLane | with_reducible apply Keep.onNet
    | with_reducible apply Keep.log | with_reducible apply OutK.done | with_reducible apply OutK.ite | extract_lets
    | (simp only [Keep.rest_iff]) | exact LaneK.of_core rfl | intro _ | split

theorem execAlmanacSegmentItem_keep {t : Nat} {src : Lane} {dst : Lane} {g : Segment} (hw : kw = true) : OutK kc kw (s.at_ t) (execAlmanacSegmentItem t src dst g s) := by
  unfold execAlmanacSegmentItem
  refine OutK.done (State.onItem_keep (fun s i hK => ?_) (.refl _))
  refine Keep.ite (fun _ => hK) (fun _ => ?_)
  refine Keep.ite (fun _ => Keep.onNet hK (fun _ => rfl)) (fun _ => ?_)
  extract_lets pkg b T s1 running now
  have h1 : Keep kc kw _ s1 := Keep.onNet hK (fun _ => rfl)
  split
  · exact State.logRejected_keep h1
  · split
    · exact State.logRejected_keep h1
    · exact Keep.onNet (Keep.onLane h1 (.of_writeBytes hw rfl rfl rfl ⟨rfl, fun _ => rfl, fun _ => rfl, id, List.prefix_refl _⟩ rfl)) (fun _ => rfl)

theorem execScheduleReportItem_keep {t : Nat} {src : Lane} {dst : Lane} {act : Word} {pend : Word} {at_ : Dword} : OutK kc kw (s.at_ t) (execScheduleReportItem t src dst act pend at_ s) := by
  have hK : Keep kc kw (s.at_ t) (s.at_ t) := .refl _
  unfold execScheduleReportItem
  generalize s.at_ t = s at *
  repeat' first
    | with_reducible assumption | with_reducible apply Keep.ite | with_reducible apply State.pushItem_keep
    | with_reducible apply State.onItem_keep | with_reducible apply Keep.onLink | with_reducible apply Keep.foldl
    | with_reducible apply OutK.done | extract_lets | (simp only [Keep.rest_iff]) | (intro _ _ _; beta_reduce) | intro _ | split

theorem execTimeItem_keep {t : Nat} {src : Lane} {dst : Lane} {synced : Bool} {integ : Bool} {reading : Int} : OutK kc kw (s.at_ t) (execTimeItem t src dst synced integ reading s) := by
  have hK : Keep kc kw (s.at_ t) (s.at_ t) := .refl _
  unfold execTimeItem
  generalize s.at_ t = s at *
  repeat' first
    | with_reducible assumption | with_reducible apply Keep.ite | with_reducible apply State.onItem_keep
    | with_reducible apply State.reviewSync_keep | with_reducible apply State.stepTime_keep | with_reducible apply Keep.onLane
    | with_reducible apply Keep.onLink | with_reducible apply OutK.done | extract_lets | (simp only [Keep.rest_iff])
    | exact LaneK.of_core rfl | (intros; assumption) | (intro _ _ _; beta_reduce) | intro _

theorem execInboundFrameItem_keep {t : Nat} {src : Lane} {dst : Lane} {c : Chan} {f : HFrame} : OutK kc kw (s.at_ t) (execInboundFrameItem t src dst c f s) := by
  have hK : Keep kc kw (s.at_ t) (s.at_ t) := .refl _
  unfold execInboundFrameItem
  generalize s.at_ t = s at *
  repeat' first
    | with_reducible assumption | with_reducible apply Keep.ite | with_reducible apply State.onItem_keep
    | with_reducible apply State.takeCommand_keep | with_reducible apply OutK.done | extract_lets | (simp only [Keep.rest_iff])
    | (intros; assumption) | (intro _ _ _; beta_reduce) | intro _

theorem execOutboundStatusItem_keep {t : Nat} {src : Lane} {dst : Lane} {epoch : Half} {fresh : Half} {payload : List Byte} : OutK kc kw (s.at_ t) (execOutboundStatusItem t src dst epoch fresh payload s) := by
  have hK : Keep kc kw (s.at_ t) (s.at_ t) := .refl _
  unfold execOutboundStatusItem
  generalize s.at_ t = s at *
  repeat' first
    | with_reducible assumption | with_reducible apply Keep.ite | with_reducible apply State.onItem_keep | with_reducible apply Keep.onLink
    | with_reducible apply OutK.done | extract_lets | (simp only [Keep.rest_iff]) | (intros; assumption) | (intro _ _ _; beta_reduce)
    | intro _

theorem execRelayItemDrop_keep {t : Nat} {n : Lane} {outbound : Bool} : OutK kc kw (s.at_ t) (execRelayItemDrop t n outbound s) := by
  have hK : Keep kc kw (s.at_ t) (s.at_ t) := .refl _
  unfold execRelayItemDrop
  generalize s.at_ t = s at *
  repeat' first
    | with_reducible assumption | with_reducible apply Keep.onLink | with_reducible apply Keep.onCtr | with_reducible apply Keep.foldl
    | with_reducible apply OutK.done | extract_lets | (simp only [Keep.rest_iff]) | (intro _ _ _; beta_reduce)

theorem execHostPortSegmentTimeout_keep {t : Nat} : OutK kc kw (s.at_ t) (execHostPortSegmentTimeout t s) := by
  have hK : Keep kc kw (s.at_ t) (s.at_ t) := .refl _
  unfold execHostPortSegmentTimeout
  generalize s.at_ t = s at *
  repeat' first
    | with_reducible assumption | with_reducible apply OutK.done | with_reducible apply OutK.ite | extract_lets
    | (simp only [Keep.rest_iff]) | intro _

theorem execBusOffRecovery_keep {t : Nat} {bits : Nat} : OutK kc kw (s.at_ t) (execBusOffRecovery t bits s) := by
  have hK : Keep kc kw (s.at_ t) (s.at_ t) := .refl _
  unfold execBusOffRecovery
  generalize s.at_ t = s at *
  repeat' first
    | with_reducible apply Keep.ite | with_reducible apply OutK.done | extract_lets | (simp only [Keep.rest_iff]) | (intros; assumption)

theorem execDominantTimeout_keep {t : Nat} {held : Nat} : OutK kc kw (s.at_ t) (execDominantTimeout t held s) := by
  have hK : Keep kc kw (s.at_ t) (s.at_ t) := .refl _
  unfold execDominantTimeout
  generalize s.at_ t = s at *
  repeat' first
    | with_reducible assumption | with_reducible apply OutK.done | with_reducible apply OutK.ite | extract_lets
    | (simp only [Keep.rest_iff]) | intro _

theorem execSteerAngle_keep {r : Req} : OutK kc kw (s.at_ r.at_) (execSteerAngle r s) := by
  unfold execSteerAngle
  exact OutK.done (State.fcp_keep motionHandler_keep holdMotion_keep (.refl _))

theorem execSteerTorque_keep {r : Req} : OutK kc kw (s.at_ r.at_) (execSteerTorque r s) := by
  unfold execSteerTorque
  exact OutK.done (State.fcp_keep motionHandler_keep holdMotion_keep (.refl _))

theorem execSteerMoveAt_keep {r : Req} : OutK kc kw (s.at_ r.at_) (execSteerMoveAt r s) := by
  unfold execSteerMoveAt
  exact OutK.done (State.fcp_keep motionHandler_keep holdMotion_keep (.refl _))

theorem execSteerHold_keep {r : Req} : OutK kc kw (s.at_ r.at_) (execSteerHold r s) := by
  unfold execSteerHold
  exact OutK.done (State.fcp_keep motionHandler_keep holdMotion_keep (.refl _))

theorem execBrakeForce_keep {r : Req} : OutK kc kw (s.at_ r.at_) (execBrakeForce r s) := by
  unfold execBrakeForce
  exact OutK.done (State.fcp_keep motionHandler_keep holdMotion_keep (.refl _))

theorem execBrakePosition_keep {r : Req} : OutK kc kw (s.at_ r.at_) (execBrakePosition r s) := by
  unfold execBrakePosition
  exact OutK.done (State.fcp_keep motionHandler_keep holdMotion_keep (.refl _))

theorem execBrakeRelease_keep {r : Req} : OutK kc kw (s.at_ r.at_) (execBrakeRelease r s) := by
  unfold execBrakeRelease
  exact OutK.done (State.fcp_keep motionHandler_keep holdMotion_keep (.refl _))

theorem execBrakeParkApply_keep {r : Req} : OutK kc kw (s.at_ r.at_) (execBrakeParkApply r s) := by
  unfold execBrakeParkApply
  exact OutK.done (State.fcp_keep motionHandler_keep holdMotion_keep (.refl _))

theorem execBrakeParkRelease_keep {r : Req} : OutK kc kw (s.at_ r.at_) (execBrakeParkRelease r s) := by
  unfold execBrakeParkRelease
  exact OutK.done (State.fcp_keep motionHandler_keep holdMotion_keep (.refl _))

theorem execProfileLimits_keep {r : Req} : OutK kc kw (s.at_ r.at_) (execProfileLimits r s) := by
  unfold execProfileLimits
  exact OutK.done (State.fcp_keep handleProfileLimits_keep holdMotion_keep (.refl _))

theorem execVectorMove_keep {r : Req} : OutK kc kw (s.at_ r.at_) (execVectorMove r s) := by
  unfold execVectorMove
  exact OutK.done (State.fcp_keep motionHandler_keep holdMotion_keep (.refl _))

theorem execDeputyShadowApply_keep {t : Nat} {n : Lane} : OutK kc kw (s.at_ t) (execDeputyShadowApply t n s) := by
  have hK : Keep kc kw (s.at_ t) (s.at_ t) := .refl _
  unfold execDeputyShadowApply
  generalize s.at_ t = s at *
  repeat' first
    | with_reducible assumption | with_reducible apply Keep.onProf | with_reducible apply OutK.done | extract_lets
    | (simp only [Keep.rest_iff]) | split

theorem execHomingEndDetected_keep {t : Nat} : OutK kc kw (s.at_ t) (execHomingEndDetected t s) := by
  have hK : Keep kc kw (s.at_ t) (s.at_ t) := .refl _
  unfold execHomingEndDetected
  generalize s.at_ t = s at *
  repeat' first
    | with_reducible assumption | with_reducible apply State.onEngines_keep | with_reducible apply OutK.done | with_reducible apply OutK.ite
    | extract_lets | (simp only [Keep.rest_iff]) | intro _

theorem execHomingSwitchUnexpected_keep {t : Nat} : OutK kc kw (s.at_ t) (execHomingSwitchUnexpected t s) := by
  have hK : Keep kc kw (s.at_ t) (s.at_ t) := .refl _
  unfold execHomingSwitchUnexpected
  generalize s.at_ t = s at *
  repeat' first
    | with_reducible assumption | with_reducible apply State.logLeader_keep | with_reducible apply State.abortHoming_keep
    | with_reducible apply OutK.done | with_reducible apply OutK.ite | extract_lets | intro _

theorem execBrakeRetractDone_keep {t : Nat} : OutK kc kw (s.at_ t) (execBrakeRetractDone t s) := by
  have hK : Keep kc kw (s.at_ t) (s.at_ t) := .refl _
  unfold execBrakeRetractDone
  generalize s.at_ t = s at *
  repeat' first
    | with_reducible assumption | with_reducible apply State.onEngines_keep | with_reducible apply State.abortHoming_keep
    | with_reducible apply OutK.done | with_reducible apply OutK.ite | extract_lets | (simp only [Keep.rest_iff]) | intro _

theorem execBrakeKissPoint_keep {t : Nat} : OutK kc kw (s.at_ t) (execBrakeKissPoint t s) := by
  have hK : Keep kc kw (s.at_ t) (s.at_ t) := .refl _
  unfold execBrakeKissPoint
  generalize s.at_ t = s at *
  repeat' first
    | with_reducible assumption | with_reducible apply OutK.done | with_reducible apply OutK.ite | extract_lets
    | (simp only [Keep.rest_iff]) | intro _

theorem execBrakeStiffnessPoint_keep {t : Nat} : OutK kc kw (s.at_ t) (execBrakeStiffnessPoint t s) := by
  have hK : Keep kc kw (s.at_ t) (s.at_ t) := .refl _
  unfold execBrakeStiffnessPoint
  generalize s.at_ t = s at *
  repeat' first
    | with_reducible assumption | with_reducible apply State.storeKiss_keep | with_reducible apply OutK.done | with_reducible apply OutK.ite
    | extract_lets | intro _

theorem execHomingDone_keep {t : Nat} {x : Axis} : OutK kc kw (s.at_ t) (execHomingDone t x s) := by
  have hK : Keep kc kw (s.at_ t) (s.at_ t) := .refl _
  unfold execHomingDone
  generalize s.at_ t = s at *
  repeat' first
    | with_reducible assumption | with_reducible apply State.logLeader_keep | with_reducible apply State.launchHoming_keep
    | with_reducible apply State.keepIdentities_keep | with_reducible apply State.storeSteer_keep
    | with_reducible apply State.endHoming_keep | with_reducible apply OutK.done | with_reducible apply OutK.ite | extract_lets
    | (simp only [Keep.rest_iff]) | intro _ | split | dsimp +zetaDelta only

theorem execHomingTimeout_keep {t : Nat} : OutK kc kw (s.at_ t) (execHomingTimeout t s) := by
  have hK : Keep kc kw (s.at_ t) (s.at_ t) := .refl _
  unfold execHomingTimeout
  generalize s.at_ t = s at *
  repeat' first
    | with_reducible assumption | with_reducible apply State.abortHoming_keep | with_reducible apply OutK.done
    | with_reducible apply OutK.ite | extract_lets | intro _

theorem execHomingStart_keep {r : Req} : OutK kc kw (s.at_ r.at_) (execHomingStart r s) := by
  unfold execHomingStart
  exact OutK.done (State.fcp_keep handleHomingStart_keep holdMotion_keep (.refl _))

theorem execHomingStartAbort_keep {r : Req} : OutK kc kw (s.at_ r.at_) (execHomingStartAbort r s) := by
  unfold execHomingStartAbort
  exact OutK.done (State.fcp_keep handleHomingStart_keep holdMotion_keep (.refl _))

theorem execHomingStatus_keep {r : Req} : OutK kc kw (s.at_ r.at_) (execHomingStatus r s) := by
  unfold execHomingStatus
  exact OutK.done (State.fcp_keep handleHomingStatus_keep PeerK.noPart (.refl _))

theorem execModeRequestReady_keep {r : Req} : OutK kc kw (s.at_ r.at_) (execModeRequestReady r s) := by
  unfold execModeRequestReady
  exact OutK.done (State.fcp_keep handleModeRequest_keep PeerK.noPart (.refl _))

theorem execModeRequestRun_keep {r : Req} : OutK kc kw (s.at_ r.at_) (execModeRequestRun r s) := by
  unfold execModeRequestRun
  exact OutK.done (State.fcp_keep handleModeRequest_keep PeerK.noPart (.refl _))

theorem execModeRequestService_keep {r : Req} : OutK kc kw (s.at_ r.at_) (execModeRequestService r s) := by
  unfold execModeRequestService
  exact OutK.done (State.fcp_keep handleModeRequest_keep PeerK.noPart (.refl _))

theorem execModeRequestDormant_keep {r : Req} : OutK kc kw (s.at_ r.at_) (execModeRequestDormant r s) := by
  unfold execModeRequestDormant
  exact OutK.done (State.fcp_keep handleModeRequest_keep PeerK.noPart (.refl _))

theorem execModeStatus_keep {r : Req} : OutK kc kw (s.at_ r.at_) (execModeStatus r s) := by
  unfold execModeStatus
  exact OutK.done (State.fcp_keep handleModeStatus_keep PeerK.noPart (.refl _))

theorem execEnableTestStatus_keep {r : Req} : OutK kc kw (s.at_ r.at_) (execEnableTestStatus r s) := by
  unfold execEnableTestStatus
  exact OutK.done (State.fcp_keep handleEnableStatus_keep PeerK.noPart (.refl _))

theorem execEnaFilterChange_keep {t : Nat} {n : Lane} {on : Bool} {held : Nat} : OutK kc kw (s.at_ t) (execEnaFilterChange t n on held s) := by
  have hK : Keep kc kw (s.at_ t) (s.at_ t) := .refl _
  unfold execEnaFilterChange
  generalize s.at_ t = s at *
  repeat' first
    | with_reducible assumption | with_reducible apply Keep.ite | with_reducible apply State.abortMeasure_keep
    | with_reducible apply State.noteSleep_keep | with_reducible apply State.reviewStop_keep | with_reducible apply State.joinTorque_keep
    | with_reducible apply Keep.onLane | with_reducible apply OutK.done | with_reducible apply OutK.ite | extract_lets
    | (simp only [Keep.rest_iff]) | exact LaneK.of_core rfl | intro _

theorem execEnaTestTimeout_keep {t : Nat} {n : Lane} : OutK kc kw (s.at_ t) (execEnaTestTimeout t n s) := by
  have hK : Keep kc kw (s.at_ t) (s.at_ t) := .refl _
  unfold execEnaTestTimeout
  generalize s.at_ t = s at *
  repeat' first
    | with_reducible assumption | with_reducible apply Keep.onLane | with_reducible apply Keep.log | with_reducible apply OutK.done
    | with_reducible apply OutK.ite | extract_lets | (simp only [Keep.rest_iff]) | exact LaneK.of_core rfl | intro _

theorem execEnaWithdrawn_keep {t : Nat} {n : Lane} : OutK kc kw (s.at_ t) (execEnaWithdrawn t n s) := by
  have hK : Keep kc kw (s.at_ t) (s.at_ t) := .refl _
  unfold execEnaWithdrawn
  generalize s.at_ t = s at *
  repeat' first
    | with_reducible assumption | with_reducible apply State.logModule_keep | with_reducible apply State.checkLimp_keep
    | with_reducible apply State.reform_keep | with_reducible apply Keep.onLane | with_reducible apply OutK.done
    | with_reducible apply OutK.ite | extract_lets | exact LaneK.of_core rfl | intro _

theorem execStopToReady_keep {t : Nat} : OutK kc kw (s.at_ t) (execStopToReady t s) := by
  have hK : Keep kc kw (s.at_ t) (s.at_ t) := .refl _
  unfold execStopToReady
  generalize s.at_ t = s at *
  repeat' first
    | with_reducible assumption | with_reducible apply State.enterReady_keep | with_reducible apply OutK.done
    | with_reducible apply OutK.ite | extract_lets | intro _

theorem execEnaSleepDelay_keep {t : Nat} : OutK kc kw (s.at_ t) (execEnaSleepDelay t s) := by
  have hK : Keep kc kw (s.at_ t) (s.at_ t) := .refl _
  unfold execEnaSleepDelay
  generalize s.at_ t = s at *
  repeat' first
    | with_reducible assumption | with_reducible apply State.enterDormant_keep | with_reducible apply Keep.onM
    | with_reducible apply OutK.done | with_reducible apply OutK.ite | extract_lets | intro _

theorem execDormantEntry_keep {t : Nat} : OutK kc kw (s.at_ t) (execDormantEntry t s) := by
  have hK : Keep kc kw (s.at_ t) (s.at_ t) := .refl _
  unfold execDormantEntry
  generalize s.at_ t = s at *
  repeat' first
    | with_reducible assumption | with_reducible apply State.enterDormant_keep | with_reducible apply OutK.done
    | with_reducible apply OutK.ite | extract_lets | intro _

theorem execServiceTimeout_keep {t : Nat} : OutK kc kw (s.at_ t) (execServiceTimeout t s) := by
  have hK : Keep kc kw (s.at_ t) (s.at_ t) := .refl _
  unfold execServiceTimeout
  generalize s.at_ t = s at *
  repeat' first
    | with_reducible assumption | with_reducible apply State.endService_keep | with_reducible apply OutK.done
    | with_reducible apply OutK.ite | extract_lets | intro _

theorem execCmdHold_keep {t : Nat} : OutK kc kw (s.at_ t) (execCmdHold t s) := by
  have hK : Keep kc kw (s.at_ t) (s.at_ t) := .refl _
  unfold execCmdHold
  generalize s.at_ t = s at *
  repeat' first
    | with_reducible assumption | with_reducible apply State.logLeader_keep | with_reducible apply Keep.onM | with_reducible apply OutK.done
    | with_reducible apply OutK.ite | extract_lets | intro _

theorem execLossOfCommand_keep {t : Nat} : OutK kc kw (s.at_ t) (execLossOfCommand t s) := by
  have hK : Keep kc kw (s.at_ t) (s.at_ t) := .refl _
  unfold execLossOfCommand
  generalize s.at_ t = s at *
  repeat' first
    | with_reducible assumption | with_reducible apply State.logLeader_keep | with_reducible apply State.requestStop_keep
    | with_reducible apply State.onEngines_keep | with_reducible apply State.endSteerHold_keep
    | with_reducible apply State.endBrakeHold_keep | with_reducible apply State.abortHoming_keep | with_reducible apply Keep.onM
    | with_reducible apply OutK.done | with_reducible apply OutK.ite | extract_lets | intro _

theorem execMeasureLoadStart_keep {r : Req} : OutK kc kw (s.at_ r.at_) (execMeasureLoadStart r s) := by
  unfold execMeasureLoadStart
  exact OutK.done (State.fcp_keep handleMeasureLoad_keep PeerK.noPart (.refl _))

theorem execMeasureLoadRead_keep {r : Req} : OutK kc kw (s.at_ r.at_) (execMeasureLoadRead r s) := by
  unfold execMeasureLoadRead
  exact OutK.done (State.fcp_keep handleMeasureLoad_keep PeerK.noPart (.refl _))

theorem execMeasureLoadComplete_keep {t : Nat} {n : Lane} {x : Axis} {m : LoadSample} : OutK kc kw (s.at_ t) (execMeasureLoadComplete t n x m s) := by
  have hK : Keep kc kw (s.at_ t) (s.at_ t) := .refl _
  unfold execMeasureLoadComplete
  generalize s.at_ t = s at *
  repeat' first
    | with_reducible assumption | with_reducible apply Keep.ite | with_reducible apply State.floatAll_keep | with_reducible apply Keep.onSet
    | with_reducible apply OutK.done | with_reducible apply OutK.ite | extract_lets | (simp only [Keep.rest_iff]) | intro _
    | dsimp +zetaDelta only

theorem execMeasureCableStart_keep {r : Req} : OutK kc kw (s.at_ r.at_) (execMeasureCableStart r s) := by
  unfold execMeasureCableStart
  exact OutK.done (State.fcp_keep handleMeasureCable_keep PeerK.noPart (.refl _))

theorem execMeasureCableRead_keep {r : Req} : OutK kc kw (s.at_ r.at_) (execMeasureCableRead r s) := by
  unfold execMeasureCableRead
  exact OutK.done (State.fcp_keep handleMeasureCable_keep PeerK.noPart (.refl _))

theorem execMeasureCableComplete_keep {t : Nat} {n : Lane} {refl : Int} {delay : Nat} : OutK kc kw (s.at_ t) (execMeasureCableComplete t n refl delay s) := by
  have hK : Keep kc kw (s.at_ t) (s.at_ t) := .refl _
  unfold execMeasureCableComplete
  generalize s.at_ t = s at *
  repeat' first
    | with_reducible assumption | with_reducible apply OutK.done | with_reducible apply OutK.ite | extract_lets
    | (simp only [Keep.rest_iff]) | intro _

theorem execSelftestRun_keep {r : Req} : OutK kc kw (s.at_ r.at_) (execSelftestRun r s) := by
  unfold execSelftestRun
  exact OutK.done (State.fcp_keep handleSelftestRun_keep PeerK.noPart (.refl _))

theorem LaneSt.reinit_core (l : LaneSt) (ran : Byte) (t : Nat) : (l.reinit ran t).core = l.core := by
  unfold LaneSt.reinit
  repeat' first
    | with_reducible rfl | split | dsimp only
  all_goals rfl

theorem execSelftestComplete_keep {t : Nat} {n : Lane} {done_ bad : Byte} {badBits : Dword} :
    OutK kc kw (s.at_ t) (execSelftestComplete t n done_ bad badBits s) := by
  unfold execSelftestComplete
  generalize hz : s.at_ t = z
  have hK : Keep kc kw z z := .refl _
  dsimp only
  refine OutK.ite (fun _ => OutK.done (State.lostSet_keep ?_)) (fun _ => OutK.done hK)
  refine Keep.rest ?_ ..
  exact Keep.onLane (State.clearBits_keep (Keep.onLane (State.failBits_keep hK) (.of_core (LaneSt.reinit_core ..)))) (.of_core rfl)

theorem execSelftestResult_keep {r : Req} : OutK kc kw (s.at_ r.at_) (execSelftestResult r s) := by
  unfold execSelftestResult
  exact OutK.done (State.fcp_keep handleSelftestResult_keep PeerK.noPart (.refl _))

theorem execHealthRead_keep {r : Req} : OutK kc kw (s.at_ r.at_) (execHealthRead r s) := by
  unfold execHealthRead
  exact OutK.done (State.fcp_keep handleHealthRead_keep PeerK.noPart (.refl _))

theorem execTimeStatus_keep {r : Req} : OutK kc kw (s.at_ r.at_) (execTimeStatus r s) := by
  unfold execTimeStatus
  exact OutK.done (State.fcp_keep handleTimeStatus_keep PeerK.noPart (.refl _))

theorem execLogRead_keep {r : Req} : OutK kc kw (s.at_ r.at_) (execLogRead r s) := by
  unfold execLogRead
  exact OutK.done (State.fcp_keep handleLogRead_keep PeerK.noPart (.refl _))

theorem execLogClear_keep {r : Req} : OutK kc kw (s.at_ r.at_) (execLogClear r s) := by
  unfold execLogClear
  exact OutK.done (State.fcp_keep handleLogClear_keep PeerK.noPart (.refl _))

theorem execHealthRecordLatch_keep {t : Nat} {n : Lane} : OutK kc kw (s.at_ t) (execHealthRecordLatch t n s) := by
  have hK : Keep kc kw (s.at_ t) (s.at_ t) := .refl _
  unfold execHealthRecordLatch
  generalize s.at_ t = s at *
  repeat' first
    | with_reducible assumption | with_reducible apply Keep.onLane | with_reducible apply Keep.onCtr | with_reducible apply OutK.done
    | with_reducible apply OutK.ite | extract_lets | exact LaneK.of_core rfl | intro _

theorem execLifetimeCounterWrite_keep {t : Nat} {n : Lane} : OutK kc kw (s.at_ t) (execLifetimeCounterWrite t n s) := by
  have hK : Keep kc kw (s.at_ t) (s.at_ t) := .refl _
  unfold execLifetimeCounterWrite
  generalize s.at_ t = s at *
  repeat' first
    | with_reducible assumption | with_reducible apply Keep.onCtr | with_reducible apply OutK.done | with_reducible apply OutK.ite
    | extract_lets | intro _

theorem execThermalCycleSample_keep {t : Nat} {n : Lane} : OutK kc kw (s.at_ t) (execThermalCycleSample t n s) := by
  have hK : Keep kc kw (s.at_ t) (s.at_ t) := .refl _
  unfold execThermalCycleSample
  generalize s.at_ t = s at *
  repeat' first
    | with_reducible assumption | with_reducible apply Keep.onLane | with_reducible apply OutK.done | extract_lets | exact LaneK.of_core rfl
    | intro _ | with_reducible apply LaneK.ite

theorem execMemoryScrub_keep {t : Nat} {n : Lane} {a : Word} {e : BitErrors} : OutK kc kw (s.at_ t) (execMemoryScrub t n a e s) := by
  have hK : Keep kc kw (s.at_ t) (s.at_ t) := .refl _
  unfold execMemoryScrub
  generalize s.at_ t = s at *
  repeat' first
    | with_reducible assumption | with_reducible apply State.eccFault_keep | with_reducible apply State.readWord_keep
    | with_reducible apply Keep.onLane | with_reducible apply Keep.onCtr | with_reducible apply OutK.done | with_reducible apply OutK.ite
    | extract_lets | exact LaneK.of_core rfl | intro _ | split

theorem execLockstepMismatch_keep {t : Nat} {n : Lane} {a : Word} : OutK kc kw (s.at_ t) (execLockstepMismatch t n a s) := by
  have hK : Keep kc kw (s.at_ t) (s.at_ t) := .refl _
  unfold execLockstepMismatch
  generalize s.at_ t = s at *
  repeat' first
    | with_reducible assumption | with_reducible apply State.quenchRequest_keep | with_reducible apply State.checkLimp_keep
    | with_reducible apply Keep.log | with_reducible apply OutK.done | with_reducible apply OutK.ite | extract_lets | intro _

theorem execSentFrame_keep {t : Nat} {n : Lane} {p : SentPort} {f : SentRaw} : OutK kc kw (s.at_ t) (execSentFrame t n p f s) := by
  have hK : Keep kc kw (s.at_ t) (s.at_ t) := .refl _
  unfold execSentFrame
  generalize s.at_ t = s at *
  repeat' first
    | with_reducible assumption | with_reducible apply Keep.ite | with_reducible apply State.agreeSent_keep
    | with_reducible apply State.reslot_keep | with_reducible apply Keep.onLane | with_reducible apply Keep.log
    | with_reducible apply OutK.done | with_reducible apply OutK.ite | extract_lets | exact LaneK.of_core rfl
    | exact LaneK.of_core (LaneSt.onSent_core ..) | intro _

theorem execSentSerialMessage_keep {t : Nat} {n : Lane} {p : SentPort} {id : Byte} {data : Half} {crcOk : Bool} : OutK kc kw (s.at_ t) (execSentSerialMessage t n p id data crcOk s) := by
  have hK : Keep kc kw (s.at_ t) (s.at_ t) := .refl _
  unfold execSentSerialMessage
  generalize s.at_ t = s at *
  repeat' first
    | with_reducible assumption | with_reducible apply State.checkIdentity_keep | with_reducible apply Keep.onLane
    | with_reducible apply OutK.done | with_reducible apply OutK.ite | extract_lets | (simp only [Keep.rest_iff])
    | exact LaneK.of_core (LaneSt.onSent_core ..) | intro _ | split

theorem execSentTimeout_keep {t : Nat} {n : Lane} {p : SentPort} : OutK kc kw (s.at_ t) (execSentTimeout t n p s) := by
  have hK : Keep kc kw (s.at_ t) (s.at_ t) := .refl _
  unfold execSentTimeout
  generalize s.at_ t = s at *
  repeat' first
    | with_reducible assumption | with_reducible apply State.reslot_keep | with_reducible apply Keep.onLane | with_reducible apply Keep.log
    | with_reducible apply OutK.done | with_reducible apply OutK.ite | extract_lets | exact LaneK.of_core (LaneSt.onSent_core ..) | intro _

theorem execSvccFault_keep {t : Nat} {n : Lane} {mv : Nat} {held : Nat} : OutK kc kw (s.at_ t) (execSvccFault t n mv held s) := by
  have hK : Keep kc kw (s.at_ t) (s.at_ t) := .refl _
  unfold execSvccFault
  generalize s.at_ t = s at *
  repeat' first
    | with_reducible assumption | with_reducible apply State.reslot_keep | with_reducible apply Keep.onLane
    | with_reducible apply Keep.onSup | with_reducible apply Keep.log | with_reducible apply OutK.done | with_reducible apply OutK.ite
    | extract_lets | exact LaneK.of_core rfl | intro _

theorem execSvccRecover_keep {t : Nat} {n : Lane} {mv : Nat} {held : Nat} : OutK kc kw (s.at_ t) (execSvccRecover t n mv held s) := by
  have hK : Keep kc kw (s.at_ t) (s.at_ t) := .refl _
  unfold execSvccRecover
  generalize s.at_ t = s at *
  repeat' first
    | with_reducible assumption | with_reducible apply State.reslot_keep | with_reducible apply Keep.onLane | with_reducible apply OutK.done
    | with_reducible apply OutK.ite | extract_lets | (simp only [Keep.rest_iff]) | exact LaneK.of_core rfl | intro _

theorem execSvccRetry_keep {t : Nat} {n : Lane} : OutK kc kw (s.at_ t) (execSvccRetry t n s) := by
  have hK : Keep kc kw (s.at_ t) (s.at_ t) := .refl _
  unfold execSvccRetry
  generalize s.at_ t = s at *
  repeat' first
    | with_reducible assumption | with_reducible apply Keep.onSup | with_reducible apply OutK.done | with_reducible apply OutK.ite
    | extract_lets | intro _

theorem execQuadEdge_keep {t : Nat} {n : Lane} {v : QuadLevels} {stable : Nat} : OutK kc kw (s.at_ t) (execQuadEdge t n v stable s) := by
  have hK : Keep kc kw (s.at_ t) (s.at_ t) := .refl _
  unfold execQuadEdge
  generalize s.at_ t = s at *
  repeat' first
    | with_reducible assumption | with_reducible apply Keep.onLane | with_reducible apply OutK.done | with_reducible apply OutK.ite
    | extract_lets | exact LaneK.of_core rfl | intro _

theorem execQuadInvalid_keep {t : Nat} {n : Lane} : OutK kc kw (s.at_ t) (execQuadInvalid t n s) := by
  have hK : Keep kc kw (s.at_ t) (s.at_ t) := .refl _
  unfold execQuadInvalid
  generalize s.at_ t = s at *
  repeat' first
    | with_reducible assumption | with_reducible apply State.reslot_keep | with_reducible apply State.quadLost_keep
    | with_reducible apply Keep.onLane | with_reducible apply Keep.log | with_reducible apply OutK.done | with_reducible apply OutK.ite
    | extract_lets | exact LaneK.of_core rfl | intro _

theorem execQuadOverrate_keep {t : Nat} {n : Lane} : OutK kc kw (s.at_ t) (execQuadOverrate t n s) := by
  have hK : Keep kc kw (s.at_ t) (s.at_ t) := .refl _
  unfold execQuadOverrate
  generalize s.at_ t = s at *
  repeat' first
    | with_reducible assumption | with_reducible apply State.reslot_keep | with_reducible apply State.quadLost_keep
    | with_reducible apply Keep.onLane | with_reducible apply Keep.log | with_reducible apply OutK.done | with_reducible apply OutK.ite
    | extract_lets | exact LaneK.of_core rfl | intro _

theorem execQuadRecover_keep {t : Nat} {n : Lane} : OutK kc kw (s.at_ t) (execQuadRecover t n s) := by
  have hK : Keep kc kw (s.at_ t) (s.at_ t) := .refl _
  unfold execQuadRecover
  generalize s.at_ t = s at *
  repeat' first
    | with_reducible assumption | with_reducible apply State.reslot_keep | with_reducible apply Keep.onLane | with_reducible apply OutK.done
    | with_reducible apply OutK.ite | extract_lets | (simp only [Keep.rest_iff]) | exact LaneK.of_core rfl | intro _ | split

theorem execSwitchChange_keep {t : Nat} {n : Lane} {k : SwPort} {high : Bool} {held : Nat} : OutK kc kw (s.at_ t) (execSwitchChange t n k high held s) := by
  have hK : Keep kc kw (s.at_ t) (s.at_ t) := .refl _
  unfold execSwitchChange
  generalize s.at_ t = s at *
  repeat' first
    | with_reducible assumption | with_reducible apply Keep.onLane | with_reducible apply OutK.done | with_reducible apply OutK.ite
    | extract_lets | exact LaneK.of_core (LaneSt.onSw_core ..) | intro _

theorem execChatter_keep {t : Nat} {n : Lane} {k : SwPort} {ats : List Nat} : OutK kc kw (s.at_ t) (execChatter t n k ats s) := by
  have hK : Keep kc kw (s.at_ t) (s.at_ t) := .refl _
  unfold execChatter
  generalize s.at_ t = s at *
  repeat' first
    | with_reducible assumption | with_reducible apply Keep.onLane | with_reducible apply Keep.log | with_reducible apply OutK.done
    | with_reducible apply OutK.ite | extract_lets | exact LaneK.of_core (LaneSt.onSw_core ..) | intro _

theorem execChatterEnd_keep {t : Nat} {n : Lane} {k : SwPort} {high : Bool} {held : Nat} : OutK kc kw (s.at_ t) (execChatterEnd t n k high held s) := by
  have hK : Keep kc kw (s.at_ t) (s.at_ t) := .refl _
  unfold execChatterEnd
  generalize s.at_ t = s at *
  repeat' first
    | with_reducible assumption | with_reducible apply Keep.onLane | with_reducible apply OutK.done | with_reducible apply OutK.ite
    | extract_lets | (simp only [Keep.rest_iff]) | exact LaneK.of_core (LaneSt.onSw_core ..) | intro _

theorem execStuck_keep {t : Nat} {n : Lane} {k : SwPort} : OutK kc kw (s.at_ t) (execStuck t n k s) := by
  have hK : Keep kc kw (s.at_ t) (s.at_ t) := .refl _
  unfold execStuck
  generalize s.at_ t = s at *
  repeat' first
    | with_reducible assumption | with_reducible apply Keep.onLane | with_reducible apply Keep.log | with_reducible apply OutK.done
    | with_reducible apply OutK.ite | extract_lets | exact LaneK.of_core (LaneSt.onSw_core ..) | intro _

theorem execCompareFire_keep {t : Nat} {n : Lane} {k : BitVec 2} {stamp : Dword} {v : Int} : OutK kc kw (s.at_ t) (execCompareFire t n k stamp v s) := by
  have hK : Keep kc kw (s.at_ t) (s.at_ t) := .refl _
  unfold execCompareFire
  generalize s.at_ t = s at *
  repeat' first
    | with_reducible assumption | with_reducible apply Keep.onLane | with_reducible apply OutK.done | with_reducible apply OutK.ite
    | extract_lets | exact LaneK.of_core (LaneSt.onSlot_core ..) | intro _

theorem execCompareSet_keep {r : Req} : OutK kc kw (s.at_ r.at_) (execCompareSet r s) := by
  unfold execCompareSet
  exact OutK.done (State.fcp_keep handleCompareSet_keep holdMotion_keep (.refl _))

theorem execSupplyShed_keep {t : Nat} {n : Lane} {vsup : Nat} {link : Nat} : OutK kc kw (s.at_ t) (execSupplyShed t n vsup link s) := by
  have hK : Keep kc kw (s.at_ t) (s.at_ t) := .refl _
  unfold execSupplyShed
  generalize s.at_ t = s at *
  repeat' first
    | with_reducible assumption | with_reducible apply State.seeSupply_keep | with_reducible apply State.supplyBack_keep
    | with_reducible apply State.setLevel_keep | with_reducible apply Keep.onLane | with_reducible apply Keep.onSup
    | with_reducible apply OutK.done | with_reducible apply OutK.ite | extract_lets | exact LaneK.of_core rfl | intro _

theorem execSupplyQuench_keep {t : Nat} {n : Lane} {v : SupplyMv} {held : Nat} : OutK kc kw (s.at_ t) (execSupplyQuench t n v held s) := by
  have hK : Keep kc kw (s.at_ t) (s.at_ t) := .refl _
  unfold execSupplyQuench
  generalize s.at_ t = s at *
  repeat' first
    | with_reducible assumption | with_reducible apply State.seeSupply_keep | with_reducible apply State.supplyQuench_keep
    | with_reducible apply OutK.done | with_reducible apply OutK.ite | extract_lets | intro _

theorem execSupplyRestart_keep {t : Nat} {n : Lane} {v : SupplyMv} {held : Nat} (hc : kc = true) : OutK kc kw (s.at_ t) (execSupplyRestart t n v held s) := by
  have hK : Keep kc kw (s.at_ t) (s.at_ t) := .refl _
  unfold execSupplyRestart
  generalize s.at_ t = s at *
  repeat' first
    | with_reducible assumption | with_reducible apply State.resetLane_keep | with_reducible apply State.clearCause_keep
    | with_reducible apply State.seeSupply_keep | with_reducible apply Keep.onSup | with_reducible apply Keep.log
    | with_reducible apply OutK.done | with_reducible apply OutK.ite | exact fun e => absurd (hc.symm.trans e) (by decide) | extract_lets
    | intro _

theorem execSupplyOvOpen_keep {t : Nat} {n : Lane} {mv : Nat} : OutK kc kw (s.at_ t) (execSupplyOvOpen t n mv s) := by
  have hK : Keep kc kw (s.at_ t) (s.at_ t) := .refl _
  unfold execSupplyOvOpen
  generalize s.at_ t = s at *
  repeat' first
    | with_reducible assumption | with_reducible apply State.logModule_keep | with_reducible apply Keep.onSup
    | with_reducible apply OutK.done | with_reducible apply OutK.ite | extract_lets | intro _

theorem execSupplyOvClose_keep {t : Nat} {n : Lane} {mv : Nat} {held : Nat} : OutK kc kw (s.at_ t) (execSupplyOvClose t n mv held s) := by
  have hK : Keep kc kw (s.at_ t) (s.at_ t) := .refl _
  unfold execSupplyOvClose
  generalize s.at_ t = s at *
  repeat' first
    | with_reducible assumption | with_reducible apply Keep.onSup | with_reducible apply OutK.done | with_reducible apply OutK.ite
    | extract_lets | intro _

theorem execInputDisconnectOpen_keep {t : Nat} {n : Lane} {mv : Nat} : OutK kc kw (s.at_ t) (execInputDisconnectOpen t n mv s) := by
  have hK : Keep kc kw (s.at_ t) (s.at_ t) := .refl _
  unfold execInputDisconnectOpen
  generalize s.at_ t = s at *
  repeat' first
    | with_reducible assumption | with_reducible apply Keep.onSup | with_reducible apply OutK.done | with_reducible apply OutK.ite
    | extract_lets | intro _

theorem execInputDisconnectClose_keep {t : Nat} {n : Lane} {vsup : Nat} {mv : Nat} {held : Nat} : OutK kc kw (s.at_ t) (execInputDisconnectClose t n vsup mv held s) := by
  have hK : Keep kc kw (s.at_ t) (s.at_ t) := .refl _
  unfold execInputDisconnectClose
  generalize s.at_ t = s at *
  repeat' first
    | with_reducible assumption | with_reducible apply Keep.onSup | with_reducible apply OutK.done | with_reducible apply OutK.ite
    | extract_lets | intro _

theorem execFirmwareGeyser_keep {t : Nat} {n : Lane} {mv : Nat} : OutK kc kw (s.at_ t) (execFirmwareGeyser t n mv s) := by
  have hK : Keep kc kw (s.at_ t) (s.at_ t) := .refl _
  unfold execFirmwareGeyser
  generalize s.at_ t = s at *
  repeat' first
    | with_reducible assumption | with_reducible apply State.askGeyser_keep | with_reducible apply Keep.onSup
    | with_reducible apply OutK.done | with_reducible apply OutK.ite | extract_lets | intro _

theorem execHardwareGeyser_keep {t : Nat} {n : Lane} {mv : Nat} : OutK kc kw (s.at_ t) (execHardwareGeyser t n mv s) := by
  have hK : Keep kc kw (s.at_ t) (s.at_ t) := .refl _
  unfold execHardwareGeyser
  generalize s.at_ t = s at *
  repeat' first
    | with_reducible assumption | with_reducible apply State.askGeyser_keep | with_reducible apply Keep.onSup
    | with_reducible apply OutK.done | with_reducible apply OutK.ite | extract_lets | intro _

theorem execGeyserCurrentCheck_keep {t : Nat} {n : Lane} {mv : Nat} {i : Nat} : OutK kc kw (s.at_ t) (execGeyserCurrentCheck t n mv i s) := by
  have hK : Keep kc kw (s.at_ t) (s.at_ t) := .refl _
  unfold execGeyserCurrentCheck
  generalize s.at_ t = s at *
  repeat' first
    | with_reducible assumption | with_reducible apply Keep.ite | with_reducible apply State.reformAll_keep
    | with_reducible apply State.onGey_keep | with_reducible apply State.failGeyser_keep | with_reducible apply Keep.onSup
    | with_reducible apply OutK.done | with_reducible apply OutK.ite | extract_lets | intro _

theorem execGeyserNotBlocking_keep {t : Nat} {n : Lane} {i : Nat} {held : Nat} : OutK kc kw (s.at_ t) (execGeyserNotBlocking t n i held s) := by
  have hK : Keep kc kw (s.at_ t) (s.at_ t) := .refl _
  unfold execGeyserNotBlocking
  generalize s.at_ t = s at *
  repeat' first
    | with_reducible assumption | with_reducible apply State.quenchRequest_keep | with_reducible apply State.checkLimp_keep
    | with_reducible apply State.reformAll_keep | with_reducible apply State.failGeyser_keep | with_reducible apply Keep.onSup
    | with_reducible apply OutK.done | with_reducible apply OutK.ite | extract_lets | intro _

theorem execGeyserHot_keep {t : Nat} {n : Lane} {temp : Int} : OutK kc kw (s.at_ t) (execGeyserHot t n temp s) := by
  have hK : Keep kc kw (s.at_ t) (s.at_ t) := .refl _
  unfold execGeyserHot
  generalize s.at_ t = s at *
  repeat' first
    | with_reducible assumption | with_reducible apply Keep.ite | with_reducible apply State.reformAll_keep
    | with_reducible apply State.onGey_keep | with_reducible apply Keep.log | with_reducible apply OutK.done | with_reducible apply OutK.ite
    | extract_lets | intro _

theorem execGeyserHotRelease_keep {t : Nat} {n : Lane} {temp : Int} : OutK kc kw (s.at_ t) (execGeyserHotRelease t n temp s) := by
  have hK : Keep kc kw (s.at_ t) (s.at_ t) := .refl _
  unfold execGeyserHotRelease
  generalize s.at_ t = s at *
  repeat' first
    | with_reducible assumption | with_reducible apply State.reformAll_keep | with_reducible apply State.onGey_keep
    | with_reducible apply OutK.done | with_reducible apply OutK.ite | extract_lets | intro _

theorem execActiveShort_keep {t : Nat} {n : Lane} {mv : Nat} : OutK kc kw (s.at_ t) (execActiveShort t n mv s) := by
  have hK : Keep kc kw (s.at_ t) (s.at_ t) := .refl _
  unfold execActiveShort
  generalize s.at_ t = s at *
  repeat' first
    | with_reducible assumption | with_reducible apply Keep.ite | with_reducible apply State.reform_keep | with_reducible apply Keep.onSet
    | with_reducible apply Keep.onSup | with_reducible apply Keep.log | with_reducible apply Keep.foldl | with_reducible apply OutK.done
    | with_reducible apply OutK.ite | extract_lets | (intros; assumption) | (intro _ _ _; beta_reduce) | intro _

theorem execActiveShortEnd_keep {t : Nat} {n : Lane} {x : Axis} {mv : Nat} : OutK kc kw (s.at_ t) (execActiveShortEnd t n x mv s) := by
  have hK : Keep kc kw (s.at_ t) (s.at_ t) := .refl _
  unfold execActiveShortEnd
  generalize s.at_ t = s at *
  repeat' first
    | with_reducible assumption | with_reducible apply State.reformAll_keep | with_reducible apply Keep.onSet
    | with_reducible apply Keep.onSup | with_reducible apply OutK.done | with_reducible apply OutK.ite | extract_lets | intro _

theorem execSupplyItem_keep {t : Nat} {src : Lane} {dst : Lane} {e : SupplyEntry} : OutK kc kw (s.at_ t) (execSupplyItem t src dst e s) := by
  have hK : Keep kc kw (s.at_ t) (s.at_ t) := .refl _
  unfold execSupplyItem
  generalize s.at_ t = s at *
  repeat' first
    | with_reducible assumption | with_reducible apply State.onItem_keep | with_reducible apply Keep.onLink | with_reducible apply OutK.done
    | extract_lets | (intro _ _ _; beta_reduce)

theorem execMeasureSupply_keep {r : Req} : OutK kc kw (s.at_ r.at_) (execMeasureSupply r s) := by
  unfold execMeasureSupply
  exact OutK.done (State.fcp_keep handleMeasureSupply_keep PeerK.noPart (.refl _))

theorem execCrossLaneFrameCommit_keep {t : Nat} {src : Lane} {dst : Lane} {ws : List XWord} : OutK kc kw (s.at_ t) (execCrossLaneFrameCommit t src dst ws s) := by
  have hK : Keep kc kw (s.at_ t) (s.at_ t) := .refl _
  unfold execCrossLaneFrameCommit
  generalize s.at_ t = s at *
  repeat' first
    | with_reducible assumption | with_reducible apply Keep.ite | with_reducible apply State.takeSetting_keep
    | with_reducible apply State.compareStep_keep | with_reducible apply State.countStale_keep | with_reducible apply State.reviewTemp_keep
    | with_reducible apply State.noteShare_keep | with_reducible apply State.viewChanged_keep | with_reducible apply State.latchT_keep
    | with_reducible apply State.stampTime_keep | with_reducible apply Keep.onLink | with_reducible apply Keep.onCtr
    | with_reducible apply OutK.done | with_reducible apply OutK.ite | extract_lets | (simp only [Keep.rest_iff]) | intro _ | split

theorem execLinkLossOfSignal_keep {t : Nat} {src : Lane} {dst : Lane} : OutK kc kw (s.at_ t) (execLinkLossOfSignal t src dst s) := by
  have hK : Keep kc kw (s.at_ t) (s.at_ t) := .refl _
  unfold execLinkLossOfSignal
  generalize s.at_ t = s at *
  repeat' first
    | with_reducible assumption | with_reducible apply State.viewChanged_keep | with_reducible apply Keep.onLink
    | with_reducible apply OutK.done | with_reducible apply OutK.ite | extract_lets | intro _

theorem execLinkDown_keep {t : Nat} {src : Lane} {dst : Lane} : OutK kc kw (s.at_ t) (execLinkDown t src dst s) := by
  have hK : Keep kc kw (s.at_ t) (s.at_ t) := .refl _
  unfold execLinkDown
  generalize s.at_ t = s at *
  repeat' first
    | with_reducible assumption | with_reducible apply State.viewChanged_keep | with_reducible apply Keep.onLink
    | with_reducible apply Keep.log | with_reducible apply OutK.done | with_reducible apply OutK.ite | extract_lets | intro _

theorem execLinkUp_keep {t : Nat} {src : Lane} {dst : Lane} : OutK kc kw (s.at_ t) (execLinkUp t src dst s) := by
  have hK : Keep kc kw (s.at_ t) (s.at_ t) := .refl _
  unfold execLinkUp
  generalize s.at_ t = s at *
  repeat' first
    | with_reducible assumption | with_reducible apply State.viewChanged_keep | with_reducible apply Keep.onLink
    | with_reducible apply OutK.done | with_reducible apply OutK.ite | extract_lets | intro _

theorem execEnableStateItem_keep {t : Nat} {src : Lane} {dst : Lane} {on : Bool} : OutK kc kw (s.at_ t) (execEnableStateItem t src dst on s) := by
  have hK : Keep kc kw (s.at_ t) (s.at_ t) := .refl _
  unfold execEnableStateItem
  generalize s.at_ t = s at *
  repeat' first
    | with_reducible assumption | with_reducible apply Keep.ite | with_reducible apply State.onItem_keep
    | with_reducible apply State.noteSleep_keep | with_reducible apply State.reviewStop_keep | with_reducible apply Keep.onLink
    | with_reducible apply OutK.done | extract_lets | (simp only [Keep.rest_iff]) | (intro _ _ _; beta_reduce) | intro _

theorem execCalderaSet_keep {t : Nat} {n : Lane} : OutK kc kw (s.at_ t) (execCalderaSet t n s) := by
  have hK : Keep kc kw (s.at_ t) (s.at_ t) := .refl _
  unfold execCalderaSet
  generalize s.at_ t = s at *
  repeat' first
    | with_reducible assumption | with_reducible apply Keep.ite | with_reducible apply State.setCaldera_keep
    | with_reducible apply State.checkLimp_keep | with_reducible apply State.reformAll_keep | with_reducible apply State.endAttempt_keep
    | with_reducible apply OutK.done | with_reducible apply OutK.ite | extract_lets | (intros; assumption) | intro _

theorem execVotedIsolated_keep {t : Nat} {n : Lane} : OutK kc kw (s.at_ t) (execVotedIsolated t n s) := by
  have hK : Keep kc kw (s.at_ t) (s.at_ t) := .refl _
  unfold execVotedIsolated
  generalize s.at_ t = s at *
  repeat' first
    | with_reducible assumption | with_reducible apply State.isolate_keep | with_reducible apply State.checkLimp_keep
    | with_reducible apply State.reformAll_keep | with_reducible apply State.endAttempt_keep | with_reducible apply Keep.onVote
    | with_reducible apply Keep.log | with_reducible apply OutK.done | with_reducible apply OutK.ite | extract_lets
    | (simp only [Keep.rest_iff]) | (intros; assumption) | intro _

theorem execVoteWithdrawn_keep {t : Nat} {n : Lane} : OutK kc kw (s.at_ t) (execVoteWithdrawn t n s) := by
  have hK : Keep kc kw (s.at_ t) (s.at_ t) := .refl _
  unfold execVoteWithdrawn
  generalize s.at_ t = s at *
  repeat' first
    | with_reducible assumption | with_reducible apply State.tryRelease_keep | with_reducible apply OutK.done

theorem execTorqueShadow_keep {t : Nat} {n : Lane} : OutK kc kw (s.at_ t) (execTorqueShadow t n s) := by
  have hK : Keep kc kw (s.at_ t) (s.at_ t) := .refl _
  unfold execTorqueShadow
  generalize s.at_ t = s at *
  repeat' first
    | with_reducible assumption | with_reducible apply State.cast_keep | with_reducible apply State.reform_keep
    | with_reducible apply OutK.done | with_reducible apply OutK.ite | extract_lets | intro _ | split

theorem execProfileReseed_keep {t : Nat} {n : Lane} : OutK kc kw (s.at_ t) (execProfileReseed t n s) := by
  have hK : Keep kc kw (s.at_ t) (s.at_ t) := .refl _
  unfold execProfileReseed
  generalize s.at_ t = s at *
  repeat' first
    | with_reducible assumption | with_reducible apply State.dropItem_keep | with_reducible apply Keep.onLane
    | with_reducible apply Keep.log | with_reducible apply OutK.done | with_reducible apply OutK.ite | extract_lets
    | (simp only [Keep.rest_iff]) | exact LaneK.of_core rfl | intro _ | split

theorem execDeputySelftestFail_keep {t : Nat} {n : Lane} : OutK kc kw (s.at_ t) (execDeputySelftestFail t n s) := by
  have hK : Keep kc kw (s.at_ t) (s.at_ t) := .refl _
  unfold execDeputySelftestFail
  generalize s.at_ t = s at *
  repeat' first
    | with_reducible assumption | with_reducible apply State.markBit_keep | with_reducible apply State.setRole_keep
    | with_reducible apply Keep.onProf | with_reducible apply Keep.onM | with_reducible apply Keep.log | with_reducible apply OutK.done
    | with_reducible apply OutK.ite | extract_lets | intro _

theorem execProfileShadow_keep {t : Nat} {n : Lane} : OutK kc kw (s.at_ t) (execProfileShadow t n s) := by
  have hK : Keep kc kw (s.at_ t) (s.at_ t) := .refl _
  unfold execProfileShadow
  generalize s.at_ t = s at *
  repeat' first
    | with_reducible assumption | with_reducible apply State.cast_keep | with_reducible apply OutK.done | with_reducible apply OutK.ite
    | extract_lets | intro _ | split

theorem execLinkSilence_keep {t : Nat} {n : Lane} {target : Lane} : OutK kc kw (s.at_ t) (execLinkSilence t n target s) := by
  have hK : Keep kc kw (s.at_ t) (s.at_ t) := .refl _
  unfold execLinkSilence
  generalize s.at_ t = s at *
  repeat' first
    | with_reducible assumption | with_reducible apply State.cast_keep | with_reducible apply OutK.done | with_reducible apply OutK.ite
    | extract_lets | intro _

theorem execEpochClaim_keep {t : Nat} {n : Lane} {target : Lane} : OutK kc kw (s.at_ t) (execEpochClaim t n target s) := by
  have hK : Keep kc kw (s.at_ t) (s.at_ t) := .refl _
  unfold execEpochClaim
  generalize s.at_ t = s at *
  repeat' first
    | with_reducible assumption | with_reducible apply Keep.ite | with_reducible apply State.cast_keep
    | with_reducible apply State.follow_keep | with_reducible apply OutK.done | with_reducible apply OutK.ite | extract_lets | intro _

theorem execDispute_keep {t : Nat} {n : Lane} {target : Lane} : OutK kc kw (s.at_ t) (execDispute t n target s) := by
  have hK : Keep kc kw (s.at_ t) (s.at_ t) := .refl _
  unfold execDispute
  generalize s.at_ t = s at *
  repeat' first
    | with_reducible assumption | with_reducible apply State.takeEffectIn_keep | with_reducible apply Keep.onVote
    | with_reducible apply Keep.log | with_reducible apply OutK.done | with_reducible apply OutK.ite | extract_lets
    | (simp only [Keep.rest_iff]) | (intros; assumption) | intro _

theorem execDisputeTimeout_keep {t : Nat} {n : Lane} {target : Lane} : OutK kc kw (s.at_ t) (execDisputeTimeout t n target s) := by
  have hK : Keep kc kw (s.at_ t) (s.at_ t) := .refl _
  unfold execDisputeTimeout
  generalize s.at_ t = s at *
  repeat' first
    | with_reducible assumption | with_reducible apply Keep.onVote | with_reducible apply Keep.log | with_reducible apply OutK.done
    | with_reducible apply OutK.ite | extract_lets | (simp only [Keep.rest_iff]) | (intros; assumption) | intro _ | split

theorem execArbitrate_keep {r : Req} : OutK kc kw (s.at_ r.at_) (execArbitrate r s) := by
  unfold execArbitrate
  exact OutK.done (State.fcp_keep handleArbitrate_keep peerArbitrate_keep (.refl _))

theorem execQuench_keep {r : Req} : OutK kc kw (s.at_ r.at_) (execQuench r s) := by
  unfold execQuench
  exact OutK.done (State.fcp_keep handleQuench_keep peerQuench_keep (.refl _))

theorem execQuenchTimeout_keep {t : Nat} : OutK kc kw (s.at_ t) (execQuenchTimeout t s) := by
  have hK : Keep kc kw (s.at_ t) (s.at_ t) := .refl _
  unfold execQuenchTimeout
  generalize s.at_ t = s at *
  repeat' first
    | with_reducible assumption | with_reducible apply State.replyError_keep | with_reducible apply Keep.onM
    | with_reducible apply OutK.done | with_reducible apply OutK.ite | extract_lets | intro _ | split

theorem execCalderaClear_keep {r : Req} (hc : kc = true) : OutK kc kw (s.at_ r.at_) (execCalderaClear r s) := by
  unfold execCalderaClear
  exact OutK.done (State.fcp_keep (handleCalderaClear_keep hc) PeerK.noPart (.refl _))

theorem execApplicationCycle_keep {t : Nat} {n : Lane} : OutK true true (s.at_ t) (execApplicationCycle t n s) := by
  unfold execApplicationCycle
  have hK : Keep true true (s.at_ t) (s.at_ t) := .refl _
  generalize s.at_ t = u at hK
  dsimp only
  refine OutK.ite (fun _ => .done hK) (fun _ => .done (Keep.onNet ?_ (fun _ => rfl)))
  have h1 : Keep true true u (((u.onRst n (fun r => { r with appAt := t })).reviewRelay n).serveQueue n) :=
    State.serveQueue_keep handlerOf_keep (State.reviewRelay_keep (Keep.onRst hK))
  revert h1
  generalize ((u.onRst n (fun r => { r with appAt := t })).reviewRelay n).serveQueue n = v
  intro h1
  have h2 : ∀ x : State, Keep true true u x → Keep true true u (if x.leader = some n then x.answerQuench n else x) :=
    fun x h => Keep.ite (fun _ => State.answerQuench_keep h) (fun _ => h)
  split
  · rename_i f _ _
    refine h2 _ (State.countFresh_keep (Keep.foldl ?_ (fun _ _ k => State.takePacket_keep handlerOf_keep k)))
    exact Keep.ite (fun _ => Keep.onCtr (Keep.onNet h1 (fun _ => rfl))) (fun _ => Keep.onNet h1 (fun _ => rfl))
  · exact h2 _ (State.countFresh_keep h1)

theorem execHostPortFrame_keep {t : Nat} {id : BitVec 29} {fd : Bool} {data : List Byte} :
    OutK true true (s.at_ t) (execHostPortFrame t id fd data s) := by
  unfold execHostPortFrame
  have hK : Keep true true (s.at_ t) (s.at_ t) := .refl _
  extract_lets u b0 first last idx mine open_ v body w
  have h1 : Keep true true u v := Keep.ite (fun _ => Keep.rest hK ..) (fun _ => hK)
  have h3 : Keep true true u w := Keep.rest h1 ..
  refine OutK.ite (fun _ => .done hK) (fun _ => ?_)
  refine OutK.ite (fun _ => ?_) (fun _ => OutK.ite (fun _ => .done h1) (fun _ => ?_))
  · exact OutK.ite (fun _ => .done (State.hostBusy_keep h3)) (fun _ => OutK.ite (fun _ =>
      .done (State.hostRequest_keep handlerOf_keep h3)) (fun _ => .done (Keep.rest h3 ..)))
  · exact OutK.ite (fun _ => .done (Keep.rest h1 ..)) (fun _ => OutK.ite (fun _ =>
      .done (State.hostRequest_keep handlerOf_keep (Keep.rest h1 ..))) (fun _ => .done (Keep.rest h1 ..)))

theorem execAngleSuspect_keep {t : Nat} {n : Lane} {x : Axis} : OutK kc kw (s.at_ t) (execAngleSuspect t n x s) := by
  have hK : Keep kc kw (s.at_ t) (s.at_ t) := .refl _
  unfold execAngleSuspect
  generalize s.at_ t = s at *
  repeat' first
    | with_reducible assumption | with_reducible apply Keep.ite | with_reducible apply State.cast_keep | with_reducible apply Keep.onSet
    | with_reducible apply Keep.log | with_reducible apply Keep.foldl | with_reducible apply OutK.done | extract_lets
    | (simp only [Keep.rest_iff]) | (intros; assumption) | (intro _ _ _; beta_reduce) | intro _ | split

theorem execAngleOutlier_keep {t : Nat} {n : Lane} {x : Axis} : OutK kc kw (s.at_ t) (execAngleOutlier t n x s) := by
  have hK : Keep kc kw (s.at_ t) (s.at_ t) := .refl _
  unfold execAngleOutlier
  generalize s.at_ t = s at *
  repeat' first
    | with_reducible assumption | with_reducible apply Keep.ite | with_reducible apply State.cast_keep | with_reducible apply Keep.foldl
    | with_reducible apply OutK.done | extract_lets | (intros; assumption) | (intro _ _ _; beta_reduce) | intro _

theorem execObsInjFault_keep {t : Nat} {n : Lane} {x : Axis} : OutK kc kw (s.at_ t) (execObsInjFault t n x s) := by
  have hK : Keep kc kw (s.at_ t) (s.at_ t) := .refl _
  unfold execObsInjFault
  generalize s.at_ t = s at *
  repeat' first
    | with_reducible assumption | with_reducible apply Keep.onSet | with_reducible apply Keep.log | with_reducible apply OutK.done
    | with_reducible apply OutK.ite | extract_lets | (simp only [Keep.rest_iff]) | intro _

theorem execObsPsiMismatch_keep {t : Nat} {n : Lane} {x : Axis} : OutK kc kw (s.at_ t) (execObsPsiMismatch t n x s) := by
  have hK : Keep kc kw (s.at_ t) (s.at_ t) := .refl _
  unfold execObsPsiMismatch
  generalize s.at_ t = s at *
  repeat' first
    | with_reducible assumption | with_reducible apply Keep.onSet | with_reducible apply Keep.log | with_reducible apply OutK.done
    | with_reducible apply OutK.ite | extract_lets | (simp only [Keep.rest_iff]) | intro _

theorem execConsensusLost_keep {t : Nat} {x : Axis} : OutK kc kw (s.at_ t) (execConsensusLost t x s) := by
  have hK : Keep kc kw (s.at_ t) (s.at_ t) := .refl _
  unfold execConsensusLost
  generalize s.at_ t = s at *
  repeat' first
    | with_reducible assumption | with_reducible apply Keep.ite | with_reducible apply State.logLeader_keep
    | with_reducible apply State.checkLimp_keep | with_reducible apply State.reformAll_keep
    | with_reducible apply State.startAcquisition_keep | with_reducible apply Keep.onM | with_reducible apply OutK.done
    | with_reducible apply OutK.ite | extract_lets | intro _

theorem execAngleAcquisitionEnd_keep {t : Nat} {x : Axis} : OutK kc kw (s.at_ t) (execAngleAcquisitionEnd t x s) := by
  have hK : Keep kc kw (s.at_ t) (s.at_ t) := .refl _
  unfold execAngleAcquisitionEnd
  generalize s.at_ t = s at *
  repeat' first
    | with_reducible assumption | with_reducible apply Keep.ite | with_reducible apply Keep.onSet | with_reducible apply Keep.onM
    | with_reducible apply Keep.log | with_reducible apply Keep.foldl | with_reducible apply OutK.done | with_reducible apply OutK.ite
    | extract_lets | (simp only [Keep.rest_iff]) | (intro _ _ _; beta_reduce) | intro _

theorem execPolarityDetection_keep {t : Nat} {n : Lane} {ms : List PulsePair} {mb : List PulsePair} : OutK kc kw (s.at_ t) (execPolarityDetection t n ms mb s) := by
  have hK : Keep kc kw (s.at_ t) (s.at_ t) := .refl _
  unfold execPolarityDetection
  generalize s.at_ t = s at *
  repeat' first
    | with_reducible assumption | with_reducible apply State.detectPolarity_keep | with_reducible apply OutK.done
    | with_reducible apply OutK.ite | extract_lets | intro _

theorem execPolarityCompare_keep {t : Nat} {x : Axis} : OutK kc kw (s.at_ t) (execPolarityCompare t x s) := by
  have hK : Keep kc kw (s.at_ t) (s.at_ t) := .refl _
  unfold execPolarityCompare
  generalize s.at_ t = s at *
  repeat' first
    | with_reducible assumption | with_reducible apply Keep.ite | with_reducible apply State.flipSet_keep
    | with_reducible apply State.endAcquisition_keep | with_reducible apply Keep.onSet | with_reducible apply OutK.done
    | with_reducible apply OutK.ite | extract_lets | (simp only [Keep.rest_iff]) | (intros; assumption) | intro _ | split

theorem execCurrentLoopUpdate_keep {t : Nat} {n : Lane} {x : Axis} {m : CurrentSample} : OutK kc kw (s.at_ t) (execCurrentLoopUpdate t n x m s) := by
  have hK : Keep kc kw (s.at_ t) (s.at_ t) := .refl _
  unfold execCurrentLoopUpdate
  generalize s.at_ t = s at *
  repeat' first
    | with_reducible assumption | with_reducible apply State.fieldUpdate_keep | with_reducible apply Keep.onSet
    | with_reducible apply OutK.done | with_reducible apply OutK.ite | extract_lets | intro _

theorem execAuxConversion_keep {t : Nat} {n : Lane} {m : AuxSample} : OutK kc kw (s.at_ t) (execAuxConversion t n m s) := by
  unfold execAuxConversion
  generalize s.at_ t = z
  refine OutK.ite (fun _ => OutK.done (.refl _)) (fun _ => ?_)
  extract_lets s1 s2 s3
  have h1 : Keep kc kw z s1 := Keep.onLane (.refl _) (.of_core (LaneSt.takeTemps_core ..))
  have h2 : Keep kc kw z s2 := State.reviewTemp_keep (State.checkRefs_keep h1)
  have h3 : Keep kc kw z s3 := Keep.ite (fun _ => State.endLoad_keep h2) (fun _ => h2)
  exact OutK.done (Keep.ite (fun _ => State.endLoad_keep h3) (fun _ => h3))

theorem execWindowLimited_keep {t : Nat} {n : Lane} {x : Axis} : OutK kc kw (s.at_ t) (execWindowLimited t n x s) := by
  have hK : Keep kc kw (s.at_ t) (s.at_ t) := .refl _
  unfold execWindowLimited
  generalize s.at_ t = s at *
  repeat' first
    | with_reducible assumption | with_reducible apply Keep.onSet | with_reducible apply OutK.done | with_reducible apply OutK.ite
    | extract_lets | intro _

theorem execWindowLimitedClear_keep {t : Nat} {n : Lane} {x : Axis} : OutK kc kw (s.at_ t) (execWindowLimitedClear t n x s) := by
  have hK : Keep kc kw (s.at_ t) (s.at_ t) := .refl _
  unfold execWindowLimitedClear
  generalize s.at_ t = s at *
  repeat' first
    | with_reducible assumption | with_reducible apply Keep.onSet | with_reducible apply OutK.done | with_reducible apply OutK.ite
    | extract_lets | intro _

theorem execSenseMismatch_keep {t : Nat} {n : Lane} {x : Axis} {p : Option Phase} : OutK kc kw (s.at_ t) (execSenseMismatch t n x p s) := by
  have hK : Keep kc kw (s.at_ t) (s.at_ t) := .refl _
  unfold execSenseMismatch
  generalize s.at_ t = s at *
  repeat' first
    | with_reducible assumption | with_reducible apply State.markBit_keep | with_reducible apply State.checkLimp_keep
    | with_reducible apply State.lostSet_keep | with_reducible apply Keep.onSet | with_reducible apply Keep.log
    | with_reducible apply OutK.done | with_reducible apply OutK.ite | extract_lets | intro _

theorem execCarrierUnlock_keep {t : Nat} {n : Lane} : OutK kc kw (s.at_ t) (execCarrierUnlock t n s) := by
  have hK : Keep kc kw (s.at_ t) (s.at_ t) := .refl _
  unfold execCarrierUnlock
  generalize s.at_ t = s at *
  repeat' first
    | with_reducible assumption | with_reducible apply Keep.onCtr | with_reducible apply OutK.done

theorem execI2tLimit_keep {t : Nat} {n : Lane} {x : SetRef} : OutK kc kw (s.at_ t) (execI2tLimit t n x s) := by
  have hK : Keep kc kw (s.at_ t) (s.at_ t) := .refl _
  unfold execI2tLimit
  generalize s.at_ t = s at *
  repeat' first
    | with_reducible assumption | with_reducible apply State.onTerm_keep | with_reducible apply OutK.done | with_reducible apply OutK.ite
    | extract_lets | intro _

theorem execI2tRecover_keep {t : Nat} {n : Lane} {x : SetRef} : OutK kc kw (s.at_ t) (execI2tRecover t n x s) := by
  have hK : Keep kc kw (s.at_ t) (s.at_ t) := .refl _
  unfold execI2tRecover
  generalize s.at_ t = s at *
  repeat' first
    | with_reducible assumption | with_reducible apply State.onTerm_keep | with_reducible apply OutK.done | with_reducible apply OutK.ite
    | extract_lets | intro _

theorem execPwmPeriod_keep {t : Nat} {n : Lane} {m : PeriodSample} : OutK kc kw (s.at_ t) (execPwmPeriod t n m s) := by
  have hK : Keep kc kw (s.at_ t) (s.at_ t) := .refl _
  unfold execPwmPeriod
  generalize s.at_ t = s at *
  repeat' first
    | with_reducible assumption | with_reducible apply Keep.ite | with_reducible apply State.sendReports_keep
    | with_reducible apply State.sendFrames_keep | with_reducible apply State.pwmPeak_keep | with_reducible apply Keep.onLane
    | with_reducible apply OutK.done | with_reducible apply OutK.ite | extract_lets | exact LaneK.of_core rfl | intro _

theorem execLeaderHandover_keep {t : Nat} {n : Lane} : OutK kc kw (s.at_ t) (execLeaderHandover t n s) := by
  have hK : Keep kc kw (s.at_ t) (s.at_ t) := .refl _
  unfold execLeaderHandover
  generalize s.at_ t = s at *
  repeat' first
    | with_reducible assumption | with_reducible apply Keep.ite | with_reducible apply State.observeLoss_keep
    | with_reducible apply State.takeLead_keep | with_reducible apply State.decideNow_keep | with_reducible apply State.makeDeputy_keep
    | with_reducible apply OutK.done | with_reducible apply OutK.ite | extract_lets | intro _ | split | dsimp +zetaDelta only

theorem execLeaderReturn_keep {t : Nat} {n : Lane} : OutK kc kw (s.at_ t) (execLeaderReturn t n s) := by
  have hK : Keep kc kw (s.at_ t) (s.at_ t) := .refl _
  unfold execLeaderReturn
  generalize s.at_ t = s at *
  repeat' first
    | with_reducible assumption | with_reducible apply State.setRole_keep | with_reducible apply State.adopt_keep
    | with_reducible apply State.takeLead_keep | with_reducible apply State.decideNow_keep | with_reducible apply OutK.done
    | with_reducible apply OutK.ite | extract_lets | (simp only [Keep.rest_iff]) | intro _ | split

theorem execDeputyAssign_keep {t : Nat} {n : Lane} : OutK kc kw (s.at_ t) (execDeputyAssign t n s) := by
  have hK : Keep kc kw (s.at_ t) (s.at_ t) := .refl _
  unfold execDeputyAssign
  generalize s.at_ t = s at *
  repeat' first
    | with_reducible assumption | with_reducible apply State.makeDeputy_keep | with_reducible apply OutK.done
    | with_reducible apply OutK.ite | extract_lets | intro _ | split

theorem execShadowSnapshotDone_keep {t : Nat} {n : Lane} : OutK kc kw (s.at_ t) (execShadowSnapshotDone t n s) := by
  have hK : Keep kc kw (s.at_ t) (s.at_ t) := .refl _
  unfold execShadowSnapshotDone
  generalize s.at_ t = s at *
  repeat' first
    | with_reducible assumption | with_reducible apply State.dropItem_keep | with_reducible apply Keep.onProf
    | with_reducible apply OutK.done | with_reducible apply OutK.ite | extract_lets | (simp only [Keep.rest_iff]) | intro _ | split

theorem execRejoinRecordsCopied_keep {t : Nat} {n : Lane} : OutK kc kw (s.at_ t) (execRejoinRecordsCopied t n s) := by
  have hK : Keep kc kw (s.at_ t) (s.at_ t) := .refl _
  unfold execRejoinRecordsCopied
  generalize s.at_ t = s at *
  repeat' first
    | with_reducible assumption | with_reducible apply Keep.ite | with_reducible apply State.adopt_keep
    | with_reducible apply State.dropItem_keep | with_reducible apply State.failRejoin_keep | with_reducible apply Keep.onLane
    | with_reducible apply OutK.done | with_reducible apply OutK.ite | extract_lets | (simp only [Keep.rest_iff]) | exact LaneK.of_core rfl
    | (intros; assumption) | intro _ | split

theorem execRejoinSnapshotReceived_keep {t : Nat} {n : Lane} : OutK kc kw (s.at_ t) (execRejoinSnapshotReceived t n s) := by
  have hK : Keep kc kw (s.at_ t) (s.at_ t) := .refl _
  unfold execRejoinSnapshotReceived
  generalize s.at_ t = s at *
  repeat' first
    | with_reducible assumption | with_reducible apply State.checkLimp_keep | with_reducible apply State.dropItem_keep
    | with_reducible apply State.becomeActive_keep | with_reducible apply Keep.onLane | with_reducible apply OutK.done
    | with_reducible apply OutK.ite | extract_lets | (simp only [Keep.rest_iff]) | exact LaneK.of_core rfl | intro _ | split

theorem execRejoinConverged_keep {t : Nat} {n : Lane} : OutK kc kw (s.at_ t) (execRejoinConverged t n s) := by
  have hK : Keep kc kw (s.at_ t) (s.at_ t) := .refl _
  unfold execRejoinConverged
  generalize s.at_ t = s at *
  repeat' first
    | with_reducible assumption | with_reducible apply Keep.onLane | with_reducible apply OutK.done | with_reducible apply OutK.ite
    | extract_lets | (simp only [Keep.rest_iff]) | exact LaneK.of_core rfl | intro _

theorem execRejoinRampEnd_keep {t : Nat} {n : Lane} : OutK kc kw (s.at_ t) (execRejoinRampEnd t n s) := by
  have hK : Keep kc kw (s.at_ t) (s.at_ t) := .refl _
  unfold execRejoinRampEnd
  generalize s.at_ t = s at *
  repeat' first
    | with_reducible assumption | with_reducible apply State.checkLimp_keep | with_reducible apply State.reform_keep
    | with_reducible apply State.becomeActive_keep | with_reducible apply OutK.done | with_reducible apply OutK.ite | extract_lets | intro _

theorem execRejoinFail_keep {t : Nat} {n : Lane} : OutK kc kw (s.at_ t) (execRejoinFail t n s) := by
  have hK : Keep kc kw (s.at_ t) (s.at_ t) := .refl _
  unfold execRejoinFail
  generalize s.at_ t = s at *
  repeat' first
    | with_reducible assumption | with_reducible apply State.failRejoin_keep | with_reducible apply OutK.done
    | with_reducible apply OutK.ite | extract_lets | intro _

theorem execRejoinRetry_keep {t : Nat} {n : Lane} : OutK kc kw (s.at_ t) (execRejoinRetry t n s) := by
  have hK : Keep kc kw (s.at_ t) (s.at_ t) := .refl _
  unfold execRejoinRetry
  generalize s.at_ t = s at *
  repeat' first
    | with_reducible assumption | with_reducible apply State.enterRejoin_keep | with_reducible apply OutK.done
    | with_reducible apply OutK.ite | extract_lets | intro _ | split

theorem execLegInterlock_keep {t : Nat} {n : Lane} {x : Axis} {p : Phase} : OutK kc kw (s.at_ t) (execLegInterlock t n x p s) := by
  have hK : Keep kc kw (s.at_ t) (s.at_ t) := .refl _
  unfold execLegInterlock
  generalize s.at_ t = s at *
  repeat' first
    | with_reducible assumption | with_reducible apply State.tripLeg_keep | with_reducible apply Keep.log | with_reducible apply OutK.done
    | with_reducible apply OutK.ite | extract_lets | intro _

theorem execLegDidt_keep {t : Nat} {n : Lane} {x : Axis} {p : Phase} {didt : Rat} {since : Nat} {held : Nat} : OutK kc kw (s.at_ t) (execLegDidt t n x p didt since held s) := by
  have hK : Keep kc kw (s.at_ t) (s.at_ t) := .refl _
  unfold execLegDidt
  generalize s.at_ t = s at *
  repeat' first
    | with_reducible assumption | with_reducible apply State.tripLeg_keep | with_reducible apply Keep.log | with_reducible apply OutK.done
    | with_reducible apply OutK.ite | extract_lets | intro _

theorem execSetOvercurrent_keep {t : Nat} {n : Lane} {x : Axis} {i : Int} {held : Nat} {since : Nat} : OutK kc kw (s.at_ t) (execSetOvercurrent t n x i held since s) := by
  have hK : Keep kc kw (s.at_ t) (s.at_ t) := .refl _
  unfold execSetOvercurrent
  generalize s.at_ t = s at *
  repeat' first
    | with_reducible assumption | with_reducible apply State.markBit_keep | with_reducible apply State.checkLimp_keep
    | with_reducible apply State.lostSet_keep | with_reducible apply Keep.onSet | with_reducible apply Keep.log
    | with_reducible apply OutK.done | with_reducible apply OutK.ite | extract_lets | intro _

theorem execBootstrapRefresh_keep {t : Nat} {n : Lane} {x : Axis} {p : Phase} {mv : Nat} : OutK kc kw (s.at_ t) (execBootstrapRefresh t n x p mv s) := by
  have hK : Keep kc kw (s.at_ t) (s.at_ t) := .refl _
  unfold execBootstrapRefresh
  generalize s.at_ t = s at *
  repeat' first
    | with_reducible assumption | with_reducible apply Keep.onSet | with_reducible apply OutK.done | with_reducible apply OutK.ite
    | extract_lets | intro _

theorem execBootUv_keep {t : Nat} {n : Lane} {x : Axis} {p : Phase} {mv : Nat} : OutK kc kw (s.at_ t) (execBootUv t n x p mv s) := by
  have hK : Keep kc kw (s.at_ t) (s.at_ t) := .refl _
  unfold execBootUv
  generalize s.at_ t = s at *
  repeat' first
    | with_reducible assumption | with_reducible apply State.tripLeg_keep | with_reducible apply Keep.log | with_reducible apply OutK.done
    | with_reducible apply OutK.ite | extract_lets | intro _

theorem execGateServoSaturation_keep {t : Nat} {n : Lane} {x : Axis} {p : Phase} : OutK kc kw (s.at_ t) (execGateServoSaturation t n x p s) := by
  have hK : Keep kc kw (s.at_ t) (s.at_ t) := .refl _
  unfold execGateServoSaturation
  generalize s.at_ t = s at *
  repeat' first
    | with_reducible assumption | with_reducible apply Keep.onSet | with_reducible apply OutK.done

theorem execOffStateDiagnostics_keep {t : Nat} {n : Lane} {m : OffStateSample} : OutK kc kw (s.at_ t) (execOffStateDiagnostics t n m s) := by
  have hK : Keep kc kw (s.at_ t) (s.at_ t) := .refl _
  unfold execOffStateDiagnostics
  generalize s.at_ t = s at *
  repeat' first
    | with_reducible assumption | with_reducible apply Keep.ite | with_reducible apply State.lostSet_keep
    | with_reducible apply State.testSet_keep | with_reducible apply State.testGeyser_keep | with_reducible apply Keep.onLanes
    | with_reducible apply Keep.onM | with_reducible apply OutK.done | with_reducible apply OutK.ite | extract_lets
    | exact LaneK.of_core rfl | intro _

theorem execTwinFrame_keep {t : Nat} {k : TwinLink} {ws : List XWord} : OutK kc kw (s.at_ t) (execTwinFrame t k ws s) := by
  have hK : Keep kc kw (s.at_ t) (s.at_ t) := .refl _
  unfold execTwinFrame
  generalize s.at_ t = s at *
  repeat' first
    | with_reducible assumption | with_reducible apply State.logModule_keep | with_reducible apply State.useTwin_keep
    | with_reducible apply OutK.done | with_reducible apply OutK.ite | extract_lets | (simp only [Keep.rest_iff]) | intro _ | split

theorem execTwinLinkDown_keep {t : Nat} {k : TwinLink} : OutK kc kw (s.at_ t) (execTwinLinkDown t k s) := by
  have hK : Keep kc kw (s.at_ t) (s.at_ t) := .refl _
  unfold execTwinLinkDown
  generalize s.at_ t = s at *
  repeat' first
    | with_reducible assumption | with_reducible apply State.logModule_keep | with_reducible apply State.loseTwin_keep
    | with_reducible apply OutK.done | with_reducible apply OutK.ite | extract_lets | (simp only [Keep.rest_iff]) | intro _
    | dsimp +zetaDelta only

theorem execOuterLoopStep_keep {t : Nat} {n : Lane} : OutK kc kw (s.at_ t) (execOuterLoopStep t n s) := by
  have hK : Keep kc kw (s.at_ t) (s.at_ t) := .refl _
  unfold execOuterLoopStep
  generalize s.at_ t = s at *
  repeat' first
    | with_reducible assumption | with_reducible apply Keep.ite | with_reducible apply State.agreeSent_keep
    | with_reducible apply State.agreeQuad_keep | with_reducible apply State.compareStep_keep | with_reducible apply State.latchT_keep
    | with_reducible apply State.stepSetpoints_keep | with_reducible apply State.dropTravel_keep | with_reducible apply State.locMove_keep
    | with_reducible apply State.integrateAngle_keep | with_reducible apply State.stepShares_keep
    | with_reducible apply State.stepTorque_keep | with_reducible apply State.leaderStep_keep | with_reducible apply Keep.onLane
    | with_reducible apply Keep.onProf | with_reducible apply OutK.done | with_reducible apply OutK.ite | extract_lets
    | exact LaneK.of_core rfl | intro _

theorem execSteerHoldStart_keep {t : Nat} : OutK kc kw (s.at_ t) (execSteerHoldStart t s) := by
  have hK : Keep kc kw (s.at_ t) (s.at_ t) := .refl _
  unfold execSteerHoldStart
  generalize s.at_ t = s at *
  repeat' first
    | with_reducible assumption | with_reducible apply State.takeEffect_keep | with_reducible apply OutK.done
    | with_reducible apply OutK.ite | extract_lets | (simp only [Keep.rest_iff]) | intro _

theorem execBrakeHoldStart_keep {t : Nat} : OutK kc kw (s.at_ t) (execBrakeHoldStart t s) := by
  have hK : Keep kc kw (s.at_ t) (s.at_ t) := .refl _
  unfold execBrakeHoldStart
  generalize s.at_ t = s at *
  repeat' first
    | with_reducible assumption | with_reducible apply State.takeEffect_keep | with_reducible apply OutK.done
    | with_reducible apply OutK.ite | extract_lets | (simp only [Keep.rest_iff]) | intro _

theorem execBrakeHoldDwell_keep {t : Nat} : OutK kc kw (s.at_ t) (execBrakeHoldDwell t s) := by
  have hK : Keep kc kw (s.at_ t) (s.at_ t) := .refl _
  unfold execBrakeHoldDwell
  generalize s.at_ t = s at *
  repeat' first
    | with_reducible assumption | with_reducible apply OutK.done | with_reducible apply OutK.ite | extract_lets
    | (simp only [Keep.rest_iff]) | intro _

theorem execSetsStartSwitching_keep {t : Nat} : OutK kc kw (s.at_ t) (execSetsStartSwitching t s) := by
  unfold execSetsStartSwitching
  have hK : Keep kc kw (s.at_ t) (s.at_ t) := .refl _
  generalize s.at_ t = u at hK
  refine OutK.ite (fun _ => .done ?_) (fun _ => .done hK)
  refine State.reformAll_keep (Keep.onM (Keep.onLanes ?_ (fun _ _ => .of_core rfl)))
  have h1 := State.reformAll_keep (Keep.onM (f := fun m => { m with noConS := false, noConB := false }) (Keep.foldl hK
    (l := u.actives) (f := fun s m => s.onLane m (fun l =>
      { l with ena := { l.ena with withdrawn := !(l.ena.test == 2 && l.ena.filt) }, sup := { l.sup with resumed := l.sup.level != 6 } }))
    (fun _ _ k => Keep.onLane k (.of_core rfl))))
  have h2 : ∀ (x : State) (as : List Axis), Keep kc kw u x → Keep kc kw u (as.foldl State.startAxis x) :=
    fun _ _ h => Keep.foldl h (fun _ _ k => State.startAxis_keep k)
  exact Keep.ite (fun _ => h2 _ _ h1) (fun _ => State.onEngines_keep (State.onEngines_keep (h2 _ _ h1)))

theorem execRunEntryComplete_keep {t : Nat} : OutK kc kw (s.at_ t) (execRunEntryComplete t s) := by
  have hK : Keep kc kw (s.at_ t) (s.at_ t) := .refl _
  unfold execRunEntryComplete
  generalize s.at_ t = s at *
  repeat' first
    | with_reducible assumption | with_reducible apply State.enterLimp_keep | with_reducible apply State.enterRun_keep
    | with_reducible apply State.launchHoming_keep | with_reducible apply Keep.onM | with_reducible apply OutK.done
    | with_reducible apply OutK.ite | extract_lets | intro _

theorem execCatchSpinEnd_keep {t : Nat} {n : Lane} {m : CatchPair} : OutK kc kw (s.at_ t) (execCatchSpinEnd t n m s) := by
  have hK : Keep kc kw (s.at_ t) (s.at_ t) := .refl _
  unfold execCatchSpinEnd
  generalize s.at_ t = s at *
  repeat' first
    | with_reducible assumption | with_reducible apply Keep.ite | with_reducible apply State.endLoad_keep
    | with_reducible apply State.failRejoin_keep | with_reducible apply State.catchSet_keep | with_reducible apply State.endCatchStep_keep
    | with_reducible apply Keep.onSet | with_reducible apply OutK.done | with_reducible apply OutK.ite | extract_lets | intro _ | split

end Sys2Proof.Machine
end

