-- ==== Sys2Proof/Laws/Own.lean ====
section
/-! SUPPORT. The commands that act on one lane alone: every other lane and everything the module shares stays. -/

namespace Sys2Proof.Machine

/-- Only lane n differs between two states. -/
def Own (n : Lane) (s t : State) : Prop := ∃ l : LaneSt, t = s.onLane n (fun _ => l)

variable {n : Lane} {s0 s : State}

theorem Own.refl (n : Lane) (s : State) : Own n s s := ⟨s.lane n, by cases n <;> rfl⟩

theorem Own.onLane {f : LaneSt → LaneSt} (h : Own n s0 s) : Own n s0 (s.onLane n f) := by
  obtain ⟨l, rfl⟩ := h
  exact ⟨f l, by cases n <;> rfl⟩

theorem Own.onSet {x : Axis} {f : SetSt → SetSt} (h : Own n s0 s) : Own n s0 (s.onSet n x f) := h.onLane
theorem Own.onLink {m : Lane} {f : LinkIn → LinkIn} (h : Own n s0 s) : Own n s0 (s.onLink m n f) := h.onLane
theorem Own.onNet {f : NetSt → NetSt} (h : Own n s0 s) : Own n s0 (s.onNet n f) := h.onLane
theorem Own.onChan {k : Chan} {f : ChanSt → ChanSt} (h : Own n s0 s) : Own n s0 (s.onChan n k f) := h.onNet
theorem Own.onSup {f : SupplySt → SupplySt} (h : Own n s0 s) : Own n s0 (s.onSup n f) := h.onLane
theorem Own.onCtr {f : CtrSt → CtrSt} (h : Own n s0 s) : Own n s0 (s.onCtr n f) := h.onLane
theorem Own.onProf {f : ProfSt → ProfSt} (h : Own n s0 s) : Own n s0 (s.onProf n f) := h.onLane
theorem Own.onVote {f : VoteSt → VoteSt} (h : Own n s0 s) : Own n s0 (s.onVote n f) := h.onLane
theorem Own.onSec {f : SecSt → SecSt} (h : Own n s0 s) : Own n s0 (s.onSec n f) := h.onLane
theorem Own.onRst {f : ResetSt → ResetSt} (h : Own n s0 s) : Own n s0 (s.onRst n f) := h.onLane
theorem Own.log {k : Half} {ad : Word} {ctx : Dword} (h : Own n s0 s) : Own n s0 (s.log n k ad ctx) := h.onLane

theorem Own.ite {p : Prop} [Decidable p] {x y : State} (hx : p → Own n s0 x) (hy : ¬p → Own n s0 y) :
    Own n s0 (if p then x else y) := by
  split
  · exact hx ‹_›
  · exact hy ‹_›

theorem Own.foldl {α : Type} {l : List α} {f : State → α → State} (h : Own n s0 s)
    (hf : ∀ s x, Own n s0 s → Own n s0 (f s x)) : Own n s0 (l.foldl f s) := by
  induction l generalizing s with
  | nil => exact h
  | cons x r ih => exact ih (hf s x h)

/-! ### The operations -/

theorem State.cast_own {k : Lane} {reason : BitVec 4} (h : Own n s0 s) : Own n s0 (State.cast s n k reason) := by
  unfold State.cast
  repeat' first
    | with_reducible assumption | with_reducible apply Own.ite | with_reducible apply Own.onVote | extract_lets | intro _

theorem State.setRole_own {r : Role} {leader : Option Lane} (h : Own n s0 s) : Own n s0 (State.setRole s n r leader) := by
  unfold State.setRole
  repeat' first
    | with_reducible assumption | with_reducible apply Own.ite | with_reducible apply Own.onLane | with_reducible apply Own.log
    | extract_lets | intro _

theorem State.adopt_own {e : Half} (h : Own n s0 s) : Own n s0 (State.adopt s n e) := by
  unfold State.adopt
  repeat' first
    | with_reducible assumption | with_reducible apply Own.onLane

theorem State.reform_own  (h : Own n s0 s) : Own n s0 (State.reform s n) := by
  unfold State.reform
  repeat' first
    | with_reducible assumption | with_reducible apply Own.onLane

theorem State.agreeSent_own {p : SentPort} {step : Bool} (h : Own n s0 s) : Own n s0 (State.agreeSent s n p step) := by
  unfold State.agreeSent
  repeat' first
    | with_reducible assumption | with_reducible apply Own.ite | with_reducible apply Own.onLane | with_reducible apply Own.log
    | extract_lets | intro _

theorem State.armSlot_own {k : BitVec 2} (h : Own n s0 s) : Own n s0 (State.armSlot s n k) := by
  unfold State.armSlot
  repeat' first
    | with_reducible assumption | with_reducible apply Own.ite | with_reducible apply Own.onLane | with_reducible apply Own.log
    | extract_lets | intro _

theorem State.reslot_own  (h : Own n s0 s) : Own n s0 (State.reslot s n) := by
  unfold State.reslot
  repeat' first
    | with_reducible assumption | with_reducible apply Own.ite | with_reducible apply State.armSlot_own | with_reducible apply Own.onLane
    | with_reducible apply Own.foldl | extract_lets | (intro _ _ _; beta_reduce) | intro _

theorem State.clearCause_own {k : Nat} (h : Own n s0 s) : Own n s0 (State.clearCause s n k) := by
  unfold State.clearCause
  repeat' first
    | with_reducible assumption | with_reducible apply Own.ite | with_reducible apply Own.onLane | with_reducible apply Own.onRst
    | extract_lets | intro _

theorem State.readyCore_own  (h : Own n s0 s) : Own n s0 (State.readyCore s n) := by
  unfold State.readyCore
  repeat' first
    | with_reducible assumption | with_reducible apply Own.onRst

theorem State.receive_own {c : Chan} {f : HFrame} (h : Own n s0 s) : Own n s0 (State.receive s n c f).1 := by
  unfold State.receive
  repeat' first
    | with_reducible assumption | with_reducible apply Own.ite | with_reducible apply Own.onChan | with_reducible apply Own.log
    | extract_lets | intro _ | split | dsimp +zetaDelta only

theorem State.takeCommand_own {f : HFrame} (h : Own n s0 s) : Own n s0 (State.takeCommand s n f).1 := by
  unfold State.takeCommand
  repeat' first
    | with_reducible assumption | with_reducible apply Own.ite | with_reducible apply Own.onNet | with_reducible apply Own.onCtr
    | with_reducible apply Own.log | extract_lets | intro _ | split

theorem State.offerRelay_own {c : Chan} {f : HFrame} (h : Own n s0 s) : Own n s0 (State.offerRelay s n c f) := by
  unfold State.offerRelay
  repeat' first
    | with_reducible assumption | with_reducible apply Own.ite | with_reducible apply Own.onLink | with_reducible apply Own.foldl
    | extract_lets | (intro _ _ _; beta_reduce) | intro _

theorem State.stepTime_own {addr : Word} {d : Int} (h : Own n s0 s) : Own n s0 (State.stepTime s n addr d) := by
  unfold State.stepTime
  repeat' first
    | with_reducible assumption | with_reducible apply Own.onLane | with_reducible apply Own.log

theorem State.onGey_own {f : Gey → Gey} (h : Own n s0 s) : Own n s0 (State.onGey s n f) := by
  unfold State.onGey
  repeat' first
    | with_reducible assumption | with_reducible apply Own.onLane

theorem State.askGeyser_own {f : Gey → Gey} (h : Own n s0 s) : Own n s0 (State.askGeyser s n f) := by
  unfold State.askGeyser
  repeat' first
    | with_reducible assumption | with_reducible apply Own.ite | with_reducible apply State.onGey_own | with_reducible apply Own.log
    | extract_lets | intro _

theorem State.follow_own {src : Lane} (h : Own n s0 s) : Own n s0 (State.follow s src n) := by
  unfold State.follow
  repeat' first
    | with_reducible assumption | with_reducible apply Own.ite | with_reducible apply State.setRole_own
    | with_reducible apply State.adopt_own | with_reducible apply Own.onLane | extract_lets | intro _

theorem State.detectPolarity_own {x : Axis} {ps : List PulsePair} (h : Own n s0 s) : Own n s0 (State.detectPolarity s n x ps) := by
  unfold State.detectPolarity
  repeat' first
    | with_reducible assumption | with_reducible apply Own.ite | with_reducible apply Own.onSet | with_reducible apply Own.log
    | extract_lets | intro _ | split

theorem State.fieldUpdate_own {x : Axis} {m : CurrentSample} (h : Own n s0 s) : Own n s0 (State.fieldUpdate s n x m) := by
  unfold State.fieldUpdate
  repeat' first
    | with_reducible assumption | with_reducible apply Own.ite | with_reducible apply Own.onSet | extract_lets | intro _

theorem State.dropItem_own {src : Lane} {type : Byte} (h : Own n s0 s) : Own n s0 (State.dropItem s src n type) := by
  unfold State.dropItem
  repeat' first
    | with_reducible assumption | with_reducible apply Own.onLink

theorem State.supplyBack_own {mv : Nat} (h : Own n s0 s) : Own n s0 (State.supplyBack s n mv) := by
  unfold State.supplyBack
  repeat' first
    | with_reducible assumption | with_reducible apply Own.ite | with_reducible apply State.clearCause_own
    | with_reducible apply State.readyCore_own | extract_lets | intro _

theorem State.onTerm_own {m : Lane} {x : Axis} {f : SetTerm → SetTerm} (h : Own n s0 s) : Own n s0 (State.onTerm s n m x f) := by
  unfold State.onTerm
  repeat' first
    | with_reducible assumption | with_reducible apply Own.onLane

theorem State.makeDeputy_own {lead : Lane} (h : Own n s0 s) : Own n s0 (State.makeDeputy s n lead) := by
  unfold State.makeDeputy
  repeat' first
    | with_reducible assumption | with_reducible apply State.setRole_own | with_reducible apply State.dropItem_own
    | with_reducible apply Own.onProf

/-! ### The commands -/

/-- An outcome in which only lane n differs. -/
def OutOwn (n : Lane) (s : State) (o : Host.Outcome State Fault Refusal) : Prop := ∃ t, o = .next t ∧ Own n s t

theorem OutOwn.done (h : Own n s0 s) : OutOwn n s0 (done s) := ⟨s, rfl, h⟩

theorem OutOwn.ite {p : Prop} [Decidable p] {x y : Host.Outcome State Fault Refusal} (hx : p → OutOwn n s0 x) (hy : ¬p → OutOwn n s0 y) :
    OutOwn n s0 (if p then x else y) := by
  split
  · exact hx ‹_›
  · exact hy ‹_›

theorem execPrechargeComplete_own {t : Nat} {vsup : Nat} {mv : Nat} : OutOwn n (s.at_ t) (execPrechargeComplete t n vsup mv s) := by
  have h : Own n (s.at_ t) (s.at_ t) := .refl ..
  unfold execPrechargeComplete
  generalize s.at_ t = s at *
  repeat' first
    | with_reducible assumption | with_reducible apply State.clearCause_own | with_reducible apply State.readyCore_own
    | with_reducible apply State.supplyBack_own | with_reducible apply Own.onSup | with_reducible apply OutOwn.done
    | with_reducible apply OutOwn.ite | extract_lets | intro _

theorem execPrechargeRetry_own {t : Nat} : OutOwn n (s.at_ t) (execPrechargeRetry t n s) := by
  have h : Own n (s.at_ t) (s.at_ t) := .refl ..
  unfold execPrechargeRetry
  generalize s.at_ t = s at *
  repeat' first
    | with_reducible assumption | with_reducible apply Own.onSup | with_reducible apply OutOwn.done | with_reducible apply OutOwn.ite
    | extract_lets | intro _

theorem execDisconnectBlock_own {t : Nat} {vsup : Nat} {mv : Nat} : OutOwn n (s.at_ t) (execDisconnectBlock t n vsup mv s) := by
  have h : Own n (s.at_ t) (s.at_ t) := .refl ..
  unfold execDisconnectBlock
  generalize s.at_ t = s at *
  repeat' first
    | with_reducible assumption | with_reducible apply Own.onSup | with_reducible apply OutOwn.done | with_reducible apply OutOwn.ite
    | extract_lets | intro _

theorem execDisconnectConductForward_own {t : Nat} {vsup : Nat} {mv : Nat} : OutOwn n (s.at_ t) (execDisconnectConductForward t n vsup mv s) := by
  have h : Own n (s.at_ t) (s.at_ t) := .refl ..
  unfold execDisconnectConductForward
  generalize s.at_ t = s at *
  repeat' first
    | with_reducible assumption | with_reducible apply Own.onLane | with_reducible apply Own.onSup | with_reducible apply OutOwn.done
    | with_reducible apply OutOwn.ite | extract_lets | intro _

theorem execBleederOff_own {t : Nat} {mv : Nat} : OutOwn n (s.at_ t) (execBleederOff t n mv s) := by
  have h : Own n (s.at_ t) (s.at_ t) := .refl ..
  unfold execBleederOff
  generalize s.at_ t = s at *
  repeat' first
    | with_reducible assumption | with_reducible apply Own.onSup | with_reducible apply OutOwn.done | with_reducible apply OutOwn.ite
    | extract_lets | intro _

theorem execClockQualified_own {t : Nat} {d : Fin 13} {taps : List Nat} {count : Nat} : OutOwn n (s.at_ t) (execClockQualified t n d taps count s) := by
  have h : Own n (s.at_ t) (s.at_ t) := .refl ..
  unfold execClockQualified
  generalize s.at_ t = s at *
  repeat' first
    | with_reducible assumption | with_reducible apply Own.ite | with_reducible apply State.clearCause_own
    | with_reducible apply State.readyCore_own | with_reducible apply Own.onRst | with_reducible apply OutOwn.done
    | with_reducible apply OutOwn.ite | extract_lets | intro _

theorem execClockQualRetry_own {t : Nat} : OutOwn n (s.at_ t) (execClockQualRetry t n s) := by
  have h : Own n (s.at_ t) (s.at_ t) := .refl ..
  unfold execClockQualRetry
  generalize s.at_ t = s at *
  repeat' first
    | with_reducible assumption | with_reducible apply Own.onRst | with_reducible apply OutOwn.done | with_reducible apply OutOwn.ite
    | extract_lets | intro _

theorem execRstHandshakeSample_own {t : Nat} {low : Bool} : OutOwn n (s.at_ t) (execRstHandshakeSample t n low s) := by
  have h : Own n (s.at_ t) (s.at_ t) := .refl ..
  unfold execRstHandshakeSample
  generalize s.at_ t = s at *
  repeat' first
    | with_reducible assumption | with_reducible apply Own.onRst | with_reducible apply OutOwn.done | with_reducible apply OutOwn.ite
    | extract_lets | intro _

theorem execPiecewiseSnapshotExpiry_own {t : Nat} {session : Half} : OutOwn n (s.at_ t) (execPiecewiseSnapshotExpiry t n session s) := by
  have h : Own n (s.at_ t) (s.at_ t) := .refl ..
  unfold execPiecewiseSnapshotExpiry
  generalize s.at_ t = s at *
  repeat' first
    | with_reducible assumption | with_reducible apply Own.onSec | with_reducible apply OutOwn.done

theorem execCommandFrame_own {t : Nat} {c : Chan} {f : HFrame} : OutOwn n (s.at_ t) (execCommandFrame t n c f s) := by
  have h : Own n (s.at_ t) (s.at_ t) := .refl ..
  unfold execCommandFrame
  generalize s.at_ t = s at *
  repeat' first
    | with_reducible assumption | with_reducible apply Own.ite | with_reducible apply State.receive_own
    | with_reducible apply State.takeCommand_own | with_reducible apply State.offerRelay_own | with_reducible apply OutOwn.done
    | with_reducible apply OutOwn.ite | extract_lets | intro _ | split

theorem execNullFrame_own {t : Nat} {c : Chan} {f : HFrame} : OutOwn n (s.at_ t) (execNullFrame t n c f s) := by
  have h : Own n (s.at_ t) (s.at_ t) := .refl ..
  unfold execNullFrame
  generalize s.at_ t = s at *
  repeat' first
    | with_reducible assumption | with_reducible apply State.receive_own | with_reducible apply OutOwn.done

theorem execReferenceFrame_own {t : Nat} {c : Chan} {f : HFrame} : OutOwn n (s.at_ t) (execReferenceFrame t n c f s) := by
  have h : Own n (s.at_ t) (s.at_ t) := .refl ..
  unfold execReferenceFrame
  generalize s.at_ t = s at *
  repeat' first
    | with_reducible assumption | with_reducible apply State.receive_own | with_reducible apply Own.onLane | with_reducible apply Own.onChan
    | with_reducible apply OutOwn.done | with_reducible apply OutOwn.ite | extract_lets | intro _ | split

theorem execCapsFrame_own {t : Nat} {c : Chan} {f : HFrame} : OutOwn n (s.at_ t) (execCapsFrame t n c f s) := by
  have h : Own n (s.at_ t) (s.at_ t) := .refl ..
  unfold execCapsFrame
  generalize s.at_ t = s at *
  repeat' first
    | with_reducible assumption | with_reducible apply State.receive_own | with_reducible apply Own.onNet | with_reducible apply Own.onChan
    | with_reducible apply Own.log | with_reducible apply OutOwn.done | with_reducible apply OutOwn.ite | extract_lets | intro _ | split

theorem execTimeStep_own {t : Nat} {c : Chan} : OutOwn n (s.at_ t) (execTimeStep t n c s) := by
  have h : Own n (s.at_ t) (s.at_ t) := .refl ..
  unfold execTimeStep
  generalize s.at_ t = s at *
  repeat' first
    | with_reducible assumption | with_reducible apply State.stepTime_own | with_reducible apply Own.onLane
    | with_reducible apply OutOwn.done | with_reducible apply OutOwn.ite | extract_lets | intro _ | split

theorem execJoinTimeout_own {t : Nat} {c : Chan} : OutOwn n (s.at_ t) (execJoinTimeout t n c s) := by
  have h : Own n (s.at_ t) (s.at_ t) := .refl ..
  unfold execJoinTimeout
  generalize s.at_ t = s at *
  repeat' first
    | with_reducible assumption | with_reducible apply Own.onChan | with_reducible apply Own.log | with_reducible apply OutOwn.done
    | with_reducible apply OutOwn.ite | extract_lets | intro _

theorem execChannelLost_own {t : Nat} {c : Chan} : OutOwn n (s.at_ t) (execChannelLost t n c s) := by
  have h : Own n (s.at_ t) (s.at_ t) := .refl ..
  unfold execChannelLost
  generalize s.at_ t = s at *
  repeat' first
    | with_reducible assumption | with_reducible apply Own.onChan | with_reducible apply Own.log | with_reducible apply OutOwn.done
    | with_reducible apply OutOwn.ite | extract_lets | intro _

theorem execAlmanacSwitch_own {t : Nat} : OutOwn n (s.at_ t) (execAlmanacSwitch t n s) := by
  have h : Own n (s.at_ t) (s.at_ t) := .refl ..
  unfold execAlmanacSwitch
  generalize s.at_ t = s at *
  repeat' first
    | with_reducible assumption | with_reducible apply Own.ite | with_reducible apply Own.onLane | with_reducible apply Own.onNet
    | with_reducible apply Own.log | with_reducible apply OutOwn.done | with_reducible apply OutOwn.ite | extract_lets | intro _ | split

theorem execDeputyShadowApply_own {t : Nat} : OutOwn n (s.at_ t) (execDeputyShadowApply t n s) := by
  have h : Own n (s.at_ t) (s.at_ t) := .refl ..
  unfold execDeputyShadowApply
  generalize s.at_ t = s at *
  repeat' first
    | with_reducible assumption | with_reducible apply Own.onProf | with_reducible apply OutOwn.done | extract_lets | split

theorem execEnaTestTimeout_own {t : Nat} : OutOwn n (s.at_ t) (execEnaTestTimeout t n s) := by
  have h : Own n (s.at_ t) (s.at_ t) := .refl ..
  unfold execEnaTestTimeout
  generalize s.at_ t = s at *
  repeat' first
    | with_reducible assumption | with_reducible apply Own.onLane | with_reducible apply Own.log | with_reducible apply OutOwn.done
    | with_reducible apply OutOwn.ite | extract_lets | intro _

theorem execHealthRecordLatch_own {t : Nat} : OutOwn n (s.at_ t) (execHealthRecordLatch t n s) := by
  have h : Own n (s.at_ t) (s.at_ t) := .refl ..
  unfold execHealthRecordLatch
  generalize s.at_ t = s at *
  repeat' first
    | with_reducible assumption | with_reducible apply Own.onLane | with_reducible apply Own.onCtr | with_reducible apply OutOwn.done
    | with_reducible apply OutOwn.ite | extract_lets | intro _

theorem execLifetimeCounterWrite_own {t : Nat} : OutOwn n (s.at_ t) (execLifetimeCounterWrite t n s) := by
  have h : Own n (s.at_ t) (s.at_ t) := .refl ..
  unfold execLifetimeCounterWrite
  generalize s.at_ t = s at *
  repeat' first
    | with_reducible assumption | with_reducible apply Own.onCtr | with_reducible apply OutOwn.done | with_reducible apply OutOwn.ite
    | extract_lets | intro _

theorem execThermalCycleSample_own {t : Nat} : OutOwn n (s.at_ t) (execThermalCycleSample t n s) := by
  have h : Own n (s.at_ t) (s.at_ t) := .refl ..
  unfold execThermalCycleSample
  generalize s.at_ t = s at *
  repeat' first
    | with_reducible assumption | with_reducible apply Own.onLane | with_reducible apply OutOwn.done

theorem execSentFrame_own {t : Nat} {p : SentPort} {f : SentRaw} : OutOwn n (s.at_ t) (execSentFrame t n p f s) := by
  have h : Own n (s.at_ t) (s.at_ t) := .refl ..
  unfold execSentFrame
  generalize s.at_ t = s at *
  repeat' first
    | with_reducible assumption | with_reducible apply Own.ite | with_reducible apply State.agreeSent_own
    | with_reducible apply State.reslot_own | with_reducible apply Own.onLane | with_reducible apply Own.log
    | with_reducible apply OutOwn.done | with_reducible apply OutOwn.ite | extract_lets | intro _

theorem execSentTimeout_own {t : Nat} {p : SentPort} : OutOwn n (s.at_ t) (execSentTimeout t n p s) := by
  have h : Own n (s.at_ t) (s.at_ t) := .refl ..
  unfold execSentTimeout
  generalize s.at_ t = s at *
  repeat' first
    | with_reducible assumption | with_reducible apply State.reslot_own | with_reducible apply Own.onLane | with_reducible apply Own.log
    | with_reducible apply OutOwn.done | with_reducible apply OutOwn.ite | extract_lets | intro _

theorem execSvccFault_own {t : Nat} {mv : Nat} {held : Nat} : OutOwn n (s.at_ t) (execSvccFault t n mv held s) := by
  have h : Own n (s.at_ t) (s.at_ t) := .refl ..
  unfold execSvccFault
  generalize s.at_ t = s at *
  repeat' first
    | with_reducible assumption | with_reducible apply State.reslot_own | with_reducible apply Own.onLane | with_reducible apply Own.onSup
    | with_reducible apply Own.log | with_reducible apply OutOwn.done | with_reducible apply OutOwn.ite | extract_lets | intro _

theorem execSvccRetry_own {t : Nat} : OutOwn n (s.at_ t) (execSvccRetry t n s) := by
  have h : Own n (s.at_ t) (s.at_ t) := .refl ..
  unfold execSvccRetry
  generalize s.at_ t = s at *
  repeat' first
    | with_reducible assumption | with_reducible apply Own.onSup | with_reducible apply OutOwn.done | with_reducible apply OutOwn.ite
    | extract_lets | intro _

theorem execQuadEdge_own {t : Nat} {v : QuadLevels} {stable : Nat} : OutOwn n (s.at_ t) (execQuadEdge t n v stable s) := by
  have h : Own n (s.at_ t) (s.at_ t) := .refl ..
  unfold execQuadEdge
  generalize s.at_ t = s at *
  repeat' first
    | with_reducible assumption | with_reducible apply Own.onLane | with_reducible apply OutOwn.done | with_reducible apply OutOwn.ite
    | extract_lets | intro _

theorem execQuadRecover_own {t : Nat} : OutOwn n (s.at_ t) (execQuadRecover t n s) := by
  have h : Own n (s.at_ t) (s.at_ t) := .refl ..
  unfold execQuadRecover
  generalize s.at_ t = s at *
  repeat' first
    | with_reducible assumption | with_reducible apply State.reslot_own | with_reducible apply Own.onLane | with_reducible apply OutOwn.done
    | with_reducible apply OutOwn.ite | extract_lets | intro _ | split

theorem execSwitchChange_own {t : Nat} {k : SwPort} {high : Bool} {held : Nat} : OutOwn n (s.at_ t) (execSwitchChange t n k high held s) := by
  have h : Own n (s.at_ t) (s.at_ t) := .refl ..
  unfold execSwitchChange
  generalize s.at_ t = s at *
  repeat' first
    | with_reducible assumption | with_reducible apply Own.onLane | with_reducible apply OutOwn.done | with_reducible apply OutOwn.ite
    | extract_lets | intro _

theorem execChatter_own {t : Nat} {k : SwPort} {ats : List Nat} : OutOwn n (s.at_ t) (execChatter t n k ats s) := by
  have h : Own n (s.at_ t) (s.at_ t) := .refl ..
  unfold execChatter
  generalize s.at_ t = s at *
  repeat' first
    | with_reducible assumption | with_reducible apply Own.onLane | with_reducible apply Own.log | with_reducible apply OutOwn.done
    | with_reducible apply OutOwn.ite | extract_lets | intro _

theorem execChatterEnd_own {t : Nat} {k : SwPort} {high : Bool} {held : Nat} : OutOwn n (s.at_ t) (execChatterEnd t n k high held s) := by
  have h : Own n (s.at_ t) (s.at_ t) := .refl ..
  unfold execChatterEnd
  generalize s.at_ t = s at *
  repeat' first
    | with_reducible assumption | with_reducible apply Own.onLane | with_reducible apply OutOwn.done | with_reducible apply OutOwn.ite
    | extract_lets | intro _

theorem execStuck_own {t : Nat} {k : SwPort} : OutOwn n (s.at_ t) (execStuck t n k s) := by
  have h : Own n (s.at_ t) (s.at_ t) := .refl ..
  unfold execStuck
  generalize s.at_ t = s at *
  repeat' first
    | with_reducible assumption | with_reducible apply Own.onLane | with_reducible apply Own.log | with_reducible apply OutOwn.done
    | with_reducible apply OutOwn.ite | extract_lets | intro _

theorem execCompareFire_own {t : Nat} {k : BitVec 2} {stamp : Dword} {v : Int} : OutOwn n (s.at_ t) (execCompareFire t n k stamp v s) := by
  have h : Own n (s.at_ t) (s.at_ t) := .refl ..
  unfold execCompareFire
  generalize s.at_ t = s at *
  repeat' first
    | with_reducible assumption | with_reducible apply Own.onLane | with_reducible apply OutOwn.done | with_reducible apply OutOwn.ite
    | extract_lets | intro _

theorem execSupplyOvClose_own {t : Nat} {mv : Nat} {held : Nat} : OutOwn n (s.at_ t) (execSupplyOvClose t n mv held s) := by
  have h : Own n (s.at_ t) (s.at_ t) := .refl ..
  unfold execSupplyOvClose
  generalize s.at_ t = s at *
  repeat' first
    | with_reducible assumption | with_reducible apply Own.onSup | with_reducible apply OutOwn.done | with_reducible apply OutOwn.ite
    | extract_lets | intro _

theorem execInputDisconnectOpen_own {t : Nat} {mv : Nat} : OutOwn n (s.at_ t) (execInputDisconnectOpen t n mv s) := by
  have h : Own n (s.at_ t) (s.at_ t) := .refl ..
  unfold execInputDisconnectOpen
  generalize s.at_ t = s at *
  repeat' first
    | with_reducible assumption | with_reducible apply Own.onSup | with_reducible apply OutOwn.done | with_reducible apply OutOwn.ite
    | extract_lets | intro _

theorem execInputDisconnectClose_own {t : Nat} {vsup : Nat} {mv : Nat} {held : Nat} : OutOwn n (s.at_ t) (execInputDisconnectClose t n vsup mv held s) := by
  have h : Own n (s.at_ t) (s.at_ t) := .refl ..
  unfold execInputDisconnectClose
  generalize s.at_ t = s at *
  repeat' first
    | with_reducible assumption | with_reducible apply Own.onSup | with_reducible apply OutOwn.done | with_reducible apply OutOwn.ite
    | extract_lets | intro _

theorem execFirmwareGeyser_own {t : Nat} {mv : Nat} : OutOwn n (s.at_ t) (execFirmwareGeyser t n mv s) := by
  have h : Own n (s.at_ t) (s.at_ t) := .refl ..
  unfold execFirmwareGeyser
  generalize s.at_ t = s at *
  repeat' first
    | with_reducible assumption | with_reducible apply State.askGeyser_own | with_reducible apply Own.onSup
    | with_reducible apply OutOwn.done | with_reducible apply OutOwn.ite | extract_lets | intro _

theorem execHardwareGeyser_own {t : Nat} {mv : Nat} : OutOwn n (s.at_ t) (execHardwareGeyser t n mv s) := by
  have h : Own n (s.at_ t) (s.at_ t) := .refl ..
  unfold execHardwareGeyser
  generalize s.at_ t = s at *
  repeat' first
    | with_reducible assumption | with_reducible apply State.askGeyser_own | with_reducible apply Own.onSup
    | with_reducible apply OutOwn.done | with_reducible apply OutOwn.ite | extract_lets | intro _

theorem execTorqueShadow_own {t : Nat} : OutOwn n (s.at_ t) (execTorqueShadow t n s) := by
  have h : Own n (s.at_ t) (s.at_ t) := .refl ..
  unfold execTorqueShadow
  generalize s.at_ t = s at *
  repeat' first
    | with_reducible assumption | with_reducible apply State.cast_own | with_reducible apply State.reform_own
    | with_reducible apply OutOwn.done | with_reducible apply OutOwn.ite | extract_lets | intro _ | split

theorem execProfileReseed_own {t : Nat} : OutOwn n (s.at_ t) (execProfileReseed t n s) := by
  have h : Own n (s.at_ t) (s.at_ t) := .refl ..
  unfold execProfileReseed
  generalize s.at_ t = s at *
  repeat' first
    | with_reducible assumption | with_reducible apply State.dropItem_own | with_reducible apply Own.onLane | with_reducible apply Own.log
    | with_reducible apply OutOwn.done | with_reducible apply OutOwn.ite | extract_lets | intro _ | split

theorem execLinkSilence_own {t : Nat} {target : Lane} : OutOwn n (s.at_ t) (execLinkSilence t n target s) := by
  have h : Own n (s.at_ t) (s.at_ t) := .refl ..
  unfold execLinkSilence
  generalize s.at_ t = s at *
  repeat' first
    | with_reducible assumption | with_reducible apply State.cast_own | with_reducible apply OutOwn.done | with_reducible apply OutOwn.ite
    | extract_lets | intro _

theorem execEpochClaim_own {t : Nat} {target : Lane} : OutOwn n (s.at_ t) (execEpochClaim t n target s) := by
  have h : Own n (s.at_ t) (s.at_ t) := .refl ..
  unfold execEpochClaim
  generalize s.at_ t = s at *
  repeat' first
    | with_reducible assumption | with_reducible apply Own.ite | with_reducible apply State.cast_own | with_reducible apply State.follow_own
    | with_reducible apply OutOwn.done | with_reducible apply OutOwn.ite | extract_lets | intro _

theorem execDisputeTimeout_own {t : Nat} {target : Lane} : OutOwn n (s.at_ t) (execDisputeTimeout t n target s) := by
  have h : Own n (s.at_ t) (s.at_ t) := .refl ..
  unfold execDisputeTimeout
  generalize s.at_ t = s at *
  repeat' first
    | with_reducible assumption | with_reducible apply Own.onVote | with_reducible apply Own.log | with_reducible apply OutOwn.done
    | with_reducible apply OutOwn.ite | extract_lets | intro _ | split

theorem execObsInjFault_own {t : Nat} {x : Axis} : OutOwn n (s.at_ t) (execObsInjFault t n x s) := by
  have h : Own n (s.at_ t) (s.at_ t) := .refl ..
  unfold execObsInjFault
  generalize s.at_ t = s at *
  repeat' first
    | with_reducible assumption | with_reducible apply Own.onSet | with_reducible apply Own.log | with_reducible apply OutOwn.done
    | with_reducible apply OutOwn.ite | extract_lets | intro _

theorem execObsPsiMismatch_own {t : Nat} {x : Axis} : OutOwn n (s.at_ t) (execObsPsiMismatch t n x s) := by
  have h : Own n (s.at_ t) (s.at_ t) := .refl ..
  unfold execObsPsiMismatch
  generalize s.at_ t = s at *
  repeat' first
    | with_reducible assumption | with_reducible apply Own.onSet | with_reducible apply Own.log | with_reducible apply OutOwn.done
    | with_reducible apply OutOwn.ite | extract_lets | intro _

theorem execPolarityDetection_own {t : Nat} {ms : List PulsePair} {mb : List PulsePair} : OutOwn n (s.at_ t) (execPolarityDetection t n ms mb s) := by
  have h : Own n (s.at_ t) (s.at_ t) := .refl ..
  unfold execPolarityDetection
  generalize s.at_ t = s at *
  repeat' first
    | with_reducible assumption | with_reducible apply State.detectPolarity_own | with_reducible apply OutOwn.done
    | with_reducible apply OutOwn.ite | extract_lets | intro _

theorem execCurrentLoopUpdate_own {t : Nat} {x : Axis} {m : CurrentSample} : OutOwn n (s.at_ t) (execCurrentLoopUpdate t n x m s) := by
  have h : Own n (s.at_ t) (s.at_ t) := .refl ..
  unfold execCurrentLoopUpdate
  generalize s.at_ t = s at *
  repeat' first
    | with_reducible assumption | with_reducible apply State.fieldUpdate_own | with_reducible apply Own.onSet
    | with_reducible apply OutOwn.done | with_reducible apply OutOwn.ite | extract_lets | intro _

theorem execWindowLimited_own {t : Nat} {x : Axis} : OutOwn n (s.at_ t) (execWindowLimited t n x s) := by
  have h : Own n (s.at_ t) (s.at_ t) := .refl ..
  unfold execWindowLimited
  generalize s.at_ t = s at *
  repeat' first
    | with_reducible assumption | with_reducible apply Own.onSet | with_reducible apply OutOwn.done | with_reducible apply OutOwn.ite
    | extract_lets | intro _

theorem execWindowLimitedClear_own {t : Nat} {x : Axis} : OutOwn n (s.at_ t) (execWindowLimitedClear t n x s) := by
  have h : Own n (s.at_ t) (s.at_ t) := .refl ..
  unfold execWindowLimitedClear
  generalize s.at_ t = s at *
  repeat' first
    | with_reducible assumption | with_reducible apply Own.onSet | with_reducible apply OutOwn.done | with_reducible apply OutOwn.ite
    | extract_lets | intro _

theorem execCarrierUnlock_own {t : Nat} : OutOwn n (s.at_ t) (execCarrierUnlock t n s) := by
  have h : Own n (s.at_ t) (s.at_ t) := .refl ..
  unfold execCarrierUnlock
  generalize s.at_ t = s at *
  repeat' first
    | with_reducible assumption | with_reducible apply Own.onCtr | with_reducible apply OutOwn.done

theorem execI2tLimit_own {t : Nat} {x : SetRef} : OutOwn n (s.at_ t) (execI2tLimit t n x s) := by
  have h : Own n (s.at_ t) (s.at_ t) := .refl ..
  unfold execI2tLimit
  generalize s.at_ t = s at *
  repeat' first
    | with_reducible assumption | with_reducible apply State.onTerm_own | with_reducible apply OutOwn.done | with_reducible apply OutOwn.ite
    | extract_lets | intro _

theorem execI2tRecover_own {t : Nat} {x : SetRef} : OutOwn n (s.at_ t) (execI2tRecover t n x s) := by
  have h : Own n (s.at_ t) (s.at_ t) := .refl ..
  unfold execI2tRecover
  generalize s.at_ t = s at *
  repeat' first
    | with_reducible assumption | with_reducible apply State.onTerm_own | with_reducible apply OutOwn.done | with_reducible apply OutOwn.ite
    | extract_lets | intro _

theorem execDeputyAssign_own {t : Nat} : OutOwn n (s.at_ t) (execDeputyAssign t n s) := by
  have h : Own n (s.at_ t) (s.at_ t) := .refl ..
  unfold execDeputyAssign
  generalize s.at_ t = s at *
  repeat' first
    | with_reducible assumption | with_reducible apply State.makeDeputy_own | with_reducible apply OutOwn.done
    | with_reducible apply OutOwn.ite | extract_lets | intro _ | split

theorem execShadowSnapshotDone_own {t : Nat} : OutOwn n (s.at_ t) (execShadowSnapshotDone t n s) := by
  have h : Own n (s.at_ t) (s.at_ t) := .refl ..
  unfold execShadowSnapshotDone
  generalize s.at_ t = s at *
  repeat' first
    | with_reducible assumption | with_reducible apply State.dropItem_own | with_reducible apply Own.onProf
    | with_reducible apply OutOwn.done | with_reducible apply OutOwn.ite | extract_lets | intro _ | split

theorem execRejoinConverged_own {t : Nat} : OutOwn n (s.at_ t) (execRejoinConverged t n s) := by
  have h : Own n (s.at_ t) (s.at_ t) := .refl ..
  unfold execRejoinConverged
  generalize s.at_ t = s at *
  repeat' first
    | with_reducible assumption | with_reducible apply Own.onLane | with_reducible apply OutOwn.done | with_reducible apply OutOwn.ite
    | extract_lets | intro _

theorem execBootstrapRefresh_own {t : Nat} {x : Axis} {p : Phase} {mv : Nat} : OutOwn n (s.at_ t) (execBootstrapRefresh t n x p mv s) := by
  have h : Own n (s.at_ t) (s.at_ t) := .refl ..
  unfold execBootstrapRefresh
  generalize s.at_ t = s at *
  repeat' first
    | with_reducible assumption | with_reducible apply Own.onSet | with_reducible apply OutOwn.done | with_reducible apply OutOwn.ite
    | extract_lets | intro _

theorem execGateServoSaturation_own {t : Nat} {x : Axis} {p : Phase} : OutOwn n (s.at_ t) (execGateServoSaturation t n x p s) := by
  have h : Own n (s.at_ t) (s.at_ t) := .refl ..
  unfold execGateServoSaturation
  generalize s.at_ t = s at *
  repeat' first
    | with_reducible assumption | with_reducible apply Own.onSet | with_reducible apply OutOwn.done

end Sys2Proof.Machine
end

