-- ==== Sys2Proof/Laws/PerInstr.lean ====
section
/-! SUPPORT. One family of facts per command as syntax: what a request is, and which commands have a lane of their own. -/

namespace Sys2Proof.Laws.Instant
open Sys2Proof Sys2Proof.Machine

/-- A well-formed command that carries a request carries a well-formed one, takes place at that request's instant, and stands for an
operation of the protocol whose request has that instant; a command of one lane alone is no request. -/
def Statement (i : Instr) : Prop :=
  (i.wf = true → ∀ r, i.request? = some r → r.wf = true ∧ i.instant = r.at_ ∧ ∃ q, i.asRequest = some q ∧ q.2.1.at_ = r.at_) ∧
  (∀ n, i.ownLane = some n → i.request? = none)

/-- A request meets the statement. -/
theorem of_request {i : Instr} {r : Req} {q : Half × Req × Handler × PeerPart} (h : i.request? = some r) (hw : i.wf = true → r.wf = true)
    (hi : i.instant = r.at_) (hq : i.asRequest = some q) (ha : q.2.1.at_ = r.at_) (ho : i.ownLane = none) : Statement i := by
  refine ⟨fun w x hx => ?_, fun n hn => ?_⟩
  · rw [h] at hx; cases hx
    exact ⟨hw w, hi, q, hq, ha⟩
  · rw [ho] at hn; cases hn

/-- An event meets the statement. -/
theorem of_event {i : Instr} (h : i.request? = none) : Statement i :=
  ⟨fun _ r hr => (by rw [h] at hr; cases hr), fun _ _ => h⟩

theorem modeRequestReady (r : Req) : Statement (.modeRequestReady r) := of_request rfl id rfl rfl rfl rfl
theorem modeRequestRun (r : Req) : Statement (.modeRequestRun r) := of_request rfl id rfl rfl rfl rfl
theorem modeRequestService (r : Req) : Statement (.modeRequestService r) := of_request rfl id rfl rfl rfl rfl
theorem modeRequestDormant (r : Req) : Statement (.modeRequestDormant r) := of_request rfl id rfl rfl rfl rfl
theorem modeStatus (r : Req) : Statement (.modeStatus r) := of_request rfl id rfl rfl rfl rfl
theorem enableTestStatus (r : Req) : Statement (.enableTestStatus r) := of_request rfl id rfl rfl rfl rfl
theorem steerAngle (r : Req) : Statement (.steerAngle r) := of_request rfl id rfl rfl rfl rfl
theorem steerTorque (r : Req) : Statement (.steerTorque r) := of_request rfl id rfl rfl rfl rfl
theorem steerMoveAt (r : Req) : Statement (.steerMoveAt r) := of_request rfl id rfl rfl rfl rfl
theorem steerHold (r : Req) : Statement (.steerHold r) := of_request rfl id rfl rfl rfl rfl
theorem brakeForce (r : Req) : Statement (.brakeForce r) := of_request rfl id rfl rfl rfl rfl
theorem brakePosition (r : Req) : Statement (.brakePosition r) := of_request rfl id rfl rfl rfl rfl
theorem brakeRelease (r : Req) : Statement (.brakeRelease r) := of_request rfl id rfl rfl rfl rfl
theorem brakeParkApply (r : Req) : Statement (.brakeParkApply r) := of_request rfl id rfl rfl rfl rfl
theorem brakeParkRelease (r : Req) : Statement (.brakeParkRelease r) := of_request rfl id rfl rfl rfl rfl
theorem profileLimits (r : Req) : Statement (.profileLimits r) := of_request rfl id rfl rfl rfl rfl
theorem vectorMove (r : Req) : Statement (.vectorMove r) := of_request rfl id rfl rfl rfl rfl
theorem paramReadKey (r : Req) : Statement (.paramReadKey r) := of_request rfl id rfl rfl rfl rfl
theorem paramReadMemory (r : Req) : Statement (.paramReadMemory r) := of_request rfl id rfl rfl rfl rfl
theorem paramWrite (r : Req) : Statement (.paramWrite r) := of_request rfl id rfl rfl rfl rfl
theorem paramCommit (r : Req) : Statement (.paramCommit r) := of_request rfl id rfl rfl rfl rfl
theorem paramCommitDone (t : Nat) : Statement (.paramCommitDone t) := of_event rfl
theorem paramImageInfo (r : Req) : Statement (.paramImageInfo r) := of_request rfl id rfl rfl rfl rfl
theorem measureLoadStart (r : Req) : Statement (.measureLoadStart r) := of_request rfl id rfl rfl rfl rfl
theorem measureLoadRead (r : Req) : Statement (.measureLoadRead r) := of_request rfl id rfl rfl rfl rfl
theorem measureLoadComplete (t : Nat) (n : Lane) (x : Axis) (m : LoadSample) : Statement (.measureLoadComplete t n x m) := of_event rfl
theorem measureCableStart (r : Req) : Statement (.measureCableStart r) := of_request rfl id rfl rfl rfl rfl
theorem measureCableRead (r : Req) : Statement (.measureCableRead r) := of_request rfl id rfl rfl rfl rfl
theorem measureCableComplete (t : Nat) (n : Lane) (refl : Int) (delay : Nat) : Statement (.measureCableComplete t n refl delay) := of_event rfl
theorem measureSupply (r : Req) : Statement (.measureSupply r) := of_request rfl id rfl rfl rfl rfl
theorem capsExchange (r : Req) : Statement (.capsExchange r) := of_request rfl id rfl rfl rfl rfl
theorem selftestRun (r : Req) : Statement (.selftestRun r) := of_request rfl id rfl rfl rfl rfl
theorem selftestComplete (t : Nat) (n : Lane) (done : Byte) (bad : Byte) (badBits : Dword) : Statement (.selftestComplete t n done bad badBits) := of_event rfl
theorem selftestResult (r : Req) : Statement (.selftestResult r) := of_request rfl id rfl rfl rfl rfl
theorem healthRead (r : Req) : Statement (.healthRead r) := of_request rfl id rfl rfl rfl rfl
theorem attestChallenge (r : Req) : Statement (.attestChallenge r) := of_request rfl id rfl rfl rfl rfl
theorem sessionOpen (r : Req) : Statement (.sessionOpen r) := of_request rfl id rfl rfl rfl rfl
theorem sessionClose (r : Req) : Statement (.sessionClose r) := of_request rfl id rfl rfl rfl rfl
theorem keyProvision (r : Req) : Statement (.keyProvision r) := of_request rfl id rfl rfl rfl rfl
theorem fwBegin (r : Req) : Statement (.fwBegin r) := of_request rfl id rfl rfl rfl rfl
theorem fwChunk (r : Req) : Statement (.fwChunk r) := of_request rfl id rfl rfl rfl rfl
theorem fwVerifyStart (r : Req) : Statement (.fwVerifyStart r) := of_request rfl id rfl rfl rfl rfl
theorem fwVerifyRead (r : Req) : Statement (.fwVerifyRead r) := of_request rfl id rfl rfl rfl rfl
theorem fwActivate (r : Req) : Statement (.fwActivate r) := of_request rfl id rfl rfl rfl rfl
theorem timeStatus (r : Req) : Statement (.timeStatus r) := of_request rfl id rfl rfl rfl rfl
theorem scheduleLoad (r : Req) : Statement (.scheduleLoad r) := of_request rfl id rfl rfl rfl rfl
theorem logRead (r : Req) : Statement (.logRead r) := of_request rfl id rfl rfl rfl rfl
theorem logClear (r : Req) : Statement (.logClear r) := of_request rfl id rfl rfl rfl rfl
theorem homingStart (r : Req) : Statement (.homingStart r) := of_request rfl id rfl rfl rfl rfl
theorem homingStartAbort (r : Req) : Statement (.homingStartAbort r) := of_request rfl id rfl rfl rfl rfl
theorem homingStatus (r : Req) : Statement (.homingStatus r) := of_request rfl id rfl rfl rfl rfl
theorem compareSet (r : Req) : Statement (.compareSet r) := of_request rfl id rfl rfl rfl rfl
theorem arbitrate (r : Req) : Statement (.arbitrate r) := of_request rfl id rfl rfl rfl rfl
theorem quench (r : Req) : Statement (.quench r) := of_request rfl id rfl rfl rfl rfl
theorem quenchTimeout (t : Nat) : Statement (.quenchTimeout t) := of_event rfl
theorem calderaClear (r : Req) : Statement (.calderaClear r) := of_request rfl id rfl rfl rfl rfl
theorem commandFrame (t : Nat) (n : Lane) (c : Chan) (f : HFrame) : Statement (.commandFrame t n c f) := of_event rfl
theorem nullFrame (t : Nat) (n : Lane) (c : Chan) (f : HFrame) : Statement (.nullFrame t n c f) := of_event rfl
theorem referenceFrame (t : Nat) (n : Lane) (c : Chan) (f : HFrame) : Statement (.referenceFrame t n c f) := of_event rfl
theorem capsFrame (t : Nat) (n : Lane) (c : Chan) (f : HFrame) : Statement (.capsFrame t n c f) := of_event rfl
theorem hostPortFrame (t : Nat) (id : BitVec 29) (fd : Bool) (data : List Byte) : Statement (.hostPortFrame t id fd data) := of_event rfl
theorem hostPortSegmentTimeout (t : Nat) : Statement (.hostPortSegmentTimeout t) := of_event rfl
theorem crossLaneFrameCommit (t : Nat) (src : Lane) (dst : Lane) (ws : List XWord) : Statement (.crossLaneFrameCommit t src dst ws) := of_event rfl
theorem linkLossOfSignal (t : Nat) (src : Lane) (dst : Lane) : Statement (.linkLossOfSignal t src dst) := of_event rfl
theorem linkDown (t : Nat) (src : Lane) (dst : Lane) : Statement (.linkDown t src dst) := of_event rfl
theorem linkUp (t : Nat) (src : Lane) (dst : Lane) : Statement (.linkUp t src dst) := of_event rfl
theorem twinFrame (t : Nat) (k : TwinLink) (ws : List XWord) : Statement (.twinFrame t k ws) := of_event rfl
theorem twinLinkDown (t : Nat) (k : TwinLink) : Statement (.twinLinkDown t k) := of_event rfl
theorem enableStateItem (t : Nat) (src : Lane) (dst : Lane) (on : Bool) : Statement (.enableStateItem t src dst on) := of_event rfl
theorem inboundFrameItem (t : Nat) (src : Lane) (dst : Lane) (c : Chan) (f : HFrame) : Statement (.inboundFrameItem t src dst c f) := of_event rfl
theorem outboundStatusItem (t : Nat) (src : Lane) (dst : Lane) (epoch : Half) (fresh : Half) (payload : List Byte) : Statement (.outboundStatusItem t src dst epoch fresh payload) := of_event rfl
theorem relayItemDrop (t : Nat) (n : Lane) (outbound : Bool) : Statement (.relayItemDrop t n outbound) := of_event rfl
theorem almanacSegmentItem (t : Nat) (src : Lane) (dst : Lane) (g : Segment) : Statement (.almanacSegmentItem t src dst g) := of_event rfl
theorem scheduleReportItem (t : Nat) (src : Lane) (dst : Lane) (act : Word) (pend : Word) (at_ : Dword) : Statement (.scheduleReportItem t src dst act pend at_) := of_event rfl
theorem timeItem (t : Nat) (src : Lane) (dst : Lane) (synced : Bool) (integ : Bool) (reading : Int) : Statement (.timeItem t src dst synced integ reading) := of_event rfl
theorem sessionItem (t : Nat) (src : Lane) (dst : Lane) (c : SessionChange) : Statement (.sessionItem t src dst c) := of_event rfl
theorem supplyItem (t : Nat) (src : Lane) (dst : Lane) (e : SupplyEntry) : Statement (.supplyItem t src dst e) := of_event rfl
theorem bootReportItem (t : Nat) (src : Lane) (dst : Lane) (e : BootReport) : Statement (.bootReportItem t src dst e) := of_event rfl
theorem firmwareCopyItem (t : Nat) (src : Lane) (dst : Lane) (off : Nat) (len : Nat) (data : List Byte) : Statement (.firmwareCopyItem t src dst off len data) := of_event rfl
theorem keyItem (t : Nat) (src : Lane) (dst : Lane) (e : KeyContent) : Statement (.keyItem t src dst e) := of_event rfl
theorem sentFrame (t : Nat) (n : Lane) (p : SentPort) (f : SentRaw) : Statement (.sentFrame t n p f) := of_event rfl
theorem sentSerialMessage (t : Nat) (n : Lane) (p : SentPort) (id : Byte) (data : Half) (crcOk : Bool) : Statement (.sentSerialMessage t n p id data crcOk) := of_event rfl
theorem sentTimeout (t : Nat) (n : Lane) (p : SentPort) : Statement (.sentTimeout t n p) := of_event rfl
theorem applicationCycle (t : Nat) (n : Lane) : Statement (.applicationCycle t n) := of_event rfl
theorem outerLoopStep (t : Nat) (n : Lane) : Statement (.outerLoopStep t n) := of_event rfl
theorem pwmPeriod (t : Nat) (n : Lane) (m : PeriodSample) : Statement (.pwmPeriod t n m) := of_event rfl
theorem currentLoopUpdate (t : Nat) (n : Lane) (x : Axis) (m : CurrentSample) : Statement (.currentLoopUpdate t n x m) := of_event rfl
theorem auxConversion (t : Nat) (n : Lane) (m : AuxSample) : Statement (.auxConversion t n m) := of_event rfl
theorem statusFrameSend (t : Nat) (n : Lane) : Statement (.statusFrameSend t n) := of_event rfl
theorem capsFrameSend (t : Nat) (n : Lane) (c : Chan) (m : ArbSense) : Statement (.capsFrameSend t n c m) := of_event rfl
theorem offsetCorrection (t : Nat) (n : Lane) : Statement (.offsetCorrection t n) := of_event rfl
theorem rateCorrection (t : Nat) (n : Lane) : Statement (.rateCorrection t n) := of_event rfl
theorem shutterPhaseCheck (t : Nat) (n : Lane) (c : Chan) (k : Nat) (high : Nat) : Statement (.shutterPhaseCheck t n c k high) := of_event rfl
theorem syncHoldover (t : Nat) (n : Lane) : Statement (.syncHoldover t n) := of_event rfl
theorem timeStep (t : Nat) (n : Lane) (c : Chan) : Statement (.timeStep t n c) := of_event rfl
theorem channelIntegrated (t : Nat) (n : Lane) (c : Chan) : Statement (.channelIntegrated t n c) := of_event rfl
theorem joinTimeout (t : Nat) (n : Lane) (c : Chan) : Statement (.joinTimeout t n c) := of_event rfl
theorem peerSkew (t : Nat) (n : Lane) : Statement (.peerSkew t n) := of_event rfl
theorem channelLost (t : Nat) (n : Lane) (c : Chan) : Statement (.channelLost t n c) := of_event rfl
theorem almanacSwitch (t : Nat) (n : Lane) : Statement (.almanacSwitch t n) := of_event rfl
theorem sessionIdleTimeout (t : Nat) (num : Half) : Statement (.sessionIdleTimeout t num) := of_event rfl
theorem sessionDropped (t : Nat) (num : Half) : Statement (.sessionDropped t num) := of_event rfl
theorem piecewiseSnapshotExpiry (t : Nat) (n : Lane) (session : Half) : Statement (.piecewiseSnapshotExpiry t n session) := of_event rfl
theorem healthRecordLatch (t : Nat) (n : Lane) : Statement (.healthRecordLatch t n) := of_event rfl
theorem memoryScrub (t : Nat) (n : Lane) (a : Word) (e : BitErrors) : Statement (.memoryScrub t n a e) := of_event rfl
theorem lifetimeCounterWrite (t : Nat) (n : Lane) : Statement (.lifetimeCounterWrite t n) := of_event rfl
theorem thermalCycleSample (t : Nat) (n : Lane) : Statement (.thermalCycleSample t n) := of_event rfl
theorem lockstepMismatch (t : Nat) (n : Lane) (a : Word) : Statement (.lockstepMismatch t n a) := of_event rfl
theorem votedIsolated (t : Nat) (n : Lane) : Statement (.votedIsolated t n) := of_event rfl
theorem calderaSet (t : Nat) (n : Lane) : Statement (.calderaSet t n) := of_event rfl
theorem torqueShadow (t : Nat) (n : Lane) : Statement (.torqueShadow t n) := of_event rfl
theorem profileReseed (t : Nat) (n : Lane) : Statement (.profileReseed t n) := of_event rfl
theorem deputySelftestFail (t : Nat) (n : Lane) : Statement (.deputySelftestFail t n) := of_event rfl
theorem profileShadow (t : Nat) (n : Lane) : Statement (.profileShadow t n) := of_event rfl
theorem linkSilence (t : Nat) (n : Lane) (target : Lane) : Statement (.linkSilence t n target) := of_event rfl
theorem epochClaim (t : Nat) (n : Lane) (target : Lane) : Statement (.epochClaim t n target) := of_event rfl
theorem dispute (t : Nat) (n : Lane) (target : Lane) : Statement (.dispute t n target) := of_event rfl
theorem disputeTimeout (t : Nat) (n : Lane) (target : Lane) : Statement (.disputeTimeout t n target) := of_event rfl
theorem leaderHandover (t : Nat) (n : Lane) : Statement (.leaderHandover t n) := of_event rfl
theorem leaderReturn (t : Nat) (n : Lane) : Statement (.leaderReturn t n) := of_event rfl
theorem deputyAssign (t : Nat) (n : Lane) : Statement (.deputyAssign t n) := of_event rfl
theorem deputyShadowApply (t : Nat) (n : Lane) : Statement (.deputyShadowApply t n) := of_event rfl
theorem shadowSnapshotDone (t : Nat) (n : Lane) : Statement (.shadowSnapshotDone t n) := of_event rfl
theorem rejoinRecordsCopied (t : Nat) (n : Lane) : Statement (.rejoinRecordsCopied t n) := of_event rfl
theorem rejoinSnapshotReceived (t : Nat) (n : Lane) : Statement (.rejoinSnapshotReceived t n) := of_event rfl
theorem rejoinConverged (t : Nat) (n : Lane) : Statement (.rejoinConverged t n) := of_event rfl
theorem rejoinRampEnd (t : Nat) (n : Lane) : Statement (.rejoinRampEnd t n) := of_event rfl
theorem rejoinFail (t : Nat) (n : Lane) : Statement (.rejoinFail t n) := of_event rfl
theorem rejoinRetry (t : Nat) (n : Lane) : Statement (.rejoinRetry t n) := of_event rfl
theorem cmdHold (t : Nat) : Statement (.cmdHold t) := of_event rfl
theorem lossOfCommand (t : Nat) : Statement (.lossOfCommand t) := of_event rfl
theorem legInterlock (t : Nat) (n : Lane) (x : Axis) (p : Phase) : Statement (.legInterlock t n x p) := of_event rfl
theorem legDidt (t : Nat) (n : Lane) (x : Axis) (p : Phase) (didt : Rat) (since : Nat) (held : Nat) : Statement (.legDidt t n x p didt since held) := of_event rfl
theorem setOvercurrent (t : Nat) (n : Lane) (x : Axis) (i : Int) (held : Nat) (since : Nat) : Statement (.setOvercurrent t n x i held since) := of_event rfl
theorem bootstrapRefresh (t : Nat) (n : Lane) (x : Axis) (p : Phase) (mv : Nat) : Statement (.bootstrapRefresh t n x p mv) := of_event rfl
theorem bootUv (t : Nat) (n : Lane) (x : Axis) (p : Phase) (mv : Nat) : Statement (.bootUv t n x p mv) := of_event rfl
theorem gateServoSaturation (t : Nat) (n : Lane) (x : Axis) (p : Phase) : Statement (.gateServoSaturation t n x p) := of_event rfl
theorem offStateDiagnostics (t : Nat) (n : Lane) (m : OffStateSample) : Statement (.offStateDiagnostics t n m) := of_event rfl
theorem firmwareGeyser (t : Nat) (n : Lane) (mv : Nat) : Statement (.firmwareGeyser t n mv) := of_event rfl
theorem hardwareGeyser (t : Nat) (n : Lane) (mv : Nat) : Statement (.hardwareGeyser t n mv) := of_event rfl
theorem geyserCurrentCheck (t : Nat) (n : Lane) (mv : Nat) (i : Nat) : Statement (.geyserCurrentCheck t n mv i) := of_event rfl
theorem geyserNotBlocking (t : Nat) (n : Lane) (i : Nat) (held : Nat) : Statement (.geyserNotBlocking t n i held) := of_event rfl
theorem geyserHot (t : Nat) (n : Lane) (temp : Int) : Statement (.geyserHot t n temp) := of_event rfl
theorem geyserHotRelease (t : Nat) (n : Lane) (temp : Int) : Statement (.geyserHotRelease t n temp) := of_event rfl
theorem activeShort (t : Nat) (n : Lane) (mv : Nat) : Statement (.activeShort t n mv) := of_event rfl
theorem activeShortEnd (t : Nat) (n : Lane) (x : Axis) (mv : Nat) : Statement (.activeShortEnd t n x mv) := of_event rfl
theorem inputDisconnectOpen (t : Nat) (n : Lane) (mv : Nat) : Statement (.inputDisconnectOpen t n mv) := of_event rfl
theorem inputDisconnectClose (t : Nat) (n : Lane) (vsup : Nat) (mv : Nat) (held : Nat) : Statement (.inputDisconnectClose t n vsup mv held) := of_event rfl
theorem windowLimited (t : Nat) (n : Lane) (x : Axis) : Statement (.windowLimited t n x) := of_event rfl
theorem windowLimitedClear (t : Nat) (n : Lane) (x : Axis) : Statement (.windowLimitedClear t n x) := of_event rfl
theorem senseMismatch (t : Nat) (n : Lane) (x : Axis) (p : Option Phase) : Statement (.senseMismatch t n x p) := of_event rfl
theorem carrierUnlock (t : Nat) (n : Lane) : Statement (.carrierUnlock t n) := of_event rfl
theorem i2tLimit (t : Nat) (n : Lane) (x : SetRef) : Statement (.i2tLimit t n x) := of_event rfl
theorem i2tRecover (t : Nat) (n : Lane) (x : SetRef) : Statement (.i2tRecover t n x) := of_event rfl
theorem setsStartSwitching (t : Nat) : Statement (.setsStartSwitching t) := of_event rfl
theorem runEntryComplete (t : Nat) : Statement (.runEntryComplete t) := of_event rfl
theorem steerHoldStart (t : Nat) : Statement (.steerHoldStart t) := of_event rfl
theorem brakeHoldStart (t : Nat) : Statement (.brakeHoldStart t) := of_event rfl
theorem brakeHoldDwell (t : Nat) : Statement (.brakeHoldDwell t) := of_event rfl
theorem catchSpinEnd (t : Nat) (n : Lane) (m : CatchPair) : Statement (.catchSpinEnd t n m) := of_event rfl
theorem angleAcquisitionEnd (t : Nat) (x : Axis) : Statement (.angleAcquisitionEnd t x) := of_event rfl
theorem polarityDetection (t : Nat) (n : Lane) (ms : List PulsePair) (mb : List PulsePair) : Statement (.polarityDetection t n ms mb) := of_event rfl
theorem polarityCompare (t : Nat) (x : Axis) : Statement (.polarityCompare t x) := of_event rfl
theorem consensusLost (t : Nat) (x : Axis) : Statement (.consensusLost t x) := of_event rfl
theorem angleSuspect (t : Nat) (n : Lane) (x : Axis) : Statement (.angleSuspect t n x) := of_event rfl
theorem angleOutlier (t : Nat) (n : Lane) (x : Axis) : Statement (.angleOutlier t n x) := of_event rfl
theorem obsInjFault (t : Nat) (n : Lane) (x : Axis) : Statement (.obsInjFault t n x) := of_event rfl
theorem obsPsiMismatch (t : Nat) (n : Lane) (x : Axis) : Statement (.obsPsiMismatch t n x) := of_event rfl
theorem svccFault (t : Nat) (n : Lane) (mv : Nat) (held : Nat) : Statement (.svccFault t n mv held) := of_event rfl
theorem svccRecover (t : Nat) (n : Lane) (mv : Nat) (held : Nat) : Statement (.svccRecover t n mv held) := of_event rfl
theorem svccRetry (t : Nat) (n : Lane) : Statement (.svccRetry t n) := of_event rfl
theorem quadInvalid (t : Nat) (n : Lane) : Statement (.quadInvalid t n) := of_event rfl
theorem quadOverrate (t : Nat) (n : Lane) : Statement (.quadOverrate t n) := of_event rfl
theorem quadRecover (t : Nat) (n : Lane) : Statement (.quadRecover t n) := of_event rfl
theorem switchChange (t : Nat) (n : Lane) (k : SwPort) (high : Bool) (held : Nat) : Statement (.switchChange t n k high held) := of_event rfl
theorem chatter (t : Nat) (n : Lane) (k : SwPort) (ats : List Nat) : Statement (.chatter t n k ats) := of_event rfl
theorem chatterEnd (t : Nat) (n : Lane) (k : SwPort) (high : Bool) (held : Nat) : Statement (.chatterEnd t n k high held) := of_event rfl
theorem stuck (t : Nat) (n : Lane) (k : SwPort) : Statement (.stuck t n k) := of_event rfl
theorem compareFire (t : Nat) (n : Lane) (k : BitVec 2) (stamp : Dword) (v : Int) : Statement (.compareFire t n k stamp v) := of_event rfl
theorem homingEndDetected (t : Nat) : Statement (.homingEndDetected t) := of_event rfl
theorem homingSwitchUnexpected (t : Nat) : Statement (.homingSwitchUnexpected t) := of_event rfl
theorem brakeRetractDone (t : Nat) : Statement (.brakeRetractDone t) := of_event rfl
theorem brakeKissPoint (t : Nat) : Statement (.brakeKissPoint t) := of_event rfl
theorem brakeStiffnessPoint (t : Nat) : Statement (.brakeStiffnessPoint t) := of_event rfl
theorem homingDone (t : Nat) (x : Axis) : Statement (.homingDone t x) := of_event rfl
theorem homingTimeout (t : Nat) : Statement (.homingTimeout t) := of_event rfl
theorem wake (t : Nat) (n : Lane) (held : Nat) : Statement (.wake t n held) := of_event rfl
theorem enaFilterChange (t : Nat) (n : Lane) (on : Bool) (held : Nat) : Statement (.enaFilterChange t n on held) := of_event rfl
theorem enaTestTimeout (t : Nat) (n : Lane) : Statement (.enaTestTimeout t n) := of_event rfl
theorem enaWithdrawn (t : Nat) (n : Lane) : Statement (.enaWithdrawn t n) := of_event rfl
theorem stopToReady (t : Nat) : Statement (.stopToReady t) := of_event rfl
theorem enaSleepDelay (t : Nat) : Statement (.enaSleepDelay t) := of_event rfl
theorem dormantEntry (t : Nat) : Statement (.dormantEntry t) := of_event rfl
theorem serviceTimeout (t : Nat) : Statement (.serviceTimeout t) := of_event rfl
theorem bootWaitTimeout (t : Nat) : Statement (.bootWaitTimeout t) := of_event rfl
theorem bootToDormant (t : Nat) (held : Nat) : Statement (.bootToDormant t held) := of_event rfl
theorem voteLineTest (t : Nat) (seen : List VoteLines) : Statement (.voteLineTest t seen) := of_event rfl
theorem fwTrialTimeout (t : Nat) : Statement (.fwTrialTimeout t) := of_event rfl
theorem rollbackRaised (t : Nat) : Statement (.rollbackRaised t) := of_event rfl
theorem supplyShed (t : Nat) (n : Lane) (vsup : Nat) (link : Nat) : Statement (.supplyShed t n vsup link) := of_event rfl
theorem supplyQuench (t : Nat) (n : Lane) (v : SupplyMv) (held : Nat) : Statement (.supplyQuench t n v held) := of_event rfl
theorem supplyRestart (t : Nat) (n : Lane) (v : SupplyMv) (held : Nat) : Statement (.supplyRestart t n v held) := of_event rfl
theorem supplyOvOpen (t : Nat) (n : Lane) (mv : Nat) : Statement (.supplyOvOpen t n mv) := of_event rfl
theorem supplyOvClose (t : Nat) (n : Lane) (mv : Nat) (held : Nat) : Statement (.supplyOvClose t n mv held) := of_event rfl
theorem disconnectBlock (t : Nat) (n : Lane) (vsup : Nat) (mv : Nat) : Statement (.disconnectBlock t n vsup mv) := of_event rfl
theorem prechargeComplete (t : Nat) (n : Lane) (vsup : Nat) (mv : Nat) : Statement (.prechargeComplete t n vsup mv) := of_event rfl
theorem prechargeRetry (t : Nat) (n : Lane) : Statement (.prechargeRetry t n) := of_event rfl
theorem resetAssert (t : Nat) (n : Lane) (src : ResetSource) : Statement (.resetAssert t n src) := of_event rfl
theorem externalReset (t : Nat) (n : Lane) (low : Nat) : Statement (.externalReset t n low) := of_event rfl
theorem rstHandshakeSample (t : Nat) (n : Lane) (low : Bool) : Statement (.rstHandshakeSample t n low) := of_event rfl
theorem resetRelease (t : Nat) (n : Lane) (b : BootChecks) : Statement (.resetRelease t n b) := of_event rfl
theorem clockQualified (t : Nat) (n : Lane) (d : Fin 13) (taps : List Nat) (count : Nat) : Statement (.clockQualified t n d taps count) := of_event rfl
theorem clockQualFail (t : Nat) (n : Lane) (d : Fin 13) (waited : Nat) : Statement (.clockQualFail t n d waited) := of_event rfl
theorem clockQualRetry (t : Nat) (n : Lane) : Statement (.clockQualRetry t n) := of_event rfl
theorem clockLoss (t : Nat) (n : Lane) (d : Fin 13) (taps : List Nat) : Statement (.clockLoss t n d taps) := of_event rfl
theorem watchdog (t : Nat) (n : Lane) : Statement (.watchdog t n) := of_event rfl
theorem watchdogReset (t : Nat) (n : Lane) : Statement (.watchdogReset t n) := of_event rfl
theorem voteWithdrawn (t : Nat) (n : Lane) : Statement (.voteWithdrawn t n) := of_event rfl
theorem quadEdge (t : Nat) (n : Lane) (v : QuadLevels) (stable : Nat) : Statement (.quadEdge t n v stable) := of_event rfl
theorem fwVerifyComplete (t : Nat) : Statement (.fwVerifyComplete t) := of_event rfl
theorem attestReportDone (t : Nat) (n : Lane) : Statement (.attestReportDone t n) := of_event rfl
theorem bleederOff (t : Nat) (n : Lane) (mv : Nat) : Statement (.bleederOff t n mv) := of_event rfl
theorem disconnectConductForward (t : Nat) (n : Lane) (vsup : Nat) (mv : Nat) : Statement (.disconnectConductForward t n vsup mv) := of_event rfl
theorem busOffRecovery (t : Nat) (bits : Nat) : Statement (.busOffRecovery t bits) := of_event rfl
theorem dominantTimeout (t : Nat) (held : Nat) : Statement (.dominantTimeout t held) := of_event rfl

end Sys2Proof.Laws.Instant
end

