-- ==== Sys2Proof/Laws/Requests.lean ====
section
/-! SUPPORT. What a request does that the answering lane takes: one lemma for every operation, and what the checks of R335
tell about its parameters. -/

namespace Sys2Proof.Machine

/-- The answer accepts the request: it is neither an error nor a rejection. -/
def Answer.accepted : Answer → Prop
  | .err _ _ => False
  | .fail _ _ _ => False
  | _ => True

@[simp] theorem Answer.accepted_ok (s : State) (d : List Byte) : (Answer.ok s d).accepted := trivial
@[simp] theorem Answer.accepted_pending (s : State) (d : List Byte) : (Answer.pending s d).accepted := trivial
@[simp] theorem Answer.accepted_later (s : State) : (Answer.later s).accepted := trivial

/-- The answering lane's part, for an operation that accepts. -/
theorem fcpAnswer_accepted {p : State} {n : Lane} {op : Half} {r : Req} {hd : Handler} {a : Answer}
    (ha : p.answer n op r hd = a) (hx : a.accepted) : p.fcpAnswer n op r hd = p.answered n op r a := by
  unfold State.fcpAnswer State.answered
  rw [ha]
  cases a <;> first | exact hx.elim | rfl

/-- A taken request reaches the operation. -/
theorem State.Takes.answer_eq {s : State} {n : Lane} {op : Half} {r : Req} {peer : PeerPart} (h : s.Takes n op r peer)
    (hd : Handler) : (s.met op r peer).answer n op r hd = hd (s.met op r peer) n ((s.met op r peer).callAt n op r) := by
  obtain ⟨-, ht, -, hc⟩ := h
  unfold State.answer State.callAt
  rw [hc]
  rcases ht with ht | ht <;> simp [ht]

/-- What the whole module makes of a taken request whose operation accepts it. -/
theorem State.Takes.fcp_eq {s : State} {n : Lane} {op : Half} {r : Req} {peer : PeerPart} {hd : Handler} {a : Answer}
    (h : s.Takes n op r peer) (ha : hd (s.met op r peer) n ((s.met op r peer).callAt n op r) = a) (hx : a.accepted) :
    s.fcp op r hd peer = (s.met op r peer).answered n op r a := by
  have hlane := fcpAnswer_accepted ((h.answer_eq hd).trans ha) hx
  unfold State.fcp
  rw [h.1]
  simp [State.fcpLane, h.2.2.1, hlane]

/-- A piecewise read that finds a byte answers OK (R352). -/
theorem piecewise_accepted {p : State} {n : Lane} {c : Call} {off : Nat} {record : List Byte}
    (h : p.pieceOk n c off record = true) : (p.piecewise n c off record).accepted := by
  unfold State.pieceOk at h
  unfold State.piecewise
  simp only [decide_eq_true_eq] at h
  rw [if_neg (Nat.not_le.mpr h)]
  exact trivial

/-- The parameter length an opcode needs is positive wherever its rows share an action byte. -/
theorem needLen_paramRead (v : Nat) (p : List Byte) : 0 < needLen 0x0501 v p := by
  have h : needLen 0x0501 v p = if rd p 0 1 = 1 then 8 else 4 := rfl
  rw [h]; split <;> omega

/-- A request that passes the checks carries the parameters its opcode needs (R335 order 9). -/
theorem check_length {l : LaneSt} {md : Mode} {op : Half} {r : Req} (h : l.check md op r = none) :
    needLen op r.readVer r.params ≤ r.params.length := by
  unfold LaneSt.check at h
  have h2 : l.orders8to12 md op r = none := by
    cases h1 : l.orders3to7 op r <;> simp_all
  unfold LaneSt.orders8to12 at h2
  cases ho : opRow op with
  | none => simp [ho] at h2
  | some o =>
    simp only [ho] at h2
    by_contra hlt
    rw [if_pos (Nat.lt_of_not_le hlt)] at h2
    split at h2 <;> simp at h2

theorem readVer_withByte (r : Req) (i : Nat) (b : Byte) : (r.withByte i b).readVer = r.readVer := rfl

/-- The first byte of a byte list as a number. -/
theorem rd_zero_one_cons (b : Byte) (l : List Byte) : rd (b :: l) 0 1 = b.toNat := by
  simp [rd, beNat]

theorem rd_zero_one_take {p : List Byte} {k : Nat} (hk : 0 < k) : rd (p.take k) 0 1 = rd p 0 1 := by
  cases p with
  | nil => simp
  | cons a l => cases k with
    | zero => omega
    | succ k => simp [rd]

theorem rd_zero_one_set {p : List Byte} (hp : 0 < p.length) (b : Byte) : rd (p.set 0 b) 0 1 = b.toNat := by
  cases p with
  | nil => simp at hp
  | cons a l => simp [rd_zero_one_cons]

/-- The action byte that names a row of the table is the byte the operation sees. -/
theorem State.Takes.action {s : State} {n : Lane} {op : Half} {r : Req} {peer : PeerPart} {b : Byte}
    (h : s.Takes n op (r.withByte 0 b) peer) (hk : 0 < needLen op r.readVer (r.withByte 0 b).params) :
    rd ((s.met op (r.withByte 0 b) peer).callAt n op (r.withByte 0 b)).p 0 1 = b.toNat := by
  have hl := check_length h.2.2.2
  have hp : 0 < r.params.length := by simpa [Req.withByte] using Nat.lt_of_lt_of_le hk hl
  unfold State.callAt LaneSt.call
  rw [rd_zero_one_take (by simpa [readVer_withByte] using hk)]
  exact rd_zero_one_set hp b

end Sys2Proof.Machine
end

