-- ==== Sys2Proof/Tests/Slice0.lean ====
section
/-! SUPPORT. The model's own tests: ill-formed commands, the manual's worked figures, and for every statement a concrete state and
operands that meet its hypotheses. -/

namespace Sys2Proof.Tests
open Sys2Proof Sys2Proof.Machine
set_option Elab.async false

/-! ### States to test on -/

/-- A link from a lane that reports a state and a role at epoch 1, heard both ways. -/
def wIn (st : LaneState) (r : Role) : LinkIn :=
  { view := { h := BitVec.ofNat 64 (pack [(0, 6), (r.code, 2), (st.code, 3), (0, 5), (1, 16), (0, 32)]), s6 := 0xC0000000 }
    heard := true, heardMe := true, signal := true }

/-- An Active lane out of reset with both channels Integrated, both peers seen in given states and roles. -/
def wLane (r : Role) (lo hi : LinkIn) : LaneSt :=
  { state := .active, role := r, leader := some .l1, epoch := 1, stored := 1, lo := lo, hi := hi
    rst := { inReset := false, causes := [], rstDriven := false, rstHigh := true, qual := [0, 1, 2, 3, 4, 5, 6, 7, 8, 9] }
    net := { x := { state := 3 }, y := { state := 3 } }
    ena := { pin := true, filt := true, test := 2 }
    sup := { disc := 2, svccOn := true, link := 48000 } }

/-- Three Active lanes, Lane 1 Leader and Lane 2 Deputy, in a mode. -/
def wAll (md : Mode) : State :=
  { m := { mode := md, pend := md }
    l1 := wLane .leader (wIn .active .deputy) (wIn .active .member)
    l2 := wLane .deputy (wIn .active .leader) (wIn .active .member)
    l3 := wLane .member (wIn .active .leader) (wIn .active .deputy) }

/-- An open expert session of node 1. -/
def wEntry : SessionEntry := { num := 1, expert := true, binding := 1, slot := 0, mark := none, kReq := 0, kRep := 0, opened := 0, lastUsed := 0, idleNs := 1000000000, proven := true, macFails := [] }

/-- A security unit with that session open. -/
def wSec : SecSt := { sessions := [wEntry] }

/-- Three Active lanes, Lane 1 Leader with that session. -/
def wAllS (md : Mode) : State := { wAll md with l1.sec := wSec }

/-- Lane 1 alone Active and Leader, the others in reset, with that session, in a mode. -/
def wOne (md : Mode) : State :=
  { m := { mode := md, pend := md }
    l1 := { wLane .leader {} {} with sec := wSec } }

/-- A request with session 1, its parameters filled up with zeros, its target the row's own, its MAC present. -/
def wReqOn (c : Carriage) (op : Half) (lead : List Byte) : Req :=
  let r : Req :=
    { at_ := 1000, carriage := c, verMajor := 3, verMinor := 1, flags := 0x40, seq := 1, epoch := 1, session := 1, reserved := 0, mac := none
      target := ((((opRow op).map (·.targets)).getD []).find? (fun b => Lane.ofCode? b == none || Lane.ofCode? b == some .l1)).getD 0
      params := lead ++ List.replicate (needLen op (ver 3 1) lead - lead.length) 0 }
  { r with mac := some (macOf 0 c 1 false (r.bytes op)) }

/-- Such a request from node 1. -/
def wReq (op : Half) (lead : List Byte) : Req := wReqOn (.hiolo 1) op lead

/-- The checks of R335 apart from the MAC. -/
def checkBut (l : LaneSt) (md : Mode) (op : Half) (r : Req) : Bool :=
  (r.verMajor == 2 || r.verMajor == 3) && validTarget r.target && ((opRow op).map (fun o => o.targets.contains r.target)) != some false &&
  r.session != 0 && (l.sessionOf r).isSome && l.seqOk r && (l.orders8to12 md op r).isNone

/-- A request is taken, its MAC apart. -/
def takesBut (s : State) (n : Lane) (op : Half) (r : Req) (peer : PeerPart) : Bool :=
  (s.at_ r.at_).answerer r == some n && (Lane.ofCode? r.target == none || Lane.ofCode? r.target == some n) &&
  takesIn (s.met op r peer).m.mode op r && checkBut ((s.met op r peer).lane n) (s.met op r peer).m.mode op r

/-- A Hiolo command frame with the protocol's ether type and a valid check sequence. -/
def wFrame : HFrame := { fcsOk := true, dest := 0x0348494F0000, etherType := 0x88B5, cc := 0, dataLen := 100, sfd := 0, major := 1, minor := 0, window := 0, matrix := 0, sender := 0, epoch := 0, sync := false, null := false, caps := false, fresh := 0, plen := 0, payload := [] }

/-- Readings of the off-state test that are all zero. -/
def wSetRead : SetReadings := ⟨[], ⟨0, 0, 0⟩, ⟨0, 0, 0⟩, ⟨0, 0, 0⟩, ⟨0, 0, 0⟩, [], [], []⟩

/-- An off-state test sample in which everything reads zero. -/
def wOff : OffStateSample := ⟨wSetRead, wSetRead, 0, 0, 0, 0⟩

/-- A catch-spin of both sets of a lane on an axis at rest. -/
def wCatch : CatchPair := ⟨⟨⟨0, 0, 0⟩, ⟨0, 0, 0⟩, ⟨0, 0, 0⟩, 0, []⟩, ⟨⟨0, 0, 0⟩, ⟨0, 0, 0⟩, ⟨0, 0, 0⟩, 0, []⟩⟩

/-- A request without a MAC. -/
def r0 : Req := { wReq 0x0102 [] with mac := none }

/-- Sixteen SENT frames, newest first, that carry a short serial message of identifier 0 and data 0 with a check code. -/
def wSerial (c : BitVec 4) : List (Bool × Bool) :=
  ((true, false) :: (List.replicate 11 (false, false) ++
    [(false, c.getLsbD 3), (false, c.getLsbD 2), (false, c.getLsbD 1), (false, c.getLsbD 0)])).reverse

/-- What such frames say, whatever the check code. -/
theorem serialOf_wSerial (c : BitVec 4) :
    serialOf 1 (wSerial c) = some (0, 0, Config.serialCrc4 (List.replicate 12 false) == c) := by
  have h : ∀ c : BitVec 4, BitVec.ofNat 4 (bitsNat [c.getLsbD 3, c.getLsbD 2, c.getLsbD 1, c.getLsbD 0]) = c := by decide
  exact congrArg (fun d => some ((0 : Byte), (0 : Half), Config.serialCrc4 (List.replicate 12 false) == d)) (h c)

theorem serialOf_good : serialOf 1 (wSerial (Config.serialCrc4 (List.replicate 12 false))) = some (0, 0, true) := by
  rw [serialOf_wSerial, beq_self_eq_true]

theorem serialOf_bad : serialOf 1 (wSerial (Config.serialCrc4 (List.replicate 12 false) + 1)) = some (0, 0, false) := by
  have h : ∀ c : BitVec 4, (c == c + 1) = false := by decide
  rw [serialOf_wSerial, h]

/-- A scrub that finds one flipped check bit, in a memory without another flip. -/
theorem scrub_one {l : LaneSt} (h : l.upsets = []) :
    ((l.store .l1 0 { data := (l.held .l1 0).data ^^^ 0, check := (l.held .l1 0).check ^^^ 1 }).held .l1 0).decode (foldMemory 0) =
      some (l.wordAt .l1 0, true) := by
  rw [LaneSt.held_store, LaneSt.held_clean _ _ h]
  simpa [XWord.encode] using XWord.decode_flip_one (l.wordAt .l1 0) (e := 1) (foldMemory 0) (by decide) (by decide)

/-- A scrub that finds eight flipped check bits. -/
theorem scrub_none {l : LaneSt} (h : l.upsets = []) :
    ((l.store .l1 0 { data := (l.held .l1 0).data ^^^ 0, check := (l.held .l1 0).check ^^^ 0xFF }).held .l1 0).decode (foldMemory 0) =
      none := by
  rw [LaneSt.held_store, LaneSt.held_clean _ _ h]
  simpa [XWord.encode] using
    XWord.decode_flip_none (l.wordAt .l1 0) (e := 0xFF) (foldMemory 0) (by decide) (by decide) (by decide) (by decide)

/-- A bus beat with one flipped check bit. -/
theorem bus_one (d : Dword) (a : Nat) :
    XWord.decode { data := (XWord.encode d a).data ^^^ 0, check := (XWord.encode d a).check ^^^ 1 } a = some (d, true) := by
  simpa [XWord.encode] using XWord.decode_flip_one d (e := 1) a (by decide) (by decide)

/-- The checks pass where they pass apart from the MAC and the MAC verifies. -/
theorem check_of_but {l : LaneSt} {md : Mode} {op : Half} {r : Req} (hb : checkBut l md op r = true) (hm : l.macOk op r = true) :
    l.check md op r = none := by
  simp only [checkBut, Bool.and_eq_true, Bool.or_eq_true, beq_iff_eq, bne_iff_ne, ne_eq, Option.isNone_iff_eq_none,
    Option.isSome_iff_ne_none] at hb
  obtain ⟨⟨⟨⟨⟨⟨h1, h2⟩, h3⟩, h4⟩, h5⟩, h6⟩, h7⟩ := hb
  unfold LaneSt.check LaneSt.orders3to7
  rw [if_neg (by tauto), if_neg (by rintro (h | h); exacts [by simp [h2] at h, h3 h]), if_neg h4, if_neg h5, if_neg (by simp [hm]), if_neg (by simp [h6]), h7]
  rfl

/-- A request of wReqOn whose checks pass, the MAC apart, is taken. -/
theorem takes_of {s : State} {n : Lane} {op : Half} {r q : Req} {peer : PeerPart} (c : Carriage) (lead : List Byte) (e : SessionEntry)
    (hq : q = wReqOn c op lead) (hr : r.params = q.params ∧ r = { q with params := r.params })
    (hb : takesBut s n op r peer = true) (hs : ((s.met op r peer).lane n).sessionOf r = some e) (hk : e.kReq = 0)
    (ht : ((s.met op r peer).lane n).tag = 1) (hf : r.flags.getLsbD 6 = true) : s.Takes n op r peer := by
  have hrq : r = q := by rw [hr.2, hr.1]
  subst hrq
  simp only [takesBut, Bool.and_eq_true, Bool.or_eq_true, beq_iff_eq] at hb
  obtain ⟨⟨⟨h1, h2⟩, h3⟩, h4⟩ := hb
  refine ⟨h1, h2, h3, check_of_but h4 ?_⟩
  have hc : r.carriage = c := by rw [hq]; rfl
  have hm : r.mac = some (macOf 0 c 1 false (r.bytes op)) := by rw [hq]; rfl
  unfold LaneSt.macOk
  rw [hs]
  simp [hk, ht, hc, hm, hf]

/-- At a consensus speed of zero there is no back-EMF. -/
theorem emfPeak_zero {s : State} {n : Lane} {x : Axis} (h : s.omega n x = 0) : s.emfPeak n x = 0 := by
  simp [State.emfPeak, h, absQ]

/-! ### Ill-formed commands: one for every check of WellFormed -/

/-- 1,373 parameter bytes. -/
theorem test_wf_request_length : (Instr.modeStatus { r0 with flags := 0, params := List.replicate 1373 0 }).wf = false := by decide +kernel
/-- A MAC flag without a MAC. -/
theorem test_wf_request_mac : (Instr.modeStatus { r0 with flags := 0x40 }).wf = false := by decide +kernel
/-- A data field below 46 bytes. -/
theorem test_wf_frame_short : (Instr.nullFrame 0 .l1 .x { wFrame with dataLen := 45 }).wf = false := by decide +kernel
/-- A data field above 1,412 bytes. -/
theorem test_wf_frame_long : (Instr.commandFrame 0 .l1 .x { wFrame with dataLen := 1413 }).wf = false := by decide +kernel
/-- A payload longer than the data field holds. -/
theorem test_wf_frame_payload : (Instr.capsFrame 0 .l1 .x { wFrame with dataLen := 46, payload := List.replicate 35 0 }).wf = false := by
  decide +kernel
/-- A CAN FD frame of more than 64 bytes. -/
theorem test_wf_host : (Instr.hostPortFrame 0 0 true (List.replicate 65 0)).wf = false := by decide +kernel
/-- A cross-lane frame from a lane to itself, and one of nine words. -/
theorem test_wf_link : (Instr.crossLaneFrameCommit 0 .l1 .l1 (List.replicate 10 ⟨0, 0⟩)).wf = false ∧
    (Instr.crossLaneFrameCommit 0 .l2 .l1 (List.replicate 9 ⟨0, 0⟩)).wf = false ∧
    (Instr.crossLaneFrameCommit 0 .l2 .l1 (List.replicate 58 ⟨0, 0⟩)).wf = false := by decide +kernel
/-- A twin frame of six words. -/
theorem test_wf_twin : (Instr.twinFrame 0 .k1 (List.replicate 6 ⟨0, 0⟩)).wf = false := by decide +kernel
/-- Items from a lane to itself. -/
theorem test_wf_items : (Instr.enableStateItem 0 .l1 .l1 true).wf = false ∧ (Instr.outboundStatusItem 0 .l2 .l2 1 0 []).wf = false ∧
    (Instr.timeItem 0 .l3 .l3 true true 0).wf = false ∧ (Instr.almanacSegmentItem 0 .l1 .l2 ⟨0, List.replicate 513 0⟩).wf = false ∧
    (Instr.firmwareCopyItem 0 .l1 .l2 0 2 [0]).wf = false ∧ (Instr.keyItem 0 .l1 .l2 (.ownerKeys 0 [] [])).wf = false ∧
    (Instr.inboundFrameItem 0 .l1 .l1 .x wFrame).wf = false ∧ (Instr.sessionItem 0 .l1 .l1 ⟨true, wEntry⟩).wf = false := by decide +kernel
/-- A SENT frame without data, and one of nine nibbles. -/
theorem test_wf_sent : (Instr.sentFrame 0 .l1 .a ⟨56, 0, [], 0, none⟩).wf = false ∧
    (Instr.sentFrame 0 .l1 .a ⟨56, 0, List.replicate 9 0, 0, none⟩).wf = false := by decide +kernel
/-- The commands of the witnesses below are well formed. -/
theorem test_wf_good : (Instr.modeStatus (wReq 0x0102 [])).wf = true ∧ (Instr.nullFrame 0 .l1 .x wFrame).wf = true := ⟨rfl, rfl⟩

/-! ### Worked figures of the manual -/

/-- Address 0x36 is Lane 3, set B, phase W; SENTA of Lane 2 is 0x120; the Geyser of Lane 1 is 0x1C (Scope and Conventions; Fault
Tolerance; Power Legs). -/
theorem test_addresses : legAddr .l3 .b .w = 0x36 ∧ portAddr .l2 0 = 0x120 ∧ geyserAddr .l1 = 0x1C := by decide +kernel

/-- D_MAX of a B set at 200 kHz with 40 ns dead time is 97.4 % (Power Legs). -/
theorem test_d_max : ({ dead := 32 } : SetSt).dMax 2000 = 974 / 1000 := by decide +kernel

/-- Edges of the sampling half at 100 kHz, dead time 20 ns: 4,875, 4,750 and 200 ns become 4,910, 4,610 and 200 ns (Current
Sensing). -/
theorem test_window_edges :
    let c : SetSt := { dead := 16 }
    let d : Phase → Rat := fun p => match p with | .u => 975 / 1000 | .v => 950 / 1000 | .w => 40 / 1000
    let e : Phase → Int := fun p => match p with | .u => 3900 | .v => 3800 | .w => 160
    [Phase.u, .v, .w].map (fun p => c.windowEdges 4000 240 true d e e p) = [3928, 3688, 160] := by decide +kernel

/-- A third is 21,845 and a half 32,768 in the share code (Field Control). -/
theorem test_share_codes : shareCode (1 / 3) = 21845 ∧ shareCode (1 / 2) = 32768 := by decide +kernel

/-- Well below the derating band the grade of the module does not matter (R96). -/
theorem fCom_cool {t : Rat} (h : t ≤ 95) : fComOf gradeMax t = 1 := by
  unfold fComOf gradeMax
  rw [if_pos (by split <;> linarith)]

/-- The term of a set in a cool module. -/
def coolTerm (s : State) (n m : Lane) (x : Axis) : Rat :=
  let c := (s.lane n).term m x
  if s.carries n m x then
    (if (s.lane m).rejoin.step = 5 then ((s.lane m).set x).ramp else 1) * (s.lane n).weight m *
      (if s.noShare n m x = true ∨ ((s.lane n).prof.reg x = true ∧ s.seesGeyserBad n m = true) then 0
       else fShed (s.pubLevel n m) * fLeg c.legZero ((s.lane n).tDerate x) (s.pubHot n m) *
         ((s.lane n).i2tLimit c x s.now / (s.lane n).iPeak x))
  else 0

theorem term_cool {s : State} {n m : Lane} {x : Axis} (h : s.baseTemp n ≤ 95) : s.term n m x = coolTerm s n m x := by
  unfold State.term State.availability State.motoring coolTerm
  simp only [fCom_cool h, mul_one]

/-- Lane 3 lost, Lane 2 at supply level 3, Lane 1 at level 0. -/
def wShed : State :=
  { wAll .run with
    l1.lo.view.s6 := 0xC0000300
    l1.hi := wIn .quenched .none
    l3.state := .quenched }

/-- With Lane 3 lost and Lane 2 at supply level 3, the steer shares are 0.625 and 0.375 and T_max is 96 A (Supplies). -/
theorem test_shed_shares : wShed.shareOf .l1 .l1 .s = 5 / 8 ∧ wShed.shareOf .l1 .l2 .s = 3 / 8 ∧ wShed.tMax .l1 .s = 96000 := by
  have h : wShed.baseTemp .l1 ≤ 95 := by decide +kernel
  simp only [State.tMax, State.shareOf, term_cool h]
  decide +kernel

/-- The state a command leaves. -/
def after : Host.Outcome State Fault Refusal → State
  | .next t => t
  | _ => State.reset

/-- 58.5 V on 3.0 Ohm at a quarter is 4.875 A: no current then fails the Geyser of Lane 1, kind 1 (Power Legs). -/
theorem test_geyser_current :
    let t := after (exec (.geyserCurrentCheck 4000 .l1 58500 0) { wAll .run with l1.gey.fw := true })
    t.l1.gey.fault = true ∧ t.l1.gey.bad = true ∧ (t.l1.log.map (fun e => (e.code, e.addr))) = [(0x0205, 0x1C)] := by decide +kernel

/-- The midpoints of the two basic cycles of the example: 0.30 us and 0 (Hiolo Timing). -/
theorem test_midpoint : midpoint [-200, 300, 3500] true = some 300 ∧ midpoint [-100, 0, 3650] true = some 0 := by decide +kernel

/-- The raw counter wraps between two steps: the extended count goes to 0x0000_0001_0000_0090 (Feedback Inputs). -/
theorem test_quad_extend : ({ raw := 0x00000090, prev := 0xFFFFFFC8, ext := 0xFFFFFFC8 } : QuadSt).extend.ext = 0x100000090 := by
  decide +kernel

/-- Of three lanes one inactive line stops nothing, two begin the stop (Modes). -/
theorem test_stop_condition :
    let s1 := { wAll .run with
      l1.ena.filt := false
      l1.lo.ena := true
      l1.hi.ena := true }
    s1.stopDue .l1 = false ∧ State.stopDue { s1 with l1.lo.ena := false } .l1 = true := by decide +kernel

/-- Pair resistances of 84.4, 84.0 and 83.6 mOhm give 420, 424 and 416, valid mask 1 (Measurement). -/
theorem test_load_result :
    let l := loadResult {} 1 ⟨⟨[(422, 100000)], [(-422, -100000)]⟩, ⟨[(420, 100000)], [(-420, -100000)]⟩,
      ⟨[(418, 100000)], [(-418, -100000)]⟩, [], [], [], [], []⟩ 0 none
    (l.ru, l.rv, l.rw, l.valid) = (420, 424, 416, 1) := by decide +kernel

/-- HEALTH_READ at version 3.4 is read as 3.1; STEER_ANGLE with an old epoch ends in ERR_EPOCH with its opcode (Command Protocol). -/
theorem test_versions_and_epochs :
    ({ r0 with verMajor := 3, verMinor := 4 } : Req).readVer = ver 3 1 ∧
    ({ wLane .leader {} {} with epoch := 0x0042, sec := wSec } : LaneSt).orders8to12 .run 0x0201 { wReq 0x0201 [] with epoch := 0x0041 } =
      some (0x17, 0x0201) := by decide +kernel

/-- After the Enable test with every line high an ENABLE_TEST_STATUS byte is 0xA8 (Integration). -/
theorem test_enable_status : (wOne .ready).enableByte .l1 .l1 = 0xA8 := by decide +kernel

/-- The factory Almanac: six windows, the module's own windows, one time source (Hiolo Schedule). -/
theorem test_factory_almanac : almWindows factoryAlmanac = 6 ∧ ownWindow factoryAlmanac 31 5 = some 3 ∧
    almSource factoryAlmanac 0 = true ∧ almStart factoryAlmanac 5 = 4720 ∧ almLen factoryAlmanac 5 = 1200 := by decide +kernel

/-- Right after reset the module is Dormant, every lane is Off, without a role, in reset, and nothing waits. -/
theorem test_reset : State.reset.m.mode = .dormant ∧ (∀ n ∈ allLanes, (State.reset.lane n).state = .off ∧
    (State.reset.lane n).role = .none ∧ (State.reset.lane n).rst.inReset = true) ∧ State.reset.pending = [] := by decide +kernel

/-- No word of the table spells a command, so putting one in front changes nothing. -/
theorem test_no_word (s : State) (n w : Nat) : decodeTableWord n w = none ∧ s.withFetchWord n w = s := ⟨rfl, rfl⟩

/-! ### Single steps -/

/-- Leg 2.S.U crosses LEG.DIDT_LIMIT: Lane 2 logs LEG_DIDT with 0x20, the leg is high-impedance, the B set keeps switching (Field
Control). -/
theorem test_leg_didt :
    let t := after (exec (.legDidt 80 .l2 .s .u 30 1000 5) { wAll .run with
      l2.s.switching := true
      l2.b.switching := true })
    t.l2.log.map (fun e => (e.code, e.addr)) = [(0x0201, 0x20)] ∧ t.l2.s.u.tripped = true ∧ t.l2.b.switching = true := by decide +kernel

/-- Lane 2 loses SENTA: SENT_TIMEOUT with 0x120 (Fault Tolerance). -/
theorem test_sent_timeout :
    let t := after (exec (.sentTimeout 22700000 .l2 .a) { wAll .run with
      l2.sup.svccOn := true
      l2.sentA.accepted := true })
    (t.l2.log.map (fun e => (e.code, e.addr))).contains (0x0402, 0x0120) = true := by decide +kernel

/-- Lane 2's Boot with a trial of bank B that reads erased: STORED_IMAGE_FAIL at the bank's first byte and FW_TRIAL_FAIL with
0x0000_2A07; bank A reads erased as well (Scope and Conventions; Boot, Signed Images and Attestation). -/
theorem test_stored_image :
    let s := { wAll .boot with
      l2.sec.bankA := some (0x2A03, 4)
      l2.sec.bankB := some (0x2A07, 5)
      l2.sec.trial := some 2
      l2.sec.rollback := [4] }
    let t := s.bootBank .l2 ⟨[], true, true, [], [], [], [], [], [], [], [], [], [], 0, false⟩
    t.l2.log.map (fun e => (e.code, e.addr)) = [(0x0A02, 0), (0x0A03, 0x2A07), (0x0A02, 0x380000)] ∧ t.l2.sec.running = 0 ∧
      t.l2.sec.trialBad = true := by decide +kernel

/-- The first epoch of a delivered module is 1, the next 2 (Integration). -/
theorem test_first_epoch : nextEpoch State.reset.l1.stored = 1 ∧ nextEpoch 1 = 2 ∧ nextEpoch 0xFFFF = 1 := by decide +kernel

/-- One vote isolates, two set the Caldera (Lanes, Votes and Leadership). -/
theorem test_votes :
    let s := { wAll .run with l2.vote.on1 := { reason := 1, at_ := 0 } }
    (after (exec (.votedIsolated 1000 .l1) s)).l1.state = .isolated ∧
    (after (exec (.calderaSet 1000 .l1) { s with l3.vote.on1 := { reason := 1, at_ := 0 } })).l1.state = .quenched := by decide +kernel

/-- A command frame in the module's window with a wrong window index counts as a position error and is dropped (Hiolo Schedule). -/
theorem test_frame_position :
    let t := after (exec (.commandFrame 1000000000000000 .l1 .x { wFrame with window := 2, sfd := 85600 }) (wAll .run))
    t.l1.net.x.cPosition = 1 ∧ t.l1.net.rx = none := by decide +kernel

/-- Code 3 of a SENT nibble message, the QUAD transition and the switch are lane-local: Lane 1 and the module stay. -/
theorem test_lane_local :
    let t := after (exec (.quadEdge 1 .l2 ⟨true, false⟩ 100) (wAll .run))
    t.l2.quad.raw = 1 ∧ t.l1 = (wAll .run).l1 ∧ t.m = (wAll .run).m := ⟨by decide +kernel, rfl, rfl⟩

/-! ### The hypotheses of the statements are met -/

/-- Hypotheses of ModeAndStatusRequestsComplete, clause by clause. -/
theorem witness_ModeAndStatusRequestsComplete :
    (∃ (s : State) (n : Lane) (r : Req), s.Takes n 0x0101 (r.withByte 0 2) noPart ∧ let p := s.met 0x0101 (r.withByte 0 2) noPart; (p.m.mode = .run ∨ p.m.mode = .limp) ∧ p.m.pend = p.m.mode ∧ p.m.stopOn = false) ∧
    (∃ (s : State) (n : Lane) (r : Req), s.Takes n 0x0101 (r.withByte 0 2) noPart ∧ let p := s.met 0x0101 (r.withByte 0 2) noPart; p.m.mode = .service ∧ p.m.pend = .service) ∧
    (∃ (s : State) (n : Lane) (r : Req), s.Takes n 0x0101 (r.withByte 0 3) noPart ∧ let p := s.met 0x0101 (r.withByte 0 3) noPart; p.m.mode = .ready ∧ p.m.pend = .ready ∧ p.somePermitted n = true ∧ (p.lane n).stampBad = false ∧ (p.lane n).par.defaults = false ∧ p.occupied = false) ∧
    (∃ (s : State) (n : Lane) (r : Req), s.Takes n 0x0101 (r.withByte 0 3) noPart ∧ let p := s.met 0x0101 (r.withByte 0 3) noPart; p.m.mode = .limp ∧ p.m.pend = .limp ∧ p.m.stopOn = false ∧ p.limpDue n = false) ∧
    (∃ (s : State) (n : Lane) (r : Req), s.Takes n 0x0101 (r.withByte 0 5) noPart ∧ let p := s.met 0x0101 (r.withByte 0 5) noPart; p.m.mode = .ready ∧ p.m.pend = .ready ∧ p.allStill = true ∧ p.serviceStopped = false ∧ p.occupied = false) ∧
    (∃ (s : State) (n : Lane) (r : Req), s.Takes n 0x0101 (r.withByte 0 0) noPart ∧ let p := s.met 0x0101 (r.withByte 0 0) noPart; p.m.mode = .ready ∧ p.m.pend = .ready ∧ p.allEnaOff = true ∧ p.occupied = false) ∧
    (∃ (s : State) (n : Lane) (r : Req), s.Takes n 0x0102 r noPart) ∧
    (∃ (s : State) (n : Lane) (r : Req), s.Takes n 0x0110 r noPart) :=
  ⟨⟨{ wOne .run with
        m.stopOn := false }, .l1, wReq 0x0101 [2], takes_of (.hiolo 1) [2] wEntry rfl ⟨rfl, rfl⟩ (by decide +kernel) rfl rfl rfl rfl, by decide +kernel⟩,
   ⟨wOne .service, .l1, wReq 0x0101 [2], takes_of (.hiolo 1) [2] wEntry rfl ⟨rfl, rfl⟩ (by decide +kernel) rfl rfl rfl rfl, by decide +kernel⟩,
   ⟨{ wOne .ready with
        l1.stampBad := false
        l1.par.defaults := false }, .l1, wReq 0x0101 [3], takes_of (.hiolo 1) [3] wEntry rfl ⟨rfl, rfl⟩ (by decide +kernel) rfl rfl rfl rfl, by decide +kernel⟩,
   ⟨{ wAllS .limp with
        m.stopOn := false
        l1.sentA.accepted := true
        l1.sentA.okStatus := true
        l1.sentB.accepted := true
        l1.sentB.okStatus := true
        l2.sentA.accepted := true
        l2.sentA.okStatus := true
        l2.sentB.accepted := true
        l2.sentB.okStatus := true
        l3.sentA.accepted := true
        l3.sentA.okStatus := true
        l3.sentB.accepted := true
        l3.sentB.okStatus := true }, .l1, wReq 0x0101 [3], takes_of (.hiolo 1) [3] wEntry rfl ⟨rfl, rfl⟩ (by decide +kernel) rfl rfl rfl rfl, by decide +kernel⟩,
   ⟨wOne .ready, .l1, wReq 0x0101 [5], takes_of (.hiolo 1) [5] wEntry rfl ⟨rfl, rfl⟩ (by decide +kernel) rfl rfl rfl rfl, by decide +kernel⟩,
   ⟨{ wOne .ready with
        l1.ena.filt := false }, .l1, wReq 0x0101 [0], takes_of (.hiolo 1) [0] wEntry rfl ⟨rfl, rfl⟩ (by decide +kernel) rfl rfl rfl rfl, by decide +kernel⟩,
   ⟨wOne .run, .l1, wReq 0x0102 [], takes_of (.hiolo 1) [] wEntry rfl ⟨rfl, rfl⟩ (by decide +kernel) rfl rfl rfl rfl⟩,
   ⟨wOne .run, .l1, wReq 0x0110 [], takes_of (.hiolo 1) [] wEntry rfl ⟨rfl, rfl⟩ (by decide +kernel) rfl rfl rfl rfl⟩⟩

/-- Hypotheses of MotionCommandsComplete, clause by clause. -/
theorem witness_MotionCommandsComplete :
    (∃ (s : State) (n : Lane) (r : Req), s.Takes n 0x0201 r (holdMotion chkSteerAngle) ∧ let p := s.met 0x0201 r (holdMotion chkSteerAngle); let c := p.callAt n 0x0201 r; chkSteerAngle p n c = none) ∧
    (∃ (s : State) (n : Lane) (r : Req), s.Takes n 0x0202 r (holdMotion chkSteerTorque) ∧ let p := s.met 0x0202 r (holdMotion chkSteerTorque); let c := p.callAt n 0x0202 r; chkSteerTorque p n c = none) ∧
    (∃ (s : State) (n : Lane) (r : Req), s.Takes n 0x0203 r (holdMotion chkSteerMoveAt) ∧ let p := s.met 0x0203 r (holdMotion chkSteerMoveAt); let c := p.callAt n 0x0203 r; chkSteerMoveAt p n c = none) ∧
    (∃ (s : State) (n : Lane) (r : Req), s.Takes n 0x0204 r (holdMotion chkSteerHold) ∧ let p := s.met 0x0204 r (holdMotion chkSteerHold); let c := p.callAt n 0x0204 r; chkSteerHold p n c = none) ∧
    (∃ (s : State) (n : Lane) (r : Req), s.Takes n 0x0301 r (holdMotion chkBrakeForce) ∧ let p := s.met 0x0301 r (holdMotion chkBrakeForce); let c := p.callAt n 0x0301 r; chkBrakeForce p n c = none) ∧
    (∃ (s : State) (n : Lane) (r : Req), s.Takes n 0x0302 r (holdMotion chkBrakePosition) ∧ let p := s.met 0x0302 r (holdMotion chkBrakePosition); let c := p.callAt n 0x0302 r; chkBrakePosition p n c = none) ∧
    (∃ (s : State) (n : Lane) (r : Req), s.Takes n 0x0303 r (holdMotion chkBrakeRelease) ∧ let p := s.met 0x0303 r (holdMotion chkBrakeRelease); let c := p.callAt n 0x0303 r; chkBrakeRelease p n c = none) ∧
    (∃ (s : State) (n : Lane) (r : Req), s.Takes n 0x0304 (r.withByte 0 0) (holdMotion chkBrakePark) ∧ let p := s.met 0x0304 (r.withByte 0 0) (holdMotion chkBrakePark); let c := p.callAt n 0x0304 (r.withByte 0 0); chkBrakePark p n c = none) ∧
    (∃ (s : State) (n : Lane) (r : Req), s.Takes n 0x0304 (r.withByte 0 1) (holdMotion chkBrakePark) ∧ let p := s.met 0x0304 (r.withByte 0 1) (holdMotion chkBrakePark); let c := p.callAt n 0x0304 (r.withByte 0 1); chkBrakePark p n c = none) ∧
    (∃ (s : State) (n : Lane) (r : Req), s.Takes n 0x0401 r (holdMotion chkProfileLimits) ∧ let p := s.met 0x0401 r (holdMotion chkProfileLimits); let c := p.callAt n 0x0401 r; chkProfileLimits p n c = none) ∧
    (∃ (s : State) (n : Lane) (r : Req), s.Takes n 0x0402 r (holdMotion chkVectorMove) ∧ let p := s.met 0x0402 r (holdMotion chkVectorMove); let c := p.callAt n 0x0402 r; chkVectorMove p n c = none) :=
  ⟨⟨wOne .run, .l1, wReq 0x0201 [], takes_of (.hiolo 1) [] wEntry rfl ⟨rfl, rfl⟩ (by decide +kernel) rfl rfl rfl rfl, by decide +kernel⟩,
   ⟨wOne .run, .l1, wReq 0x0202 [], takes_of (.hiolo 1) [] wEntry rfl ⟨rfl, rfl⟩ (by decide +kernel) rfl rfl rfl rfl, by decide +kernel⟩,
   ⟨{ wOne .run with
        l1.time.synced := true }, .l1, wReq 0x0203 (List.replicate 8 0 ++ beBytes 8 2000), takes_of (.hiolo 1) (List.replicate 8 0 ++ beBytes 8 2000) wEntry rfl ⟨rfl, rfl⟩ (by decide +kernel) rfl rfl rfl rfl, by decide +kernel⟩,
   ⟨wOne .run, .l1, wReq 0x0204 [], takes_of (.hiolo 1) [] wEntry rfl ⟨rfl, rfl⟩ (by decide +kernel) rfl rfl rfl rfl, by decide +kernel⟩,
   ⟨wOne .run, .l1, wReq 0x0301 [], takes_of (.hiolo 1) [] wEntry rfl ⟨rfl, rfl⟩ (by decide +kernel) rfl rfl rfl rfl, by decide +kernel⟩,
   ⟨{ wAllS .run with
        l1.quad.valid := true
        l2.quad.valid := true
        l1.cal.kiss := some 0 }, .l1, wReq 0x0302 [], takes_of (.hiolo 1) [] wEntry rfl ⟨rfl, rfl⟩ (by decide +kernel) rfl rfl rfl rfl, by decide +kernel⟩,
   ⟨wOne .run, .l1, wReq 0x0303 [], takes_of (.hiolo 1) [] wEntry rfl ⟨rfl, rfl⟩ (by decide +kernel) rfl rfl rfl rfl, by decide +kernel⟩,
   ⟨wOne .run, .l1, wReq 0x0304 [0], takes_of (.hiolo 1) [0] wEntry rfl ⟨rfl, rfl⟩ (by decide +kernel) rfl rfl rfl rfl, by decide +kernel⟩,
   ⟨wOne .run, .l1, wReq 0x0304 [1], takes_of (.hiolo 1) [1] wEntry rfl ⟨rfl, rfl⟩ (by decide +kernel) rfl rfl rfl rfl, by decide +kernel⟩,
   ⟨wOne .run, .l1, wReq 0x0401 [], takes_of (.hiolo 1) [] wEntry rfl ⟨rfl, rfl⟩ (by decide +kernel) rfl rfl rfl rfl, by decide +kernel⟩,
   ⟨{ wOne .run with
        l1.time.synced := true }, .l1, wReq 0x0402 (List.replicate 12 0 ++ beBytes 8 2000), takes_of (.hiolo 1) (List.replicate 12 0 ++ beBytes 8 2000) wEntry rfl ⟨rfl, rfl⟩ (by decide +kernel) rfl rfl rfl rfl, by decide +kernel⟩⟩

/-- Hypotheses of ParamCommandsComplete, clause by clause. -/
theorem witness_ParamCommandsComplete :
    (∃ (s : State) (n : Lane) (r : Req) (row : ParamRow), s.Takes n 0x0501 (r.withByte 0 0) noPart ∧ let p := s.met 0x0501 (r.withByte 0 0) noPart; let c := p.callAt n 0x0501 (r.withByte 0 0); paramRow (BitVec.ofNat 16 (rd c.p 2 2)) = some row) ∧
    (∃ (s : State) (n : Lane) (r : Req) (b : List Byte), s.Takes n 0x0501 (r.withByte 0 1) noPart ∧ let p := s.met 0x0501 (r.withByte 0 1) noPart; let c := p.callAt n 0x0501 (r.withByte 0 1); let q := p.readBytes n (rd c.p 4 4) (min (rd c.p 2 2) (p.maxData n c.r.carriage - 4)); 1 ≤ rd c.p 2 2 ∧ rd c.p 2 2 ≤ 1024 ∧ (∀ i < rd c.p 2 2, mapped (rd c.p 4 4 + i) = true ∧ inKeyStore (rd c.p 4 4 + i) = false) ∧ p.serviceStopped = false ∧ q.2 = some b) ∧
    (∃ (s : State) (n : Lane) (r : Req), s.Takes n 0x0504 r noPart ∧ let p := s.met 0x0504 r noPart; let c := p.callAt n 0x0504 r; p.pieceOk n c (rd c.p 0 2) (p.lane n).imageInfo = true) ∧
    (∃ (s : State) (n : Lane) (r : Req), s.Takes n 0x0502 r noPart ∧ let p := s.met 0x0502 r noPart; let c := p.callAt n 0x0502 r; 1 ≤ rd c.p 0 1 ∧ rd c.p 0 1 ≤ 32 ∧ checkPairs p.m.mode c.expert [] (pairsOf c.p) = none) ∧
    (∃ (s : State) (n : Lane) (r : Req), s.Takes n 0x0503 r noPart ∧ let p := s.met 0x0503 r noPart; brokenRule (p.lane n).par = none ∧ p.m.commitDue = none) ∧
    (∃ (s : State) (r : Req) (t : Nat), (s.at_ t).m.commitDue = some r) :=
  ⟨⟨wOne .run, .l1, wReq 0x0501 [0, 0, 0x50, 0x13], ⟨0x5013, true, 1, 254, [], 1, 1, .boot⟩, takes_of (.hiolo 1) [0, 0, 0x50, 0x13] wEntry rfl ⟨rfl, rfl⟩ (by decide +kernel) rfl rfl rfl rfl, by decide +kernel⟩,
   ⟨wOne .service, .l1, wReq 0x0501 [1, 0, 0, 1], [0], takes_of (.hiolo 1) [1, 0, 0, 1] wEntry rfl ⟨rfl, rfl⟩ (by decide +kernel) rfl rfl rfl rfl, by decide +kernel⟩,
   ⟨wOne .run, .l1, wReq 0x0504 [], takes_of (.hiolo 1) [] wEntry rfl ⟨rfl, rfl⟩ (by decide +kernel) rfl rfl rfl rfl, by decide +kernel⟩,
   ⟨wOne .run, .l1, wReq 0x0502 ([1, 0, 0, 0, 0x10, 0x21, 0, 0] ++ beBytes 8 600), takes_of (.hiolo 1) ([1, 0, 0, 0, 0x10, 0x21, 0, 0] ++ beBytes 8 600) wEntry rfl ⟨rfl, rfl⟩ (by decide +kernel) rfl rfl rfl rfl, by decide +kernel⟩,
   ⟨{ wOne .run with
        m.commitDue := none }, .l1, wReq 0x0503 [], takes_of (.hiolo 1) [] wEntry rfl ⟨rfl, rfl⟩ (by decide +kernel) rfl rfl rfl rfl, by decide +kernel⟩,
   ⟨{ wAll .run with
        m.commitDue := some (r0) }, r0, 1000000000000000, by decide +kernel⟩⟩

/-- Hypotheses of MeasureRequestsComplete, clause by clause. -/
theorem witness_MeasureRequestsComplete :
    (∃ (s : State) (n : Lane) (r : Req) (xs : List Axis), s.Takes n 0x0601 (r.withByte 0 0) noPart ∧ let p := s.met 0x0601 (r.withByte 0 0) noPart; let c := p.callAt n 0x0601 (r.withByte 0 0); loadSets n (rd c.p 1 1) = some xs ∧ p.seesPermitted n n = true ∧ (∀ x ∈ xs, p.moving n x = false ∧ (p.lane n).setBad x = false) ∧ p.serviceStopped = false ∧ p.occupied = false ∧ p.m.runEntry = 0) ∧
    (∃ (s : State) (n : Lane) (r : Req) (xs : List Axis), s.Takes n 0x0601 (r.withByte 0 1) noPart ∧ let p := s.met 0x0601 (r.withByte 0 1) noPart; let c := p.callAt n 0x0601 (r.withByte 0 1); loadSets n (rd c.p 1 1) = some xs ∧ p.serviceStopped = false) ∧
    (∃ (s : State) (n : Lane) (r : Req), s.Takes n 0x0602 (r.withByte 0 0) noPart ∧ let p := s.met 0x0602 (r.withByte 0 0) noPart; let c := p.callAt n 0x0602 (r.withByte 0 0); let ch : Chan := if rd c.p 1 1 = 0 then .x else .y; rd c.p 1 1 ≤ 1 ∧ p.serviceStopped = false ∧ ((p.lane n).net.chan ch.other).state = 3 ∧ p.meas.cableOn = false) ∧
    (∃ (s : State) (n : Lane) (r : Req), s.Takes n 0x0602 (r.withByte 0 1) noPart ∧ let p := s.met 0x0602 (r.withByte 0 1) noPart; let c := p.callAt n 0x0602 (r.withByte 0 1); rd c.p 1 1 ≤ 1 ∧ p.serviceStopped = false) ∧
    (∃ (s : State) (n : Lane) (r : Req), s.Takes n 0x0603 r noPart ∧ let p := s.met 0x0603 r noPart; let c := p.callAt n 0x0603 r; p.pieceOk n c (rd c.p 0 2) ((allLanes.map (p.supplyBytes n)).flatten) = true) :=
  ⟨⟨{ wOne .service with
        m.runEntry := 0 }, .l1, wReq 0x0601 [0, 0x13], [.s], takes_of (.hiolo 1) [0, 0x13] wEntry rfl ⟨rfl, rfl⟩ (by decide +kernel) rfl rfl rfl rfl, by decide +kernel⟩,
   ⟨wOne .service, .l1, wReq 0x0601 [1, 0x13], [.s], takes_of (.hiolo 1) [1, 0x13] wEntry rfl ⟨rfl, rfl⟩ (by decide +kernel) rfl rfl rfl rfl, by decide +kernel⟩,
   ⟨{ wOne .service with
        meas.cableOn := false }, .l1, wReq 0x0602 [0, 1], takes_of (.hiolo 1) [0, 1] wEntry rfl ⟨rfl, rfl⟩ (by decide +kernel) rfl rfl rfl rfl, by decide +kernel⟩,
   ⟨wOne .service, .l1, wReq 0x0602 [1, 1], takes_of (.hiolo 1) [1, 1] wEntry rfl ⟨rfl, rfl⟩ (by decide +kernel) rfl rfl rfl rfl, by decide +kernel⟩,
   ⟨wOne .run, .l1, wReq 0x0603 [], takes_of (.hiolo 1) [] wEntry rfl ⟨rfl, rfl⟩ (by decide +kernel) rfl rfl rfl rfl, by decide +kernel⟩⟩

/-- Hypotheses of RecordAndSelftestRequestsComplete, clause by clause. -/
theorem witness_RecordAndSelftestRequestsComplete :
    (∃ (s : State) (n : Lane) (r : Req), s.Takes n 0x0604 r peerCapsExchange ∧ let p := s.met 0x0604 r peerCapsExchange; let c := p.callAt n 0x0604 r; let g := capsAgreed c.p; g.1 ≠ 0) ∧
    (∃ (s : State) (n : Lane) (r : Req) (b : List Byte), s.Takes n 0x0703 r noPart ∧ let p := s.met 0x0703 r noPart; let c := p.callAt n 0x0703 r; p.healthOf n (rd c.p 0 2) = some b ∧ p.pieceOk n c (if ver 3 1 ≤ c.ver then rd c.p 2 2 else 0) b = true) ∧
    (∃ (s : State) (n : Lane) (r : Req), s.Takes n 0x0A01 r noPart ∧ let p := s.met 0x0A01 r noPart; let c := p.callAt n 0x0A01 r; p.pieceOk n c (rd c.p 0 2) (p.timeRecord n) = true) ∧
    (∃ (s : State) (n : Lane) (r : Req), s.Takes n 0x0702 r noPart ∧ let p := s.met 0x0702 r noPart; let c := p.callAt n 0x0702 r; p.pieceOk n c (rd c.p 0 2) (p.testRecord n) = true) ∧
    (∃ (s : State) (n : Lane) (r : Req), s.Takes n 0x0701 r noPart ∧ let p := s.met 0x0701 r noPart; let c := p.callAt n 0x0701 r; let k : Half := BitVec.ofNat 16 (rd c.p 0 2); k &&& 0x3F ≠ 0 ∧ p.serviceStopped = false ∧ p.meas.testOn = false) ∧
    (∃ (s : State) (n : Lane) (r : Req) (b : List Byte), s.Takes n 0x0B01 r noPart ∧ let p := s.met 0x0B01 r noPart; let c := p.callAt n 0x0B01 r; let k := (((p.lane n).log.drop (rd c.p 0 2)).take (min (rd c.p 2 2) ((p.maxData n r.carriage - 4) / 32))).length; let q := p.readEntries n (rd c.p 0 2) k; 1 ≤ rd c.p 2 2 ∧ rd c.p 2 2 ≤ 32 ∧ rd c.p 0 2 < (p.lane n).log.length ∧ p.serviceStopped = false ∧ 0 < (p.maxData n r.carriage - 4) / 32 ∧ q.2 = some b) ∧
    (∃ (s : State) (n : Lane) (r : Req), s.Takes n 0x0B02 r noPart ∧ let p := s.met 0x0B02 r noPart; let c := p.callAt n 0x0B02 r; let k : Byte := BitVec.ofNat 8 (rd c.p 0 1); k &&& 7 ≠ 0) :=
  ⟨⟨wOne .run, .l1, wReq 0x0604 ([0, 0] ++ beBytes 2 (ver 1 0) ++ beBytes 2 (ver 1 2) ++ beBytes 2 (ver 2 0) ++ beBytes 2 (ver 3 1)), takes_of (.hiolo 1) ([0, 0] ++ beBytes 2 (ver 1 0) ++ beBytes 2 (ver 1 2) ++ beBytes 2 (ver 2 0) ++ beBytes 2 (ver 3 1)) wEntry rfl ⟨rfl, rfl⟩ (by decide +kernel) rfl rfl rfl rfl, by decide +kernel⟩,
   ⟨wOne .run, .l1, wReq 0x0703 [], ((wOne .run).at_ 1000).healthRecord .l1, takes_of (.hiolo 1) [] wEntry rfl ⟨rfl, rfl⟩ (by decide +kernel) rfl rfl rfl rfl, by decide +kernel⟩,
   ⟨wOne .run, .l1, wReq 0x0A01 [], takes_of (.hiolo 1) [] wEntry rfl ⟨rfl, rfl⟩ (by decide +kernel) rfl rfl rfl rfl, by decide +kernel⟩,
   ⟨wOne .run, .l1, wReq 0x0702 [], takes_of (.hiolo 1) [] wEntry rfl ⟨rfl, rfl⟩ (by decide +kernel) rfl rfl rfl rfl, by decide +kernel⟩,
   ⟨{ wOne .service with
        meas.testOn := false }, .l1, wReq 0x0701 [0, 1], takes_of (.hiolo 1) [0, 1] wEntry rfl ⟨rfl, rfl⟩ (by decide +kernel) rfl rfl rfl rfl, by decide +kernel⟩,
   ⟨{ wOne .ready with
        l1.sec.sessions := [{ wEntry with binding := 0x20 }]
        l1.log := [{}] }, .l1, wReqOn .host 0x0B01 [0, 0, 0, 1], ({} : LogEntry).bytes, takes_of .host [0, 0, 0, 1] { wEntry with binding := 0x20 } rfl ⟨rfl, rfl⟩ (by decide +kernel) rfl rfl rfl rfl, by decide +kernel⟩,
   ⟨wOne .service, .l1, wReq 0x0B02 [1], takes_of (.hiolo 1) [1] wEntry rfl ⟨rfl, rfl⟩ (by decide +kernel) rfl rfl rfl rfl, by decide +kernel⟩⟩

/-- Hypotheses of SessionAndKeyRequestsComplete, clause by clause. -/
theorem witness_SessionAndKeyRequestsComplete :
    (∃ (s : State) (n : Lane) (r : Req), s.Takes n 0x0802 r noPart ∧ let p := s.met 0x0802 r noPart; let c := p.callAt n 0x0802 r; let k := (p.lane n).sec.slot (rd c.p 1 1); rd c.p 0 1 ≤ 1 ∧ rd c.p 1 1 ≤ 7 ∧ k.filled = true ∧ (rd c.p 0 1 = 1 → k.expert = true) ∧ k.mask.getLsbD (if r.carriage = .host then 1 else 0) = true ∧ (p.lane n).sec.sessions.length < 4 ∧ (rd c.p 0 1 = 1 → (p.lane n).sec.sessions.any (·.expert) = false)) ∧
    (∃ (s : State) (n : Lane) (r : Req), s.Takes n 0x0803 r noPart ∧ let p := s.met 0x0803 r noPart; let c := p.callAt n 0x0803 r; let k : Half := if rd c.p 0 2 = 0 then r.session else BitVec.ofNat 16 (rd c.p 0 2); (k = r.session ∨ c.expert = true) ∧ (p.lane n).sec.session k ≠ none) ∧
    (∃ (s : State) (n : Lane) (r : Req), s.Takes n 0x0801 r noPart ∧ let p := s.met 0x0801 r noPart; let c := p.callAt n 0x0801 r; (p.lane n).sec.idBad = false ∧ rd c.p 32 2 = 0 ∧ (∀ a, (p.lane n).sec.attestAt = some a → a + ms 100 ≤ p.now)) ∧
    (∃ (s : State) (n : Lane) (r : Req), s.Takes n 0x0801 r noPart ∧ let p := s.met 0x0801 r noPart; let c := p.callAt n 0x0801 r; (p.lane n).sec.idBad = false ∧ rd c.p 32 2 ≠ 0 ∧ p.pieceOk n c (rd c.p 32 2) (p.lane n).sec.attest = true) ∧
    (∃ (s : State) (n : Lane) (r : Req) (x : Xfer), s.Takes n 0x0804 r noPart ∧ let p := s.met 0x0804 r noPart; let c := p.callAt n 0x0804 r; rd c.p 4 4 ≤ 16384 ∧ 1 ≤ rd c.p 8 2 ∧ rd c.p 8 2 ≤ 1024 ∧ segStep p.m.keyX (some (rd c.p 4 4)) (rd c.p 0 4) ((c.p.drop 12).take (rd c.p 8 2)) = .go x ∧ x.got.length < x.total) :=
  ⟨⟨{ wOne .run with
        l1.sec.slots := [{ filled := true, expert := true, mask := 3 }] }, .l1, wReq 0x0802 [], takes_of (.hiolo 1) [] wEntry rfl ⟨rfl, rfl⟩ (by decide +kernel) rfl rfl rfl rfl, by decide +kernel⟩,
   ⟨wOne .run, .l1, wReq 0x0803 [], takes_of (.hiolo 1) [] wEntry rfl ⟨rfl, rfl⟩ (by decide +kernel) rfl rfl rfl rfl, by decide +kernel⟩,
   ⟨{ wOne .run with
        l1.sec.idBad := false }, .l1, wReq 0x0801 [], takes_of (.hiolo 1) [] wEntry rfl ⟨rfl, rfl⟩ (by decide +kernel) rfl rfl rfl rfl, by decide +kernel⟩,
   ⟨{ wOne .run with
        l1.sec.idBad := false
        l1.sec.snaps := [(1, 0x0801, 0, [0, 0])] }, .l1, wReq 0x0801 (List.replicate 32 0 ++ [0, 1]), takes_of (.hiolo 1) (List.replicate 32 0 ++ [0, 1]) wEntry rfl ⟨rfl, rfl⟩ (by decide +kernel) rfl rfl rfl rfl, by decide +kernel⟩,
   ⟨wOne .service, .l1, wReq 0x0804 (beBytes 4 0 ++ beBytes 4 2 ++ [0, 1, 0, 0, 0xAA]), { total := 2, lastOff := some 0, got := [0xAA] }, takes_of (.hiolo 1) (beBytes 4 0 ++ beBytes 4 2 ++ [0, 1, 0, 0, 0xAA]) wEntry rfl ⟨rfl, rfl⟩ (by decide +kernel) rfl rfl rfl rfl, by decide +kernel⟩⟩

/-- Hypotheses of FirmwareRequestsComplete, clause by clause. -/
theorem witness_FirmwareRequestsComplete :
    (∃ (s : State) (n : Lane) (r : Req), s.Takes n 0x0901 r noPart ∧ let p := s.met 0x0901 r noPart; let c := p.callAt n 0x0901 r; (rd c.p 0 1 = 1 ∨ rd c.p 0 1 = 2) ∧ rd c.p 4 4 ≤ pkgMax (rd c.p 0 1) ∧ (rd c.p 0 1 = 1 → ∀ m ∈ p.actives, (p.lane m).bankBad = false)) ∧
    (∃ (s : State) (n : Lane) (r : Req) (x : Xfer) (y : Xfer), s.Takes n 0x0902 r noPart ∧ let p := s.met 0x0902 r noPart; let c := p.callAt n 0x0902 r; let data := (c.p.drop 8).take (rd c.p 4 2); (p.lane n).sec.fw = some x ∧ 1 ≤ rd c.p 4 2 ∧ rd c.p 4 2 ≤ 1024 ∧ rd c.p 0 4 + rd c.p 4 2 ≤ x.total ∧ segStep (some x) none (rd c.p 0 4) data = .go y ∧ p.serviceStopped = false) ∧
    (∃ (s : State) (n : Lane) (r : Req) (x : Xfer), s.Takes n 0x0902 r noPart ∧ let p := s.met 0x0902 r noPart; let c := p.callAt n 0x0902 r; let data := (c.p.drop 8).take (rd c.p 4 2); (p.lane n).sec.fw = some x ∧ 1 ≤ rd c.p 4 2 ∧ rd c.p 4 2 ≤ 1024 ∧ rd c.p 0 4 + rd c.p 4 2 ≤ x.total ∧ segStep (some x) none (rd c.p 0 4) data = .again ∧ p.serviceStopped = false) ∧
    (∃ (s : State) (n : Lane) (r : Req) (x : Xfer), s.Takes n 0x0903 (r.withByte 0 0) noPart ∧ let p := s.met 0x0903 (r.withByte 0 0) noPart; (p.lane n).sec.fw = some x ∧ x.total ≤ x.got.length ∧ p.m.fwState ≠ 1) ∧
    (∃ (s : State) (n : Lane) (r : Req), s.Takes n 0x0903 (r.withByte 0 1) noPart ∧ let p := s.met 0x0903 (r.withByte 0 1) noPart; p.m.fwState ≠ 3) ∧
    (∃ (s : State) (n : Lane) (r : Req), s.Takes n 0x0904 r noPart ∧ let p := s.met 0x0904 r noPart; p.m.fwState = 2) :=
  ⟨⟨wOne .service, .l1, wReq 0x0901 [1, 0, 0, 0, 0, 0x38, 0, 0], takes_of (.hiolo 1) [1, 0, 0, 0, 0, 0x38, 0, 0] wEntry rfl ⟨rfl, rfl⟩ (by decide +kernel) rfl rfl rfl rfl, by decide +kernel⟩,
   ⟨{ wOne .service with
        l1.sec.fw := some { total := 2 } }, .l1, wReq 0x0902 (beBytes 4 0 ++ [0, 1, 0, 0, 0xAA]), { total := 2 }, { total := 2, lastOff := some 0, got := [0xAA] }, takes_of (.hiolo 1) (beBytes 4 0 ++ [0, 1, 0, 0, 0xAA]) wEntry rfl ⟨rfl, rfl⟩ (by decide +kernel) rfl rfl rfl rfl, by decide +kernel⟩,
   ⟨{ wOne .service with
        l1.sec.fw := some { total := 2, lastOff := some 0, got := [0xAA] } }, .l1, wReq 0x0902 (beBytes 4 0 ++ [0, 1, 0, 0, 0xAA]), { total := 2, lastOff := some 0, got := [0xAA] }, takes_of (.hiolo 1) (beBytes 4 0 ++ [0, 1, 0, 0, 0xAA]) wEntry rfl ⟨rfl, rfl⟩ (by decide +kernel) rfl rfl rfl rfl, by decide +kernel⟩,
   ⟨{ wOne .service with
        l1.sec.fw := some { total := 2, lastOff := some 0, got := [0xAA, 0xBB] } }, .l1, wReq 0x0903 [0], { total := 2, lastOff := some 0, got := [0xAA, 0xBB] }, takes_of (.hiolo 1) [0] wEntry rfl ⟨rfl, rfl⟩ (by decide +kernel) rfl rfl rfl rfl, by decide +kernel⟩,
   ⟨wOne .service, .l1, wReq 0x0903 [1], takes_of (.hiolo 1) [1] wEntry rfl ⟨rfl, rfl⟩ (by decide +kernel) rfl rfl rfl rfl, by decide +kernel⟩,
   ⟨{ wOne .service with
        m.fwState := 2 }, .l1, wReq 0x0904 [], takes_of (.hiolo 1) [] wEntry rfl ⟨rfl, rfl⟩ (by decide +kernel) rfl rfl rfl rfl, by decide +kernel⟩⟩

/-- Hypotheses of ScheduleLoadCompletes, clause by clause. -/
theorem witness_ScheduleLoadCompletes :
    (∃ (s : State) (n : Lane) (r : Req), s.Takes n 0x0A02 r noPart ∧ let p := s.met 0x0A02 r noPart; let c := p.callAt n 0x0A02 r; rd c.p 4 4 ≤ 8192 ∧ 1 ≤ rd c.p 8 2 ∧ rd c.p 8 2 ≤ 1024 ∧ segStep p.m.almX (some (rd c.p 4 4)) (rd c.p 0 4) ((c.p.drop 12).take (rd c.p 8 2)) = .again) ∧
    (∃ (s : State) (n : Lane) (r : Req) (x : Xfer), s.Takes n 0x0A02 r noPart ∧ let p := s.met 0x0A02 r noPart; let c := p.callAt n 0x0A02 r; rd c.p 4 4 ≤ 8192 ∧ 1 ≤ rd c.p 8 2 ∧ rd c.p 8 2 ≤ 1024 ∧ segStep p.m.almX (some (rd c.p 4 4)) (rd c.p 0 4) ((c.p.drop 12).take (rd c.p 8 2)) = .go x ∧ x.got.length < x.total) :=
  ⟨⟨{ wOne .run with
        m.almX := some { total := 3, lastOff := some 1, got := [0xAA, 0xAA] } }, .l1, wReq 0x0A02 (beBytes 4 1 ++ beBytes 4 3 ++ [0, 1, 0, 0, 0xAA]), takes_of (.hiolo 1) (beBytes 4 1 ++ beBytes 4 3 ++ [0, 1, 0, 0, 0xAA]) wEntry rfl ⟨rfl, rfl⟩ (by decide +kernel) rfl rfl rfl rfl, by decide +kernel⟩,
   ⟨wOne .run, .l1, wReq 0x0A02 (beBytes 4 0 ++ beBytes 4 2 ++ [0, 1, 0, 0, 0xAA]), { total := 2, lastOff := some 0, got := [0xAA] }, takes_of (.hiolo 1) (beBytes 4 0 ++ beBytes 4 2 ++ [0, 1, 0, 0, 0xAA]) wEntry rfl ⟨rfl, rfl⟩ (by decide +kernel) rfl rfl rfl rfl, by decide +kernel⟩⟩

/-- Hypotheses of HomingCommandsComplete, clause by clause. -/
theorem witness_HomingCommandsComplete :
    (∃ (s : State) (n : Lane) (r : Req), s.Takes n 0x0C01 (r.withByte 0 ((BitVec.ofNat 8 (rd r.params 0 1)) &&& 0x7F)) (holdMotion chkHomingStart) ∧ let p := s.met 0x0C01 (r.withByte 0 ((BitVec.ofNat 8 (rd r.params 0 1)) &&& 0x7F)) (holdMotion chkHomingStart); let c := p.callAt n 0x0C01 (r.withByte 0 ((BitVec.ofNat 8 (rd r.params 0 1)) &&& 0x7F)); let b := rd c.p 0 1; let axes := (if b % 2 = 1 then [Axis.s] else []) ++ (if b / 2 % 2 = 1 then [Axis.b] else []); axes ≠ [] ∧ p.somePermitted n = true ∧ p.m.stopOn = false ∧ (p.m.mode = .run → ∀ x ∈ axes, p.homingMoves n x = false) ∧ (p.lane n).par.defaults = false ∧ p.m.holdOnly = false ∧ (p.lane p.scribe).mapBit 3 = false ∧ (∀ x ∈ axes, p.usableCount n x ≠ 0) ∧ p.occupied = false ∧ p.m.pend = p.m.mode ∧ p.m.runEntry = 0 ∧ p.twinFollows = false) ∧
    (∃ (s : State) (n : Lane) (r : Req), s.Takes n 0x0C01 (r.withByte 0 ((BitVec.ofNat 8 (rd r.params 0 1)) ||| 0x80)) (holdMotion chkHomingStart) ∧ let p := s.met 0x0C01 (r.withByte 0 ((BitVec.ofNat 8 (rd r.params 0 1)) ||| 0x80)) (holdMotion chkHomingStart); let c := p.callAt n 0x0C01 (r.withByte 0 ((BitVec.ofNat 8 (rd r.params 0 1)) ||| 0x80)); let b := rd c.p 0 1; (b % 2 = 1 ∨ b / 2 % 2 = 1) ∧ (p.lane p.scribe).mapBit 3 = false) ∧
    (∃ (s : State) (n : Lane) (r : Req), s.Takes n 0x0C02 r noPart ∧ let p := s.met 0x0C02 r noPart; let c := p.callAt n 0x0C02 r; p.pieceOk n c (rd c.p 0 2) (p.homingRecord n) = true) ∧
    (∃ (s : State) (n : Lane) (r : Req) (m : Lane), s.Takes n 0x0C03 r (holdMotion chkCompareSet) ∧ let p := s.met 0x0C03 r (holdMotion chkCompareSet); let c := p.callAt n 0x0C03 r; Lane.ofCode? (BitVec.ofNat 8 (rd c.p 0 1)) = some m ∧ compareFieldsOk c.p = true ∧ firstErr (p.motionTests n c.opAddr [] false false false false) = none ∧ (p.lane m).state = .active ∧ (p.lane m).mapBit 12 = false) :=
  ⟨⟨{ wOne .run with
        m.stopOn := false
        l1.par.defaults := false
        m.holdOnly := false
        m.runEntry := 0 }, .l1, wReq 0x0C01 [1], takes_of (.hiolo 1) [1] wEntry rfl ⟨rfl, rfl⟩ (by decide +kernel) rfl rfl rfl rfl, by decide +kernel⟩,
   ⟨wOne .run, .l1, wReq 0x0C01 [0x81], takes_of (.hiolo 1) [0x81] wEntry rfl ⟨rfl, rfl⟩ (by decide +kernel) rfl rfl rfl rfl, by decide +kernel⟩,
   ⟨wOne .run, .l1, wReq 0x0C02 [], takes_of (.hiolo 1) [] wEntry rfl ⟨rfl, rfl⟩ (by decide +kernel) rfl rfl rfl rfl, by decide +kernel⟩,
   ⟨{ wOne .run with
        l1.state := .active }, .l1, wReq 0x0C03 [0x1F], .l1, takes_of (.hiolo 1) [0x1F] wEntry rfl ⟨rfl, rfl⟩ (by decide +kernel) rfl rfl rfl rfl, by decide +kernel⟩⟩

/-- Hypotheses of ArbitrationCommandsComplete, clause by clause. -/
theorem witness_ArbitrationCommandsComplete :
    (∃ (s : State) (n : Lane) (r : Req), s.Takes n 0x0D01 r peerArbitrate ∧ let p := s.met 0x0D01 r peerArbitrate; let c := p.callAt n 0x0D01 r; let id : Byte := BitVec.ofNat 8 (rd c.p 0 1); let v : Byte := BitVec.ofNat 8 (rd c.p 1 1); (p.openFor n id).isSome = true ∧ v ≠ 0 ∧ v.toNat ≤ 3) ∧
    (∃ (s : State) (n : Lane) (r : Req) (k : Lane), s.Takes n 0x0D02 r peerQuench ∧ let p := s.met 0x0D02 r peerQuench; let c := p.callAt n 0x0D02 r; Lane.ofCode? (BitVec.ofNat 8 (rd c.p 0 1)) = some k) ∧
    (∃ (s : State) (n : Lane) (r : Req) (t : Nat) (a : Nat) (k : Lane) (rest : List (Lane × Nat × Req)), (s.at_ t).m.quenchOf = (k, a, r) :: rest ∧ a + ms 5 ≤ t ∧ (s.at_ t).leader = some n ∧ (s.at_ t).sees n k ≠ .quenched) ∧
    (∃ (s : State) (n : Lane) (r : Req) (k : Lane), s.Takes n 0x0D03 r noPart ∧ let p := s.met 0x0D03 r noPart; let c := p.callAt n 0x0D03 r; Lane.ofCode? (BitVec.ofNat 8 (rd c.p 0 1)) = some k ∧ p.sees n k = .quenched) :=
  ⟨⟨{ wOne .run with
        l1.vote.disps := [{ id := 0x21 }] }, .l1, wReq 0x0D01 [0x21, 3], takes_of (.hiolo 1) [0x21, 3] wEntry rfl ⟨rfl, rfl⟩ (by decide +kernel) rfl rfl rfl rfl, by decide +kernel⟩,
   ⟨wOne .run, .l1, wReq 0x0D02 [0x2F], .l2, takes_of (.hiolo 1) [0x2F] wEntry rfl ⟨rfl, rfl⟩ (by decide +kernel) rfl rfl rfl rfl, by decide +kernel⟩,
   ⟨{ wAll .run with
        m.quenchOf := [(.l2, 0, r0)] }, .l1, r0, 5000000, 0, .l2, [], by decide +kernel⟩,
   ⟨{ wOne .service with
        l1.lo := wIn .quenched .none }, .l1, wReq 0x0D03 [0x2F], .l2, takes_of (.hiolo 1) [0x2F] wEntry rfl ⟨rfl, rfl⟩ (by decide +kernel) rfl rfl rfl rfl, by decide +kernel⟩⟩

/-- Hypotheses of EnableAndModeEventsComplete, clause by clause. -/
theorem witness_EnableAndModeEventsComplete :
    (∃ (s : State) (t : Nat) (n : Lane) (on : Bool) (held : Nat), let u := s.at_ t; (u.lane n).rst.inReset = false ∧ (u.lane n).state ≠ .off ∧ (u.lane n).state ≠ .active ∧ us 200 ≤ held ∧ (u.lane n).ena.filt ≠ on) ∧
    (∃ (s : State) (t : Nat) (n : Lane) (held : Nat), let u := s.at_ t; (u.lane n).rst.inReset = false ∧ (u.lane n).state = .active ∧ (u.m.mode = .run ∨ u.m.mode = .limp) ∧ us 200 ≤ held ∧ (u.lane n).ena.filt = false ∧ (u.lane n).ena.test = 1) ∧
    (∃ (s : State) (t : Nat) (n : Lane) (held : Nat), let u := s.at_ t; (u.lane n).rst.inReset = false ∧ (u.lane n).state = .active ∧ us 200 ≤ held ∧ (u.lane n).ena.filt = true) ∧
    (∃ (s : State) (t : Nat) (n : Lane), let u := s.at_ t; (u.lane n).state = .active ∧ (u.lane n).ena.test ≠ 2 ∧ (u.lane n).ena.timeoutLogged = false ∧ (u.lane n).activeAt + ms (100 * (u.lane n).codeN Key.enaTestTimeout) ≤ t) ∧
    (∃ (s : State) (t : Nat) (n : Lane), let u := s.at_ t; (u.m.mode = .run ∨ u.m.mode = .limp) ∧ u.inactiveLanes n = [n] ∧ 2 ≤ (u.passedLanes n).length ∧ (u.lane n).ena.withdrawn = false ∧ (u.lane n).ena.lowAt + ms ((u.lane n).codeN Key.enaDisagreeTime) ≤ t) ∧
    (∃ (s : State) (t : Nat) (a : Nat), let u := s.at_ t; (u.m.mode = .run ∨ u.m.mode = .limp) ∧ u.m.pend = .ready ∧ u.m.slowSince = some a ∧ a + ms 100 ≤ t) ∧
    (∃ (s : State) (t : Nat) (a : Nat), let u := s.at_ t; u.m.mode = .ready ∧ u.m.sleepAt = some a ∧ a + ms (1000 * (u.lane u.scribe).codeN Key.enaSleepDelay) ≤ t ∧ u.allEnaOff = true ∧ u.hom.axS = false ∧ u.hom.axB = false) ∧
    (∃ (s : State) (t : Nat), let u := s.at_ t; u.m.mode = .ready ∧ u.m.dormReq = true ∧ u.m.dormSent = true) ∧
    (∃ (s : State) (t : Nat), let u := s.at_ t; u.m.mode = .service ∧ u.m.svcAt + ms (60000 * (u.lane u.scribe).codeN Key.modeServiceTimeout) ≤ t) ∧
    (∃ (s : State) (t : Nat), let u := s.at_ t; (u.m.mode = .run ∨ u.m.mode = .limp) ∧ u.m.stale = false ∧ (u.lane u.scribe).codeN Key.locHoldCycles ≤ u.m.missed) ∧
    (∃ (s : State) (t : Nat), let u := s.at_ t; (u.m.mode = .run ∨ u.m.mode = .limp) ∧ u.m.loc = false ∧ u.m.freshAt + ms ((u.lane u.scribe).codeN Key.locTimeout) ≤ t) :=
  ⟨⟨{ wAll .run with
        l1.rst.inReset := false
        l1.state := .rejoining
        l1.ena.filt := false }, 1000000000000000, .l1, true, 200000, by decide +kernel⟩,
   ⟨{ wAll .run with
        l1.rst.inReset := false
        l1.state := .active
        m.mode := .run
        l1.ena.filt := false
        l1.ena.test := 1 }, 1000000000000000, .l1, 200000, by decide +kernel⟩,
   ⟨{ wAll .run with
        l1.rst.inReset := false
        l1.state := .active
        l1.ena.filt := true }, 1000000000000000, .l1, 200000, by decide +kernel⟩,
   ⟨{ wAll .run with
        l1.state := .active
        l1.ena.timeoutLogged := false
        l1.ena.test := 1 }, 1000000000000000, .l1, by decide +kernel⟩,
   ⟨{ wAll .run with
        m.mode := .run
        l1.ena.withdrawn := false
        l1.ena.filt := false
        l1.lo.ena := true
        l1.hi.ena := true }, 1000000000000000, .l1, by decide +kernel⟩,
   ⟨{ wAll .run with
        m.mode := .run
        m.pend := .ready
        m.slowSince := some (0) }, 1000000000000000, 0, by decide +kernel⟩,
   ⟨{ wAll .run with
        m.mode := .ready
        m.sleepAt := some (0)
        hom.axS := false
        hom.axB := false
        l1.ena.filt := false }, 1000000000000000, 0, by decide +kernel⟩,
   ⟨{ wAll .run with
        m.mode := .ready
        m.dormReq := true
        m.dormSent := true }, 1000000000000000, by decide +kernel⟩,
   ⟨{ wAll .run with
        m.mode := .service }, 1000000000000000, by decide +kernel⟩,
   ⟨{ wAll .run with
        m.mode := .run
        m.stale := false
        m.missed := 100000 }, 1000000000000000, by decide +kernel⟩,
   ⟨{ wAll .run with
        m.mode := .run
        m.loc := false }, 1000000000000000, by decide +kernel⟩⟩

/-- Hypotheses of SupplyEventsComplete, clause by clause. -/
theorem witness_SupplyEventsComplete :
    (∃ (s : State) (t : Nat) (n : Lane) (vsup : Nat) (link : Nat), let u := (s.at_ t).seeSupply n vsup link; (u.lane n).rst.inReset = false ∧ (u.lane n).state ≠ .off ∧ (u.lane n).sup.level ≠ 5) ∧
    (∃ (s : State) (t : Nat) (n : Lane) (vsup : Nat) (link : Nat), let u := (s.at_ t).seeSupply n vsup link; (u.lane n).rst.inReset = true) ∧
    (∃ (s : State) (t : Nat) (n : Lane) (vsup : Nat) (link : Nat) (held : Nat), let u := (s.at_ t).seeSupply n vsup link; (u.lane n).sup.armed = true ∧ (u.lane n).vote.caldera = false ∧ (u.lane n).rst.inReset = false ∧ (u.lane n).sup.eff < 14000 ∧ us 20 ≤ held) ∧
    (∃ (s : State) (t : Nat) (n : Lane) (vsup : Nat) (link : Nat) (held : Nat), let u := (s.at_ t).seeSupply n vsup link; let recent := (u.lane n).sup.restarts.filter (fun a => decide (t < a + ms 600000)); (u.lane n).vote.caldera = true ∧ (u.lane n).vote.supplyOnly = true ∧ u.voters n = [] ∧ 15000 ≤ (u.lane n).sup.eff ∧ ms ((u.lane n).codeN Key.supplyRestartDelay) ≤ held ∧ recent.length < (u.lane n).codeN Key.supplyRestartMax) ∧
    (∃ (s : State) (t : Nat) (n : Lane) (mv : Nat), let u := s.at_ t; 61000 ≤ mv ∧ (u.lane n).sup.ovOpen = false ∧ ((u.lane n).sup.disc ≠ 0 ∨ (u.lane n).sup.linkOpen = true)) ∧
    (∃ (s : State) (t : Nat) (n : Lane) (mv : Nat) (held : Nat), let u := s.at_ t; (u.lane n).sup.ovOpen = true ∧ mv < 58000 ∧ ms 1 ≤ held) ∧
    (∃ (s : State) (t : Nat) (src : Lane) (dst : Lane) (e : SupplyEntry), let u := s.at_ t; let b := supplyItemBytes e; src ≠ dst ∧ (u.lane dst).rst.inReset = false ∧ u.nextItem src dst 0x40 = some b) :=
  ⟨⟨{ wAll .run with
        l1.rst.inReset := false }, 1000000000000000, .l1, 0, 0, by decide +kernel⟩,
   ⟨{ wAll .run with
        l1.rst.inReset := true }, 1000000000000000, .l1, 0, 0, by decide +kernel⟩,
   ⟨{ wAll .run with
        l1.sup.armed := true
        l1.vote.caldera := false
        l1.rst.inReset := false }, 1000000000000000, .l1, 0, 0, 20000, by decide +kernel⟩,
   ⟨{ wAll .run with
        l1.vote.caldera := true
        l1.vote.supplyOnly := true }, 1000000000000000, .l1, 15000, 15000, 2000000000, by decide +kernel⟩,
   ⟨{ wAll .run with
        l1.sup.ovOpen := false }, 1000000000000000, .l1, 61000, by decide +kernel⟩,
   ⟨{ wAll .run with
        l1.sup.ovOpen := true }, 1000000000000000, .l1, 57999, 1000000, by decide +kernel⟩,
   ⟨{ wAll .run with
        l1.lo.items := [supplyItemBytes (⟨false,0,0,0,0⟩ : SupplyEntry)]
        l1.rst.inReset := false }, 1000000000000000, .l2, .l1, ⟨false,0,0,0,0⟩, by decide +kernel⟩⟩

/-- Hypotheses of GeyserAndLinkVoltageEventsComplete, clause by clause. -/
theorem witness_GeyserAndLinkVoltageEventsComplete :
    (∃ (s : State) (t : Nat) (n : Lane) (mv : Nat), let u := (s.at_ t).onSup n (fun p => { p with link := mv }); (u.lane n).rst.inReset = false ∧ (u.lane n).rst.bootFailed = none ∧ u.m.mode.votes = true ∧ (u.lane n).sup.disc ≠ 2 ∧ (u.lane n).gey.fw = false ∧ 58500 ≤ mv) ∧
    (∃ (s : State) (t : Nat) (n : Lane) (mv : Nat), let u := (s.at_ t).onSup n (fun p => { p with link := mv }); (u.lane n).gey.fw = true ∧ mv ≤ 57500 ∧ (u.lane n).gey.onAt + us 5 ≤ t) ∧
    (∃ (s : State) (t : Nat) (n : Lane) (mv : Nat), let u := (s.at_ t).onSup n (fun p => { p with link := mv }); (u.lane n).gey.hw = false ∧ 62000 ≤ mv) ∧
    (∃ (s : State) (t : Nat) (n : Lane) (mv : Nat), let u := (s.at_ t).onSup n (fun p => { p with link := mv }); (u.lane n).gey.hw = true ∧ mv ≤ 61000) ∧
    (∃ (s : State) (t : Nat) (n : Lane) (mv : Nat) (i : Nat), let u := (s.at_ t).onSup n (fun p => { p with link := mv }); (u.lane n).rst.inReset = false ∧ (u.lane n).gey.on = true ∧ 4 * (i : Rat) * (u.lane n).val Key.geyserRNominal < mv) ∧
    (∃ (s : State) (t : Nat) (n : Lane) (i : Nat) (held : Nat), let u := s.at_ t; (u.lane n).gey.fw = false ∧ (u.lane n).gey.hw = false ∧ 1000 < i ∧ us 10 ≤ held ∧ (u.lane n).rst.inReset = false) ∧
    (∃ (s : State) (t : Nat) (n : Lane) (temp : Int), let u := (s.at_ t).onGey n (fun g => { g with temp := temp }); (u.lane n).rst.inReset = false ∧ 2400 < temp ∧ (u.lane n).gey.hot = false) ∧
    (∃ (temp : Int), temp < 2080) ∧
    (∃ (s : State) (t : Nat) (n : Lane) (mv : Nat), let u := (s.at_ t).onSup n (fun p => { p with link := mv }); 62000 ≤ mv ∧ ((u.lane n).geyserBad = true ∨ (u.lane n).gey.fault = true) ∧ u.m.mode.votes = true ∧ ((u.lane n).state = .active ∨ (u.lane n).state = .rejoining)) ∧
    (∃ (s : State) (t : Nat) (n : Lane) (x : Axis) (mv : Nat), let u := (s.at_ t).onSup n (fun p => { p with link := mv }); ((u.lane n).set x).short = true ∧ ((u.lane n).set x).shortAt + ms 10 ≤ t ∧ mv < 58500 ∧ u.emfPeak n x < (mv : Rat) * 9 / 10) ∧
    (∃ (s : State) (t : Nat) (n : Lane) (mv : Nat), let u := s.at_ t; 68000 ≤ mv ∧ ((u.lane n).sup.disc ≠ 0 ∨ (u.lane n).sup.ovOpen = true)) ∧
    (∃ (s : State) (t : Nat) (n : Lane) (vsup : Nat) (mv : Nat) (held : Nat), let u := s.at_ t; (u.lane n).sup.linkOpen = true ∧ vsup < 64000 ∧ mv < 64000 ∧ us 100 ≤ held) :=
  ⟨⟨{ wAll .run with
        l1.rst.inReset := false
        l1.rst.bootFailed := none
        l1.gey.fw := false
        l1.sup.disc := 1 }, 1000000000000000, .l1, 58500, by decide +kernel⟩,
   ⟨{ wAll .run with
        l1.gey.fw := true }, 1000000000000000, .l1, 57500, by decide +kernel⟩,
   ⟨{ wAll .run with
        l1.gey.hw := false }, 1000000000000000, .l1, 62000, by decide +kernel⟩,
   ⟨{ wAll .run with
        l1.gey.hw := true }, 1000000000000000, .l1, 61000, by decide +kernel⟩,
   ⟨{ wAll .run with
        l1.rst.inReset := false
        l1.gey.hw := true }, 1000000000000000, .l1, 12001, 1000, by decide +kernel⟩,
   ⟨{ wAll .run with
        l1.gey.fw := false
        l1.gey.hw := false
        l1.rst.inReset := false }, 1000000000000000, .l1, 1001, 10000, by decide +kernel⟩,
   ⟨{ wAll .run with
        l1.rst.inReset := false
        l1.gey.hot := false }, 1000000000000000, .l1, 2401, by decide +kernel⟩,
   ⟨2079, by decide +kernel⟩,
   ⟨{ wAll .run with
        l1.state := .active
        l1.gey.bad := true }, 1000000000000000, .l1, 62000, by decide +kernel⟩,
   ⟨{ wAll .run with
        l1.s.short := true }, 1000000000000000, .l1, .s, 58499, ⟨rfl, by decide +kernel, by decide, (emfPeak_zero rfl).trans_lt (by norm_num)⟩⟩,
   ⟨wAll .run, 1000000000000000, .l1, 68000, by decide +kernel⟩,
   ⟨{ wAll .run with
        l1.sup.linkOpen := true }, 1000000000000000, .l1, 63999, 63999, 100000, by decide +kernel⟩⟩

/-- Hypotheses of LegEventsComplete, clause by clause. -/
theorem witness_LegEventsComplete :
    (∃ (s : State) (t : Nat) (n : Lane), let u := s.at_ t; (u.lane n).rst.inReset = false) ∧
    (∃ (s : State) (t : Nat) (n : Lane) (x : Axis) (didt : Rat) (since : Nat) (held : Nat), let u := s.at_ t; u.driven n x = true ∧ (u.lane n).val (if (since : Rat) < (u.lane n).val Key.gateSlewTarget + 4 then Key.legDidtEdge else Key.legDidtLimit) < didt ∧ 5 ≤ held) ∧
    (∃ (s : State) (t : Nat) (n : Lane) (x : Axis) (i : Int) (held : Nat) (since : Nat), let u := s.at_ t; (u.lane n).rst.inReset = false ∧ 30 ≤ held ∧ 70 ≤ since ∧ (u.lane n).val (match x with | .s => Key.setOcS | .b => Key.setOcB) < absQ (cellAmps i)) ∧
    (∃ (mv : Nat), mv < 4300) ∧
    (∃ (mv : Nat), 4500 < mv) ∧
    (∃ (s : State) (t : Nat) (n : Lane) (x : Axis) (p : Phase) (mv : Nat), let u := s.at_ t; u.driven n x = true ∧ (((u.lane n).set x).leg p).uv = true ∧ (((u.lane n).set x).leg p).tripped = false ∧ 5 ≤ (((u.lane n).set x).leg p).uvPeriods ∧ mv < 4500) ∧
    (∃ (s : State) (t : Nat) (n : Lane) (x : Axis) (p : Phase) (k : Nat × Bool × Nat), let u := s.at_ t; (((u.lane n).set x).leg p).satRuns.filter (fun r => decide (64 ≤ r.2.2)) = [k]) ∧
    (∃ (s : State) (t : Nat) (n : Lane), let u := s.at_ t; u.m.runEntry ≠ 1 ∧ (u.lane n).state = .rejoining ∧ (u.lane n).rejoin.step = 3) ∧
    (∃ (s : State) (t : Nat) (n : Lane) (m : OffStateSample), let u := s.at_ t; let w := ((u.testSet n .s m.s).testSet n .b m.b).testGeyser n m; u.m.runEntry = 1 ∧ u.nextSlot = some n ∧ (w.onM (fun k => { k with diag := n :: k.diag })).nextSlot.isSome = true) :=
  ⟨⟨{ wAll .run with
        l1.rst.inReset := false }, 1000000000000000, .l1, by decide +kernel⟩,
   ⟨{ wAll .run with
        l1.s.switching := true }, 1000000000000000, .l1, .s, 21, 0, 5, by decide +kernel⟩,
   ⟨{ wAll .run with
        l1.rst.inReset := false }, 1000000000000000, .l1, .s, 80001, 30, 70, by decide +kernel⟩,
   ⟨4299, by decide +kernel⟩,
   ⟨4501, by decide +kernel⟩,
   ⟨{ wAll .run with
        l1.s.u.uv := true
        l1.s.u.tripped := false
        l1.s.u.uvPeriods := 5
        l1.s.switching := true }, 1000000000000000, .l1, .s, .u, 4499, by decide +kernel⟩,
   ⟨{ wAll .run with
        l1.s.u.satRuns := [(0, true, 64)] }, 1000000000000000, .l1, .s, .u, (0, true, 64), by decide +kernel⟩,
   ⟨{ wAll .run with
        l1.state := .rejoining
        l1.rejoin.step := 3 }, 1000000000000000, .l1, by decide +kernel⟩,
   ⟨{ wAll .run with
        m.runEntry := 1 }, 1000000000000000, .l1, wOff, by decide +kernel⟩⟩

/-- Hypotheses of WakeAndClockEventsComplete, clause by clause. -/
theorem witness_WakeAndClockEventsComplete :
    (∃ (s : State) (t : Nat) (n : Lane) (held : Nat), let u := s.at_ t; (u.lane n).rst.inReset = true ∧ (u.lane n).rst.causes.contains 4 = true ∧ (u.lane n).rst.wakeAt = none ∧ ms 1 ≤ held) ∧
    (∃ (s : State) (t : Nat) (n : Lane) (vsup : Nat) (mv : Nat), let u := s.at_ t; (u.lane n).sup.disc = 1 ∧ vsup ≤ mv + 2000 ∧ t ≤ (u.lane n).sup.preAt + ms 5) ∧
    (∃ (s : State) (t : Nat) (n : Lane), let u := s.at_ t; (u.lane n).sup.disc = 1 ∧ (u.lane n).sup.preAt + ms 100 ≤ t) ∧
    (∃ (s : State) (t : Nat) (n : Lane) (vsup : Nat) (mv : Nat), let u := s.at_ t; (u.lane n).sup.disc = 2 ∧ vsup + 20 ≤ mv) ∧
    (∃ (s : State) (t : Nat) (n : Lane) (vsup : Nat) (mv : Nat), let u := s.at_ t; (u.lane n).sup.disc = 3 ∧ mv < vsup) ∧
    (∃ (mv : Nat), mv < 5000) ∧
    (∃ (s : State) (t : Nat) (n : Lane) (d : Fin 13) (taps : List Nat) (count : Nat), let u := s.at_ t; 256 ≤ taps.length ∧ (∀ p ∈ taps.take 256, tapOk d p = true) ∧ (ratioOk count = true ∨ (d ≠ 1 ∧ d ≠ 2)) ∧ (u.lane n).rst.lostDom.contains d = false ∧ (u.lane n).rst.qual.contains d = false ∧ (u.lane n).rst.fails < 10 ∧ ((u.lane n).rst.clocked = true ∨ (u.lane n).rst.inReset = false)) ∧
    (∃ (s : State) (t : Nat) (n : Lane) (waited : Nat), let u := s.at_ t; ms 20 ≤ waited ∧ (u.lane n).rst.qual.contains 0 = false ∧ ((u.lane n).rst.clocked = true ∨ (u.lane n).rst.inReset = false)) ∧
    (∃ (s : State) (t : Nat) (n : Lane) (d : Fin 13) (waited : Nat), let u := s.at_ t; let r := (u.lane n).rst; (d = 1 ∨ d = 2 ∨ d = 3) ∧ ms 2 ≤ waited ∧ r.qual.contains d = false ∧ (r.clocked = true ∨ r.inReset = false)) ∧
    (∃ (s : State) (t : Nat) (n : Lane) (d : Fin 13) (waited : Nat), let u := s.at_ t; 4 ≤ d.val ∧ d.val ≤ 9 ∧ ms 2 ≤ waited ∧ (u.lane n).rst.qual.contains d = false ∧ (u.lane n).rst.lostDom.contains d = false ∧ (u.lane n).rst.inReset = false) ∧
    (∃ (s : State) (t : Nat) (n : Lane), let u := s.at_ t; (u.lane n).rst.inReset = true ∧ (u.lane n).rst.causes.contains 6 = true ∧ (u.lane n).rst.fails < 10 ∧ (u.lane n).rst.retryAt + ms 100 ≤ t) ∧
    (∃ (s : State) (t : Nat) (n : Lane) (d : Fin 13) (taps : List Nat), let u := s.at_ t; (d = 1 ∨ d = 2 ∨ d = 3) ∧ tapsLost d taps = true ∧ (u.lane n).rst.qual.contains d = true ∧ (u.lane n).rst.inReset = false) ∧
    (∃ (s : State) (t : Nat) (n : Lane) (d : Fin 13) (taps : List Nat), let u := s.at_ t; (d = 4 ∨ d = 5) ∧ tapsLost d taps = true ∧ (u.lane n).rst.qual.contains d = true ∧ (u.lane n).rst.inReset = false) :=
  ⟨⟨{ wAll .run with
        l1.rst.inReset := true
        l1.rst.wakeAt := none
        l1.rst.causes := [4] }, 1000000000000000, .l1, 1000000, by decide +kernel⟩,
   ⟨{ wAll .run with
        l1.sup.disc := 1
        l1.sup.preAt := 1000000000000000 }, 1000000000000000, .l1, 0, 0, by decide +kernel⟩,
   ⟨{ wAll .run with
        l1.sup.disc := 1 }, 1000000000000000, .l1, by decide +kernel⟩,
   ⟨{ wAll .run with
        l1.sup.disc := 2 }, 1000000000000000, .l1, 0, 20, by decide +kernel⟩,
   ⟨{ wAll .run with
        l1.sup.disc := 3 }, 1000000000000000, .l1, 1, 0, by decide +kernel⟩,
   ⟨4999, by decide +kernel⟩,
   ⟨{ wAll .run with
        l1.rst.qual := [] }, 1000000000000000, .l1, 3, List.replicate 256 400000, 0, by decide +kernel⟩,
   ⟨{ wAll .run with
        l1.rst.qual := [] }, 1000000000000000, .l1, 20000000, by decide +kernel⟩,
   ⟨{ wAll .run with
        l1.rst.qual := [0] }, 1000000000000000, .l1, 1, 2000000, by decide +kernel⟩,
   ⟨{ wAll .run with
        l1.rst.inReset := false
        l1.rst.qual := [0,1,2,3] }, 1000000000000000, .l1, 4, 2000000, by decide +kernel⟩,
   ⟨{ wAll .run with
        l1.rst.inReset := true
        l1.rst.causes := [6] }, 1000000000000000, .l1, by decide +kernel⟩,
   ⟨{ wAll .run with
        l1.rst.inReset := false }, 1000000000000000, .l1, 1, List.replicate 4 0, by decide +kernel⟩,
   ⟨{ wAll .run with
        l1.rst.inReset := false }, 1000000000000000, .l1, 4, List.replicate 4 0, by decide +kernel⟩⟩

/-- Hypotheses of ResetEventsComplete, clause by clause. -/
theorem witness_ResetEventsComplete :
    (∃ (s : State) (t : Nat) (n : Lane) (src : ResetSource), let u := (s.at_ t).seeSource n src; let k := causeOf (u.lane n).sup.eff src; k ≠ 0) ∧
    (∃ (s : State) (t : Nat) (n : Lane) (src : ResetSource), let u := (s.at_ t).seeSource n src; causeOf (u.lane n).sup.eff src = 0) ∧
    (∃ (s : State) (t : Nat) (n : Lane) (low : Nat), let u := s.at_ t; 1000 ≤ low ∧ ((u.lane n).rst.causes.contains 4 = false ∨ (u.lane n).rst.wakeAt.isSome = true)) ∧
    (∃ (low : Nat), low < 200) ∧
    (∃ (s : State) (t : Nat) (n : Lane) (low : Nat), let u := s.at_ t; 200 ≤ low ∧ low < 1000 ∧ ((u.lane n).rst.causes.contains 4 = false ∨ (u.lane n).rst.wakeAt.isSome = true)) ∧
    (∃ (s : State) (t : Nat) (n : Lane), let u := s.at_ t; (u.lane n).rst.inReset = true ∧ (u.lane n).rst.rstDriven = false ∧ (u.lane n).rst.extDone + us 25 ≤ t ∧ (u.lane n).rst.causes.all (· == 5) = true) ∧
    (∃ (s : State) (t : Nat) (n : Lane), let u := s.at_ t; (u.lane n).rst.inReset = false ∧ (u.lane n).rst.dogForced = false ∧ (u.lane n).state ≠ .off ∧ (u.lane n).rst.appAt + ms 2 ≤ t) ∧
    (∃ (s : State) (t : Nat) (n : Lane), let u := s.at_ t; (u.lane n).rst.dogForced = true ∧ (u.lane n).rst.dogAt + ms 10 ≤ t) :=
  ⟨⟨wAll .run, 1000000000000000, .l1, .external, by decide +kernel⟩,
   ⟨{ wAll .run with
        l1.sup.vsup := 48000 }, 1000000000000000, .l1, .supply 48000 48000, by decide +kernel⟩,
   ⟨wAll .run, 1000000000000000, .l1, 1000, by decide +kernel⟩,
   ⟨199, by decide +kernel⟩,
   ⟨wAll .run, 1000000000000000, .l1, 200, by decide +kernel⟩,
   ⟨{ wAll .run with
        l1.rst.inReset := true
        l1.rst.rstDriven := false }, 1000000000000000, .l1, by decide +kernel⟩,
   ⟨{ wAll .run with
        l1.rst.inReset := false
        l1.rst.dogForced := false }, 1000000000000000, .l1, by decide +kernel⟩,
   ⟨{ wAll .run with
        l1.rst.dogForced := true }, 1000000000000000, .l1, by decide +kernel⟩⟩

/-- Hypotheses of BootAndFirmwareEventsComplete, clause by clause. -/
theorem witness_BootAndFirmwareEventsComplete :
    (∃ (s : State) (t : Nat) (n : Lane), let u := s.at_ t; (u.lane n).rst.inReset = true ∧ (u.lane n).rst.causes = [] ∧ (u.lane n).rst.rstHigh = true ∧ (u.lane n).rst.coreReady = true ∧ (u.lane n).rst.clearAt + us 20 ≤ t) ∧
    (∃ (s : State) (t : Nat), let u := s.at_ t; u.m.mode = .boot ∧ (∀ k, u.atStep9.contains k = true ∨ (u.lane k).waits = false)) ∧
    (∃ (s : State) (t : Nat) (a : Nat), let u := s.at_ t; u.m.mode = .boot ∧ u.m.wake0 = some a ∧ a + ms 500 ≤ t ∧ u.actives ≠ []) ∧
    (∃ (s : State) (t : Nat) (held : Nat) (a : Nat), let u := s.at_ t; u.m.mode = .boot ∧ u.actives = [] ∧ u.m.wake0 = some a ∧ a + ms 500 ≤ t ∧ ms 1 ≤ held) ∧
    (∃ (s : State) (t : Nat) (src : Lane) (dst : Lane) (e : BootReport), let u := s.at_ t; let b := bootItem e; let v := u.dropItem src dst 0x50; let w := v.onLink src dst (fun k => { k with boot := some (bootOf b) }); src ≠ dst ∧ (u.lane dst).rst.inReset = false ∧ u.nextItem src dst 0x50 = some b ∧ (bootOf b).trialFailed = false ∧ w.governing dst = none) ∧
    (∃ (s : State) (t : Nat) (src : Lane) (dst : Lane) (e : BootReport) (g : Byte × Word), let u := s.at_ t; let b := bootItem e; let v := u.dropItem src dst 0x50; let w := v.onLink src dst (fun k => { k with boot := some (bootOf b) }); src ≠ dst ∧ (u.lane dst).rst.inReset = false ∧ u.nextItem src dst 0x50 = some b ∧ (bootOf b).trialFailed = false ∧ w.governing dst = some g ∧ (w.lane dst).state ≠ .starting) ∧
    (∃ (s : State) (t : Nat) (src : Lane) (dst : Lane) (e : BootReport), let u := s.at_ t; let b := bootItem e; let v := u.dropItem src dst 0x50; let w := v.onLink src dst (fun k => { k with boot := some (bootOf b) }); src ≠ dst ∧ (u.lane dst).rst.inReset = false ∧ u.nextItem src dst 0x50 = some b ∧ (bootOf b).trialFailed = true ∧ (w.lane dst).sec.trial.isSome = true) ∧
    (∃ (s : State) (t : Nat), let u := s.at_ t; u.m.mode = .boot) ∧
    (∃ (s : State) (t : Nat), let u := s.at_ t; u.m.fwState = 1 ∧ (∀ k ∈ u.actives, (u.lane k).sec.fwHave = true ∧ (u.lane k).verify = none)) ∧
    (∃ (s : State) (t : Nat), let u := s.at_ t; (u.lane u.scribe).codeN Key.fwRaiseDelay * ms 3600000 ≤ u.m.runNs) ∧
    (∃ (s : State) (t : Nat) (src : Lane) (dst : Lane) (o : Nat) (len : Nat) (d : List Byte), let u := s.at_ t; let b := segmentItem 0x51 o (d.take len); let v := u.dropItem src dst 0x51; let off := rd b 3 4; let data := b.drop 7; let got := if off = 0 then data else (v.lane dst).sec.copy ++ data; src ≠ dst ∧ (u.lane dst).rst.inReset = false ∧ u.nextItem src dst 0x51 = some b ∧ (v.lane dst).rst.bootFailed = some 5 ∧ (off = 0 ∨ off = (v.lane dst).sec.copy.length) ∧ off + data.length ≤ pkgMax 1 ∧ got.length < 64) ∧
    (∃ (s : State) (t : Nat) (src : Lane) (dst : Lane) (e : KeyContent) (slot : BitVec 1) (ed : List Byte) (ml : List Byte), let u := s.at_ t; let b := keyItemBytes e; let v := u.dropItem src dst 0x52; src ≠ dst ∧ (u.lane dst).rst.inReset = false ∧ u.nextItem src dst 0x52 = some b ∧ (v.lane dst).state ≠ .active ∧ keyOf b = .ownerKeys slot ed ml ∧ (if slot = 0 then (v.lane dst).sec.owner0 else (v.lane dst).sec.owner1) = some (Config.hash (ed ++ ml))) ∧
    (∃ (s : State) (t : Nat) (src : Lane) (dst : Lane) (e : KeyContent) (pkg : List Byte), let u := s.at_ t; let b := keyItemBytes e; let v := u.dropItem src dst 0x52; src ≠ dst ∧ (u.lane dst).rst.inReset = false ∧ u.nextItem src dst 0x52 = some b ∧ (v.lane dst).state ≠ .active ∧ keyOf b = .keyPackage pkg) :=
  ⟨⟨{ wAll .boot with
        l1.rst.inReset := true
        l1.rst.causes := []
        l1.rst.rstHigh := true }, 1000000000000000, .l1, by decide +kernel⟩,
   ⟨{ wAll .boot with
        m.mode := .boot }, 1000000000000000, ⟨by decide +kernel, fun k => by cases k <;> decide +kernel⟩⟩,
   ⟨{ wAll .run with
        m.mode := .boot
        m.wake0 := some (0) }, 1000000000000000, 0, by decide +kernel⟩,
   ⟨{ State.reset with
        m.mode := .boot
        m.wake0 := some (0) }, 1000000000000000, 1000000, 0, by decide +kernel⟩,
   ⟨{ wAll .run with
        l1.lo.items := [bootItem (⟨0,false,false,false,0,1,0⟩ : BootReport)]
        l1.rst.inReset := false }, 1000000000000000, .l2, .l1, ⟨0,false,false,false,0,1,0⟩, by decide +kernel⟩,
   ⟨{ wAll .run with
        l1.lo.items := [bootItem (⟨0,false,false,false,0,1,0⟩ : BootReport)]
        l1.rst.inReset := false
        l1.sec.bankA := some (2, 1)
        l1.sec.running := 1 }, 1000000000000000, .l2, .l1, ⟨0,false,false,false,0,1,0⟩, (1, 2), by decide +kernel⟩,
   ⟨{ wAll .run with
        l1.lo.items := [bootItem (⟨0,false,true,false,0,1,0⟩ : BootReport)]
        l1.rst.inReset := false
        l1.sec.trial := some 0 }, 1000000000000000, .l2, .l1, ⟨0,false,true,false,0,1,0⟩, by decide +kernel⟩,
   ⟨{ wAll .run with
        m.mode := .boot }, 1000000000000000, by decide +kernel⟩,
   ⟨{ State.reset with
        m.fwState := 1 }, 1000000000000000, by decide +kernel⟩,
   ⟨{ wAll .run with
        m.runNs := 86400000000000000 }, 1000000000000000, by decide +kernel⟩,
   ⟨{ wAll .run with
        l1.lo.items := [segmentItem 0x51 (0 : Nat) (([] : List Byte).take (0 : Nat))]
        l1.rst.inReset := false
        l1.rst.bootFailed := some 5 }, 1000000000000000, .l2, .l1, 0, 0, [], by decide +kernel⟩,
   ⟨{ wAll .run with
        l1.lo.items := [keyItemBytes (.ownerKeys 0 [] [] : KeyContent)]
        l1.rst.inReset := false
        l1.sec.owner0 := some (Config.hash ([] ++ []))
        l1.state := .starting }, 1000000000000000, .l2, .l1, .ownerKeys 0 [] [], 0, [], [], ⟨by decide, rfl, by decide +kernel, by decide +kernel, by decide +kernel, rfl⟩⟩,
   ⟨{ wAll .run with
        l1.lo.items := [keyItemBytes (.keyPackage [] : KeyContent)]
        l1.rst.inReset := false
        l1.state := .starting }, 1000000000000000, .l2, .l1, .keyPackage [], [], by decide +kernel⟩⟩

/-- Hypotheses of SessionEventsComplete, clause by clause. -/
theorem witness_SessionEventsComplete :
    (∃ (s : State) (t : Nat) (src : Lane) (dst : Lane) (c : SessionChange), let u := s.at_ t; let b := sessionItemBytes c.isOpen c.entry; src ≠ dst ∧ (u.lane dst).rst.inReset = false ∧ u.nextItem src dst 0x30 = some b ∧ rd b 3 1 % 2 = 1) ∧
    (∃ (s : State) (t : Nat) (src : Lane) (dst : Lane) (c : SessionChange), let u := s.at_ t; let b := sessionItemBytes c.isOpen c.entry; src ≠ dst ∧ (u.lane dst).rst.inReset = false ∧ u.nextItem src dst 0x30 = some b ∧ rd b 3 1 % 2 ≠ 1) ∧
    (∃ (s : State) (t : Nat) (num : Half) (e : SessionEntry), let u := s.at_ t; (u.lane u.scribe).sec.session num = some e ∧ e.lastUsed + e.idleNs ≤ t) ∧
    (∃ (s : State) (t : Nat) (num : Half) (e : SessionEntry) (k : Nat), let u := s.at_ t; (u.lane u.scribe).sec.session num = some e ∧ (u.lane u.scribe).dropCause e t = some k) ∧
    (∃ (s : State) (t : Nat) (n : Lane) (r : Req), let u := s.at_ t; (u.lane n).sec.attestReq = some r) :=
  ⟨⟨{ wAll .run with
        l1.lo.items := [sessionItemBytes (⟨true, wEntry⟩ : SessionChange).isOpen (⟨true, wEntry⟩ : SessionChange).entry]
        l1.rst.inReset := false }, 1000000000000000, .l2, .l1, ⟨true, wEntry⟩, by decide +kernel⟩,
   ⟨{ wAll .run with
        l1.lo.items := [sessionItemBytes (⟨false, wEntry⟩ : SessionChange).isOpen (⟨false, wEntry⟩ : SessionChange).entry]
        l1.rst.inReset := false }, 1000000000000000, .l2, .l1, ⟨false, wEntry⟩, by decide +kernel⟩,
   ⟨wOne .run, 1000000000000000, 1, wEntry, by decide +kernel⟩,
   ⟨{ wOne .run with
        l1.sec.sessions := [{ wEntry with proven := false }] }, 1000000000000000, 1, { wEntry with proven := false }, 1, by decide +kernel⟩,
   ⟨{ wAll .run with
        l1.sec.attestReq := some (r0) }, 1000000000000000, .l1, r0, by decide +kernel⟩⟩

/-- Hypotheses of HealthEventsComplete, clause by clause. -/
theorem witness_HealthEventsComplete :
    (∃ (s : State) (t : Nat) (n : Lane), let u := s.at_ t; (u.lane n).state ≠ .off) ∧
    (∃ (s : State) (t : Nat) (n : Lane), let u := s.at_ t; (u.lane n).rst.inReset = false ∧ (u.lane n).ctr.lifeAt + ms 600000 ≤ t) ∧
    (∃ (s : State) (t : Nat) (n : Lane), let u := s.at_ t; (u.lane n).rst.inReset = false) ∧
    (∃ (s : State) (t : Nat) (n : Lane) (a : Word) (dx : Dword) (d : Dword) (cx : Byte), let u := s.at_ t; let at_ := a.toNat / 8 * 8; let h := (u.lane n).held n at_; let w := u.onLane n (fun l => l.store n at_ { data := h.data ^^^ dx, check := h.check ^^^ cx }); (u.lane n).rst.inReset = false ∧ mapped at_ = true ∧ ((w.lane n).held n at_).decode (foldMemory at_) = some (d, true) ∧ (memoryOf at_).1 ≠ 3) ∧
    (∃ (s : State) (t : Nat) (n : Lane) (a : Word) (dx : Dword) (cx : Byte), let u := s.at_ t; let at_ := a.toNat / 8 * 8; let h := (u.lane n).held n at_; let w := u.onLane n (fun l => l.store n at_ { data := h.data ^^^ dx, check := h.check ^^^ cx }); (u.lane n).rst.inReset = false ∧ mapped at_ = true ∧ ((w.lane n).held n at_).decode (foldMemory at_) = none) ∧
    (∃ (s : State) (t : Nat) (n : Lane) (a : Word) (dx : Dword) (d : Dword) (cx : Byte), let u := s.at_ t; let at_ := a.toNat / 8 * 8; let w := XWord.encode ((u.lane n).wordAt n at_) (foldBus at_); (u.lane n).rst.inReset = false ∧ mapped at_ = true ∧ XWord.decode { data := w.data ^^^ dx, check := w.check ^^^ cx } (foldBus at_) = some (d, true)) :=
  ⟨⟨wAll .run, 1000000000000000, .l1, by decide +kernel⟩,
   ⟨{ wAll .run with
        l1.rst.inReset := false }, 1000000000000000, .l1, by decide +kernel⟩,
   ⟨{ wAll .run with
        l1.rst.inReset := false }, 1000000000000000, .l1, by decide +kernel⟩,
   ⟨{ wAll .run with
        l1.rst.inReset := false }, 1000000000000000, .l1, 0, 0, ({ wAll .run with l1.rst.inReset := false } : State).l1.wordAt .l1 0, 1, ⟨rfl, by decide +kernel, scrub_one rfl, by decide +kernel⟩⟩,
   ⟨{ wAll .run with
        l1.rst.inReset := false }, 1000000000000000, .l1, 0, 0, 0xFF, ⟨rfl, by decide +kernel, scrub_none rfl⟩⟩,
   ⟨{ wAll .run with
        l1.rst.inReset := false }, 1000000000000000, .l1, 0, 0, ({ wAll .run with l1.rst.inReset := false } : State).l1.wordAt .l1 0, 1, ⟨rfl, by decide +kernel, bus_one _ _⟩⟩⟩

/-- Hypotheses of MeasurementEventsComplete, clause by clause. -/
theorem witness_MeasurementEventsComplete :
    (∃ (s : State) (t : Nat) (n : Lane) (x : Axis), let u := s.at_ t; u.meas.names n x = true ∧ ((u.lane n).set x).switching = true ∧ (x = .s ∨ u.meas.loadS = false)) ∧
    (∃ (s : State) (t : Nat) (n : Lane), let u := s.at_ t; u.meas.cableOn = true ∧ u.meas.cableLane = n ∧ 64 ≤ ((u.lane n).net.chan u.meas.cableChan).tdrPulses) ∧
    (∃ (s : State) (t : Nat) (n : Lane), let u := s.at_ t; u.meas.testOn = true ∧ u.meas.testLanes.head? = some n) :=
  ⟨⟨{ wAll .run with
        l1.s.switching := true
        meas.loadOn := true
        meas.loadLane := .l1
        meas.loadS := true }, 1000000000000000, .l1, .s, by decide +kernel⟩,
   ⟨{ wAll .run with
        meas.cableOn := true
        meas.cableLane := .l1
        l1.net.x.tdrPulses := 64
        l1.net.y.tdrPulses := 64 }, 1000000000000000, .l1, by decide +kernel⟩,
   ⟨{ wAll .run with
        meas.testOn := true
        meas.testLanes := [.l1] }, 1000000000000000, .l1, by decide +kernel⟩⟩

/-- Hypotheses of LinkEventsComplete, clause by clause. -/
theorem witness_LinkEventsComplete :
    (∃ (s : State) (t : Nat) (src : Lane) (dst : Lane) (ws : List XWord) (ds : List Dword) (fixed : Nat), let u := s.at_ t; src ≠ dst ∧ (u.lane dst).rst.inReset = false ∧ 10 ≤ ws.length ∧ (u.lane dst).mapBit (linkEndBit dst src) = false ∧ checkWords (linkId src dst) 0 ws = some (ds, fixed)) ∧
    (∃ (s : State) (t : Nat) (src : Lane) (dst : Lane) (ws : List XWord), let u := s.at_ t; src ≠ dst ∧ (u.lane dst).rst.inReset = false ∧ 10 ≤ ws.length ∧ (u.lane dst).mapBit (linkEndBit dst src) = false ∧ checkWords (linkId src dst) 0 ws = none) ∧
    (∃ (s : State) (t : Nat) (src : Lane) (dst : Lane), let u := s.at_ t; src ≠ dst ∧ (u.lane dst).rst.inReset = false ∧ (u.link src dst).signal = true) ∧
    (∃ (s : State) (t : Nat) (src : Lane) (dst : Lane), let u := s.at_ t; src ≠ dst ∧ (u.lane dst).rst.inReset = false ∧ (u.link src dst).down = false ∧ (u.link src dst).signal = true ∧ (u.lane dst).codeN Key.linkLossPeriods ≤ (u.link src dst).lost) ∧
    (∃ (s : State) (t : Nat) (src : Lane) (dst : Lane), let u := s.at_ t; src ≠ dst ∧ (u.link src dst).down = true ∧ 16 ≤ (u.link src dst).good ∧ (u.lane dst).mapBit (linkEndBit dst src) = false) ∧
    (∃ (s : State) (t : Nat) (src : Lane) (dst : Lane) (on : Bool), let u := s.at_ t; let b := enableItem on; src ≠ dst ∧ (u.lane dst).rst.inReset = false ∧ u.nextItem src dst 0x01 = some b) :=
  ⟨⟨{ wAll .run with
        l1.rst.inReset := false }, 1000000000000000, .l2, .l1, ((List.replicate 10 0 : List Dword).zipIdx 0 |>.map (fun e => XWord.encode e.1 (foldLink (linkId .l2 .l1) e.2))), List.replicate 10 0, 0, ⟨by decide, rfl, by decide +kernel, rfl, checkWords_encode _ _ _⟩⟩,
   ⟨{ wAll .run with
        l1.rst.inReset := false }, 1000000000000000, .l2, .l1, { data := 0, check := checkBits 0 (foldLink (linkId .l2 .l1) 0) ^^^ 0xFF } :: List.replicate 9 ⟨0, 0⟩, ⟨by decide, rfl, by decide +kernel, rfl,
    checkWords_none (i := 0) rfl (XWord.decode_flip_none 0 _ (by decide) (by decide) (by decide) (by decide))⟩⟩,
   ⟨{ wAll .run with
        l1.rst.inReset := false
        l1.lo.signal := true }, 1000000000000000, .l2, .l1, by decide +kernel⟩,
   ⟨{ wAll .run with
        l1.rst.inReset := false
        l1.lo.down := false
        l1.lo.signal := true
        l1.lo.lost := 100000 }, 1000000000000000, .l2, .l1, by decide +kernel⟩,
   ⟨{ wAll .run with
        l1.lo.down := true
        l1.lo.good := 16 }, 1000000000000000, .l2, .l1, by decide +kernel⟩,
   ⟨{ wAll .run with
        l1.lo.items := [enableItem (false : Bool)]
        l1.rst.inReset := false }, 1000000000000000, .l2, .l1, false, by decide +kernel⟩⟩

/-- Hypotheses of VoteEventsComplete, clause by clause. -/
theorem witness_VoteEventsComplete :
    (∃ (s : State) (t : Nat) (n : Lane), let u := s.at_ t; 2 ≤ (u.counting n).length ∧ (u.lane n).vote.caldera = false ∧ (u.lane n).rst.inReset = false ∧ (u.lane n).state ≠ .off) ∧
    (∃ (s : State) (t : Nat) (n : Lane), let u := s.at_ t; (u.counting n).length < 2 ∧ ((u.lane n).vote.request = true ∨ (u.lane n).rst.dogForced = true) ∧ u.activePeers n < 2 ∧ (u.lane n).vote.caldera = false ∧ (u.lane n).rst.inReset = false ∧ (u.lane n).state ≠ .off) ∧
    (∃ (s : State) (t : Nat) (n : Lane), let u := s.at_ t; (u.counting n).length = 1 ∧ (u.lane n).vote.caldera = false ∧ (u.lane n).state = .active) ∧
    (∃ (s : State) (t : Nat) (n : Lane), let u := s.at_ t; (u.counting n).length = 1 ∧ (u.lane n).vote.caldera = false ∧ (u.lane n).state = .rejoining) ∧
    (∃ (s : State) (t : Nat) (n : Lane) (k : Lane), let u := s.at_ t; (u.lane n).leader = some k ∧ ((u.lane n).role = .deputy ∨ (u.lane n).role = .member) ∧ (u.lane n).codeN Key.shadowSteps ≤ (u.lane n).prof.torqueRun) ∧
    (∃ (s : State) (t : Nat) (n : Lane) (k : Lane) (q : Snapshot), let u := s.at_ t; (u.lane n).leader = some k ∧ u.snapshotFrom k n = some q ∧ (u.lane n).profileDue = true ∧ (∀ a, (u.lane n).prof.reseedAt = some a → a + 1000000000 < t) ∧ u.formerDeputy n = none) ∧
    (∃ (s : State) (t : Nat) (n : Lane) (a : Nat), let u := s.at_ t; (u.lane n).profileDue = true ∧ (u.lane n).prof.reseedAt = some a ∧ t ≤ a + 1000000000 ∧ u.formerDeputy n = none) ∧
    (∃ (s : State) (t : Nat) (n : Lane) (k : Lane) (m : Lane), let u := s.at_ t; (u.lane n).leader = some k ∧ u.formerDeputy n = some m ∧ (u.lane n).profileDue = true ∧ (u.lane n).prof.snapshot = true) ∧
    (∃ (s : State) (t : Nat) (n : Lane) (k : Lane), let u := s.at_ t; n ≠ k ∧ (u.link k n).down = true ∧ (u.link k n).signal = true ∧ (u.link k n).downSince + (((u.lane n).codeN Key.linkSilenceVote : Rat) * (u.lane n).periodNs).floor.toNat ≤ t ∧ u.absentFor n k = false ∧ u.absentFor n (n.third k) = false ∧ (u.link (n.third k) n).heard = true ∧ (u.link (n.third k) n).hearsThird = false) ∧
    (∃ (s : State) (t : Nat) (n : Lane) (k : Lane), let u := s.at_ t; n ≠ k ∧ (u.lane n).state = .active ∧ (u.link k n).speaks = true ∧ (u.link k n).role = .leader ∧ newer (u.link k n).epoch (u.lane n).epoch = true) ∧
    (∃ (s : State) (t : Nat) (n : Lane) (k : Lane), let u := s.at_ t; n ≠ k ∧ u.counting k = [n] ∧ ((u.lane n).vote.on k).at_ + 125000 * (u.lane n).codeN Key.voteConfirm ≤ t ∧ (u.lane n).vote.disputes k = false) ∧
    (∃ (s : State) (t : Nat) (n : Lane) (k : Lane) (d : DispSt), let u := s.at_ t; (u.lane n).vote.disps.find? (fun d => (d.id.toNat / 16) % 4 == k.num) = some d ∧ d.timedOut = false ∧ d.at_ + ms ((u.lane n).codeN Key.arbTimeout) ≤ t) :=
  ⟨⟨{ wAll .run with
        l1.vote.caldera := false
        l1.rst.inReset := false
        l2.vote.on1 := { reason := 1, at_ := 0 }
        l3.vote.on1 := { reason := 1, at_ := 0 } }, 1000000000000000, .l1, by decide +kernel⟩,
   ⟨{ wOne .run with
        l1.vote.request := true
        l1.vote.caldera := false
        l1.rst.inReset := false }, 1000000000000000, .l1, by decide +kernel⟩,
   ⟨{ wAll .run with
        l1.vote.caldera := false
        l1.state := .active
        l2.vote.on1 := { reason := 1, at_ := 0 } }, 1000000000000000, .l1, by decide +kernel⟩,
   ⟨{ wAll .run with
        l1.vote.caldera := false
        l1.state := .rejoining
        l2.vote.on1 := { reason := 1, at_ := 0 } }, 1000000000000000, .l1, by decide +kernel⟩,
   ⟨{ wAll .run with
        l1.leader := some (.l2)
        l1.role := .deputy
        l1.prof.torqueRun := 100000 }, 1000000000000000, .l1, .l2, by decide +kernel⟩,
   ⟨{ wAll .run with
        l1.leader := some (.l2)
        l1.role := .deputy
        l1.prof.profRun := 100000
        l1.lo.items := [mkItem 0x60 []]
        l2.snaps := [(.l1, {})] }, 1000000000000000, .l1, .l2, {}, by decide +kernel⟩,
   ⟨{ wAll .run with
        l1.prof.reseedAt := some (0)
        l1.role := .deputy
        l1.prof.profRun := 100000 }, 1000000000, .l1, 0, by decide +kernel⟩,
   ⟨{ wAll .run with
        l1.leader := some (.l2)
        l1.prof.snapshot := true
        l1.role := .deputy
        l1.prof.profRun := 100000
        m.exDep := some (.l2, 999999999000000) }, 1000000000000000, .l1, .l2, .l2, by decide +kernel⟩,
   ⟨{ wAll .run with
        l1.lo.down := true
        l1.lo.signal := true
        l1.hi.view.s6 := 0x80000000 }, 1000000000000000, .l1, .l2, by decide +kernel⟩,
   ⟨{ wAll .run with
        l1.state := .active
        l1.lo.view.h := BitVec.ofNat 64 (pack [(0, 6), (Role.leader.code, 2), (LaneState.active.code, 3), (0, 5), (2, 16), (0, 32)]) }, 1000000000000000, .l1, .l2, by decide +kernel⟩,
   ⟨{ wAll .run with
        l1.vote.on2 := { reason := 1, at_ := 0 } }, 1000000000000000, .l1, .l2, by decide +kernel⟩,
   ⟨{ wAll .run with
        l1.vote.disps := [{ id := 0x21 }] }, 1000000000000000, .l1, .l2, { id := 0x21 }, by decide +kernel⟩⟩

/-- Hypotheses of LeadershipAndRejoinEventsComplete, clause by clause. -/
theorem witness_LeadershipAndRejoinEventsComplete :
    (∃ (s : State) (t : Nat) (n : Lane) (a : Nat), let u := s.at_ t; u.m.mode.votes = true ∧ (u.lane n).state = .active ∧ (u.lane n).role ≠ .leader ∧ (u.lane n).rejoin.lossSeen = some a ∧ a < t ∧ u.successor n (u.lane n).leader = some n ∧ (u.takeLead n (u.lane n).leader).nextDeputy n = none) ∧
    (∃ (s : State) (t : Nat) (n : Lane) (m : Lane) (a : Nat), let u := s.at_ t; let w := u.takeLead n (u.lane n).leader; u.m.mode.votes = true ∧ (u.lane n).state = .active ∧ (u.lane n).role ≠ .leader ∧ (u.lane n).rejoin.lossSeen = some a ∧ a < t ∧ u.successor n (u.lane n).leader = some n ∧ w.nextDeputy n = some m) ∧
    (∃ (s : State) (t : Nat) (n : Lane) (k : Lane), let u := s.at_ t; u.leader = some k ∧ u.m.mode.votes = true ∧ k ≠ n ∧ u.eligible n = true ∧ u.eligible k = false ∧ (u.lane n).activeAt < t) ∧
    (∃ (s : State) (t : Nat) (n : Lane) (k : Lane), let u := s.at_ t; u.leader = some k ∧ u.m.mode.votes = true ∧ (u.lane k).state = .active ∧ u.nextDeputy k = some n) ∧
    (∃ (s : State) (t : Nat) (n : Lane) (k : Lane) (q : Snapshot), let u := s.at_ t; (u.lane n).leader = some k ∧ u.snapshotFrom k n = some q ∧ (u.lane n).role = .deputy ∧ (u.lane n).prof.snapshot = false) ∧
    (∃ (s : State) (t : Nat) (n : Lane) (k : LinkIn) (h : Half × Req × Half), let u := s.at_ t; let seq : Half := BitVec.ofNat 16 (fld k.view.s2 0 16); (u.lane n).role = .deputy ∧ u.leaderLink n = some k ∧ (u.lane n).prof.held.find? (fun h => h.1 == seq) = some h) ∧
    (∃ (s : State) (t : Nat) (n : Lane) (k : Lane), let u := s.at_ t; u.leader = some k ∧ (u.lane n).state = .rejoining ∧ (u.lane n).rejoin.step = 1 ∧ u.rejoinLate n = false) ∧
    (∃ (s : State) (t : Nat) (n : Lane) (k : Lane) (q : Snapshot), let u := s.at_ t; (u.lane n).leader = some k ∧ u.snapshotFrom k n = some q ∧ (u.lane n).state = .rejoining ∧ (u.lane n).rejoin.step = 2 ∧ u.rejoinLate n = false) ∧
    (∃ (s : State) (t : Nat) (n : Lane), let u := s.at_ t; (u.lane n).state = .rejoining ∧ (u.lane n).rejoin.step = 4 ∧ u.rejoinLate n = false ∧ (∀ x ∈ (u.lane n).wanted, 16 ≤ ((u.lane n).set x).obs.near)) ∧
    (∃ (s : State) (t : Nat) (n : Lane), let u := s.at_ t; (u.lane n).state = .rejoining ∧ (u.lane n).rejoin.step = 5 ∧ (u.lane n).rejoin.at_ + ms ((u.lane n).codeN Key.rejoinRamp) ≤ t) ∧
    (∃ (s : State) (t : Nat) (n : Lane), let u := s.at_ t; (u.lane n).state = .rejoining ∧ u.rejoinLate n = true) ∧
    (∃ (s : State) (t : Nat) (n : Lane) (a : Nat), let u := s.at_ t; (u.lane n).rejoin.retry = some a ∧ (u.lane n).state = .isolated ∧ (u.lane n).vote.stay = false ∧ a + 1000000000 ≤ t ∧ u.counting n = []) :=
  ⟨⟨{ wOne .run with
        l1.state := .active
        l1.rejoin.lossSeen := some 0
        l1.role := .deputy
        l1.leader := some .l2 }, 1000000000000000, .l1, 0, by decide +kernel⟩,
   ⟨{ wAll .run with
        l1.state := .active
        l1.rejoin.lossSeen := some 0
        l1.role := .deputy
        l1.leader := some .l2
        l2.state := .isolated
        l2.role := .none }, 1000000000000000, .l1, .l3, 0, by decide +kernel⟩,
   ⟨{ wAll .run with
        l1.role := .member
        l2.role := .leader
        l2.ctr.map := 8 }, 1000000000000000, .l1, .l2, by decide +kernel⟩,
   ⟨{ wAll .run with
        l2.state := .active
        l1.role := .member
        l2.role := .leader }, 1000000000000000, .l1, .l2, by decide +kernel⟩,
   ⟨{ wAll .run with
        l1.leader := some (.l2)
        l1.role := .deputy
        l1.prof.snapshot := false
        l1.lo.items := [mkItem 0x60 []]
        l2.snaps := [(.l1, {})] }, 1000000000000000, .l1, .l2, {}, by decide +kernel⟩,
   ⟨{ wAll .run with
        l1.role := .deputy
        l1.prof.held := [(0, r0, 0x0201)]
        l1.leader := some .l2
        l1.lo := wIn .active .leader }, 1000000000000000, .l1, wIn .active .leader, (0, r0, 0x0201), by decide +kernel⟩,
   ⟨{ wAll .run with
        l1.state := .rejoining
        l1.rejoin.step := 1
        l1.role := .none
        l2.role := .leader
        l1.rejoin.at_ := 1000000000000000 }, 1000000000000000, .l1, .l2, by decide +kernel⟩,
   ⟨{ wAll .run with
        l1.leader := some (.l2)
        l1.state := .rejoining
        l1.rejoin.step := 2
        l1.role := .none
        l2.role := .leader
        l1.rejoin.at_ := 1000000000000000
        l1.lo.items := [mkItem 0x60 []]
        l2.snaps := [(.l1, {})] }, 1000000000000000, .l1, .l2, {}, by decide +kernel⟩,
   ⟨{ wAll .run with
        l1.state := .rejoining
        l1.rejoin.step := 4
        l1.role := .none
        l2.role := .leader
        l1.rejoin.at_ := 1000000000000000
        l1.s.obs.near := 16
        l1.b.obs.near := 16 }, 1000000000000000, .l1, by decide +kernel⟩,
   ⟨{ wAll .run with
        l1.state := .rejoining
        l1.rejoin.step := 5 }, 1000000000000000, .l1, by decide +kernel⟩,
   ⟨{ wAll .run with
        l1.state := .rejoining
        l1.rejoin.step := 1 }, 1000000000000000, .l1, by decide +kernel⟩,
   ⟨{ wAll .run with
        l1.rejoin.retry := some (0)
        l1.state := .isolated
        l1.vote.stay := false }, 1000000000000000, .l1, 0, by decide +kernel⟩⟩

/-- Hypotheses of ReceptionEventsComplete, clause by clause. -/
theorem witness_ReceptionEventsComplete :
    (∃ (s : State) (t : Nat) (n : Lane) (c : Chan) (f : HFrame) (w : Nat) (p : Nat), let u := s.at_ t; let r := u.receive n c f; r.2 = .ok w p ∧ (u.lane n).addressed w p = true ∧ f.null = false ∧ (u.lane n).net.hearsOn c = true) ∧
    (∃ (s : State) (t : Nat) (n : Lane) (c : Chan) (f : HFrame), let u := s.at_ t; (∀ w p, (u.receive n c f).2 = .ok w p → (u.lane n).addressed w p = false ∨ f.null = true ∨ (u.lane n).net.hearsOn c = false)) ∧
    (∃ (s : State) (t : Nat) (n : Lane) (c : Chan) (f : HFrame) (w : Nat) (p : Nat) (i : Nat), let u := s.at_ t; (u.receive n c f).2 = .ok w p ∧ (u.lane n).sources.findIdx? (· == f.sender.toNat) = some i ∧ entryType (almEntry (u.lane n).net.almanac p w) = 1 ∧ 8 ≤ f.plen.toNat ∧ winEnd (u.lane n).net.almanac w ≤ 900000) ∧
    (∃ (s : State) (t : Nat) (n : Lane) (c : Chan) (f : HFrame) (w : Nat) (p : Nat) (i : Nat), let u := s.at_ t; (u.receive n c f).2 = .ok w p ∧ (u.lane n).sources.findIdx? (· == f.sender.toNat) = some i ∧ entryType (almEntry (u.lane n).net.almanac p w) = 1 ∧ f.plen.toNat < 8) ∧
    (∃ (s : State) (t : Nat) (n : Lane) (c : Chan) (f : HFrame) (w : Nat) (p : Nat), let u := s.at_ t; (u.receive n c f).2 = .ok w p ∧ entryType (almEntry (u.lane n).net.almanac p w) = 3 ∧ (((u.lane n).net.chan c).capsKept.find? (fun e => e.1 == f.sender)).map (·.2) ≠ some f.payload) ∧
    (∃ (s : State) (t : Nat) (c : Chan) (src : Lane) (dst : Lane) (c : Chan) (f : HFrame), let u := s.at_ t; let b := inboundItem c f; src ≠ dst ∧ (u.lane dst).rst.inReset = false ∧ u.nextItem src dst 0x10 = some b) ∧
    (∃ (s : State) (t : Nat) (src : Lane) (dst : Lane) (epoch : Half) (fresh : Half) (payload : List Byte), let u := s.at_ t; let b := statusItem epoch fresh payload; let v := u.dropItem src dst 0x11; src ≠ dst ∧ (u.lane dst).rst.inReset = false ∧ u.nextItem src dst 0x11 = some b ∧ (v.lane dst).netRuns = true) :=
  ⟨⟨wAll .run, 1000000000000000, .l1, .x, { wFrame with window := 1, sfd := 75200 + 10400 }, 1, 0, by decide +kernel⟩,
   ⟨wAll .run, 1000000000000000, .l1, .x, { wFrame with null := true }, fun _ _ _ => Or.inr (Or.inl rfl)⟩,
   ⟨wAll .run, 1000000000000000, .l1, .x, { wFrame with window := 0, sfd := 10400, sync := true, plen := 8, payload := List.replicate 8 0 }, 0, 0, 0, by decide +kernel⟩,
   ⟨wAll .run, 1000000000000000, .l1, .x, { wFrame with window := 0, sfd := 10400, sync := true }, 0, 0, 0, by decide +kernel⟩,
   ⟨wAll .run, 1000000000000000, .l1, .x, { wFrame with window := 5, sfd := 472000 + 10400, caps := true, sender := 7 }, 5, 0, by decide +kernel⟩,
   ⟨{ wAll .run with
        l1.lo.items := [inboundItem (.x : Chan) (wFrame : HFrame)]
        l1.rst.inReset := false }, 1000000000000000, .x, .l2, .l1, .x, wFrame, by decide +kernel⟩,
   ⟨{ wAll .run with
        l1.lo.items := [statusItem (0 : Half) (0 : Half) ([] : List Byte)]
        l1.rst.inReset := false }, 1000000000000000, .l2, .l1, 0, 0, [], by decide +kernel⟩⟩

/-- Hypotheses of SendingEventsComplete, clause by clause. -/
theorem witness_SendingEventsComplete :
    (∃ (s : State) (t : Nat) (n : Lane), let u := s.at_ t; let w := ((u.onRst n (fun r => { r with appAt := t })).reviewRelay n).serveQueue n; (u.lane n).netRuns = true ∧ ((w.lane n).net.rx.isNone = true ∨ (w.lane n).net.rxOld = true)) ∧
    (∃ (s : State) (t : Nat) (n : Lane) (f : HFrame), let u := s.at_ t; let w := ((u.onRst n (fun r => { r with appAt := t })).reviewRelay n).serveQueue n; (u.lane n).netRuns = true ∧ (w.lane n).net.rx = some f ∧ (w.lane n).net.rxOld = false) ∧
    (∃ (s : State) (t : Nat) (n : Lane) (w : Nat), let u := s.at_ t; (u.lane n).netRuns = true ∧ ownWindow (u.lane n).net.almanac (matrixPos (u.meridian n)) ((u.lane n).nodeId n) = some w ∧ winStart (u.lane n).net.almanac w ≤ cycleOffset (u.meridian n) + 4000 ∧ cycleOffset (u.meridian n) < winEnd (u.lane n).net.almanac w ∧ (u.lane n).net.tx.isSome = true ∧ (u.lane n).net.integrated = true ∧ (u.m.mode = .boot → u.m.held = false)) ∧
    (∃ (s : State) (t : Nat) (n : Lane) (w : Nat) (p : Lane), let u := s.at_ t; (u.lane n).netRuns = true ∧ ownWindow (u.lane n).net.almanac (matrixPos (u.meridian n)) ((u.lane n).nodeId n) = some w ∧ winStart (u.lane n).net.almanac w ≤ cycleOffset (u.meridian n) + 4000 ∧ cycleOffset (u.meridian n) < winEnd (u.lane n).net.almanac w ∧ (u.lane n).net.tx.isSome = true ∧ (u.lane n).net.integrated = false ∧ (u.m.mode = .boot → u.m.held = false) ∧ (u.pulse n).relayPeer n = some p) ∧
    (∃ (s : State) (t : Nat) (n : Lane) (w : Nat), let u := s.at_ t; (u.lane n).netRuns = true ∧ ownWindow (u.lane n).net.almanac (matrixPos (u.meridian n)) ((u.lane n).nodeId n) = some w ∧ winStart (u.lane n).net.almanac w ≤ cycleOffset (u.meridian n) + 4000 ∧ cycleOffset (u.meridian n) < winEnd (u.lane n).net.almanac w ∧ (u.lane n).net.tx = none ∧ (u.lane n).net.integrated = true ∧ (u.m.mode = .boot → u.m.held = false)) ∧
    (∃ (s : State) (t : Nat) (n : Lane) (w : Nat), let u := s.at_ t; (u.lane n).netRuns = true ∧ ownWindow (u.lane n).net.almanac (matrixPos (u.meridian n)) ((u.lane n).nodeId n) = some w ∧ cycleOffset (u.meridian n) + 4000 < winStart (u.lane n).net.almanac w ∧ (u.lane n).net.integrated = true) ∧
    (∃ (s : State) (t : Nat) (n : Lane) (c : Chan) (m : ArbSense) (w : Nat), let u := s.at_ t; (u.lane n).netRuns = true ∧ windowAt (u.lane n).net.almanac (cycleOffset (u.meridian n)) = some w ∧ entryType (almEntry (u.lane n).net.almanac (matrixPos (u.meridian n)) w) = 3 ∧ (((u.lane n).net.chan c).state = 2 ∨ (((u.lane n).net.chan c).state = 3 ∧ ((u.lane n).net.chan c).capsDue = true)) ∧ ((u.lane n).net.chan c).capsSent = false ∧ firstFree m ((u.lane n).nodeId n) = true ∧ m.collision1 = false) ∧
    (∃ (s : State) (t : Nat) (n : Lane) (c : Chan) (m : ArbSense) (w : Nat), let u := s.at_ t; (u.lane n).netRuns = true ∧ windowAt (u.lane n).net.almanac (cycleOffset (u.meridian n)) = some w ∧ entryType (almEntry (u.lane n).net.almanac (matrixPos (u.meridian n)) w) = 3 ∧ (((u.lane n).net.chan c).state = 2 ∨ (((u.lane n).net.chan c).state = 3 ∧ ((u.lane n).net.chan c).capsDue = true)) ∧ ((u.lane n).net.chan c).capsSent = false ∧ firstFree m ((u.lane n).nodeId n) = true ∧ m.collision1 = true ∧ secondFree m ((u.lane n).nodeId n) = true ∧ m.collision2 = true) ∧
    (∃ (s : State) (t : Nat) (id : BitVec 29) (data : List Byte), let u := s.at_ t; (u.m.mode = .ready ∨ u.m.mode = .service) ∧ u.host.silent = false ∧ u.host.busOff = false ∧ u.host.busy = false ∧ id.toNat = 0x1C4F0000 + (u.lane u.scribe).tag * 0x100 ∧ data.length = 64 ∧ rd data 0 1 = 128 ∧ u.hostFed = true) ∧
    (∃ (s : State) (t : Nat) (id : BitVec 29) (data : List Byte), let u := s.at_ t; (u.m.mode = .ready ∨ u.m.mode = .service) ∧ u.host.silent = false ∧ u.host.busOff = false ∧ u.host.busy = false ∧ id.toNat = 0x1C4F0000 + (u.lane u.scribe).tag * 0x100 ∧ data.length = 64 ∧ rd data 0 1 = 192 ∧ u.hostFed = true ∧ u.host.index = 0) ∧
    (∃ (s : State) (t : Nat) (id : BitVec 29) (data : List Byte), let u := s.at_ t; (u.m.mode = .ready ∨ u.m.mode = .service) ∧ u.host.silent = false ∧ u.host.busOff = false ∧ t ≤ u.host.partAt + ms 50 ∧ id.toNat = 0x1C4F0000 + (u.lane u.scribe).tag * 0x100 ∧ data.length = 64 ∧ rd data 0 1 = u.host.index ∧ u.hostFed = true ∧ 0 < u.host.index ∧ u.host.index < 64) ∧
    (∃ (s : State) (t : Nat), let u := s.at_ t; u.host.index ≠ 0 ∧ u.host.partAt + ms 50 < t) ∧
    (∃ (bits : Nat), 1408 ≤ bits) ∧
    (∃ (held : Nat), ms 4 < held) :=
  ⟨⟨wAll .run, 1000000000000000, .l1, by decide +kernel⟩,
   ⟨{ wAll .run with
        l1.net.rx := some wFrame
        l1.net.rxOld := false }, 1000000000000000, .l1, wFrame, by decide +kernel⟩,
   ⟨{ wAll .run with
        l1.net.tx := some [] }, 1000000000174400, .l1, 2, by decide +kernel⟩,
   ⟨{ wAll .run with
        l1.net.tx := some []
        l1.net.x.state := 2
        l1.net.y.state := 2
        l1.lo.view.s6 := 0xF0000000 }, 1000000000174400, .l1, 2, .l2, by decide +kernel⟩,
   ⟨{ wAll .run with
        l1.net.tx := none }, 1000000000174400, .l1, 2, by decide +kernel⟩,
   ⟨wAll .run, 1000000000000000, .l1, 2, by decide +kernel⟩,
   ⟨{ wAll .run with
        l1.net.x.state := 2
        l1.net.x.capsSent := false }, 1000000000472000, .l1, .x, ⟨[],false,false⟩, 5, by decide +kernel⟩,
   ⟨{ wAll .run with
        l1.net.x.state := 2
        l1.net.x.capsSent := false }, 1000000000472000, .l1, .x, ⟨[],true,true⟩, 5, by decide +kernel⟩,
   ⟨{ wAll .run with
        m.mode := .ready
        host.silent := false
        host.busOff := false
        host.busy := false }, 1000000000000000, BitVec.ofNat 29 (0x1C4F0000 + 0x100), 128 :: List.replicate 63 0, by decide +kernel⟩,
   ⟨{ wAll .run with
        m.mode := .ready
        host.silent := false
        host.busOff := false
        host.busy := false
        host.index := 0 }, 1000000000000000, BitVec.ofNat 29 (0x1C4F0000 + 0x100), 192 :: List.replicate 63 0, by decide +kernel⟩,
   ⟨{ wAll .run with
        m.mode := .ready
        host.silent := false
        host.busOff := false
        host.index := 1
        host.partAt := 999999950000000 }, 1000000000000000, BitVec.ofNat 29 (0x1C4F0000 + 0x100), 1 :: List.replicate 63 0, by decide +kernel⟩,
   ⟨{ wAll .run with
        host.index := 1 }, 1000000000000000, by decide +kernel⟩,
   ⟨1408, by decide +kernel⟩,
   ⟨4000001, by decide +kernel⟩⟩

/-- Hypotheses of MeridianEventsComplete, clause by clause. -/
theorem witness_MeridianEventsComplete :
    (∃ (s : State) (t : Nat) (n : Lane), let u := s.at_ t; (u.lane n).netRuns = true) ∧
    (∃ (s : State) (t : Nat) (n : Lane) (c : Chan) (high : Nat), let u := (s.at_ t).checkEnable n c high; (u.lane n).netRuns = true ∧ (((u.lane n).net.chan c).state = 1 ∨ ((u.lane n).net.chan c).kTicks = 0)) ∧
    (∃ (s : State) (t : Nat) (n : Lane) (c : Chan) (k : Nat) (high : Nat), let u := (s.at_ t).checkEnable n c high; (u.lane n).netRuns = true ∧ (((u.lane n).net.chan c).state = 2 ∨ ((u.lane n).net.chan c).state = 3) ∧ ((u.lane n).net.chan c).kTicks ≠ 0 ∧ absQ (((u.lane n).net.chan c).phaseError k) ≤ 4000) ∧
    (∃ (s : State) (t : Nat) (n : Lane) (c : Chan) (k : Nat) (high : Nat), let u := (s.at_ t).checkEnable n c high; (u.lane n).netRuns = true ∧ (((u.lane n).net.chan c).state = 2 ∨ ((u.lane n).net.chan c).state = 3) ∧ ((u.lane n).net.chan c).kTicks ≠ 0 ∧ 4000 < absQ (((u.lane n).net.chan c).phaseError k)) ∧
    (∃ (s : State) (t : Nat) (n : Lane), let u := s.at_ t; (u.lane n).netRuns = true ∧ (u.lane n).codeN Key.netSyncHoldover ≤ (u.lane n).time.noSource) ∧
    (∃ (s : State) (t : Nat) (n : Lane) (c : Chan) (d : Int) (ds : List Int), let u := s.at_ t; (u.lane n).netRuns = true ∧ ((u.lane n).net.chan c).state = 1 ∧ (u.lane n).time.synced = false ∧ (u.lane n).time.taken = false ∧ [(u.lane n).time.s0, (u.lane n).time.s1, (u.lane n).time.s2, (u.lane n).time.s3].filterMap (·.on c) = d :: ds) ∧
    (∃ (s : State) (t : Nat) (n : Lane) (c : Chan) (d : Rat), let u := s.at_ t; (u.lane n).netRuns = true ∧ ((u.lane n).net.chan c).state = 4 ∧ 8 ≤ ((u.lane n).net.chan c).big ∧ (u.m.mode = .ready ∨ u.m.mode = .service) ∧ midpoint ([(u.lane n).time.s0.kept, (u.lane n).time.s1.kept, (u.lane n).time.s2.kept, (u.lane n).time.s3.kept].filterMap id) true = some d) ∧
    (∃ (s : State) (t : Nat) (src : Lane) (dst : Lane) (synced : Bool) (integ : Bool) (reading : Int), let u := s.at_ t; let b := timeItemBytes synced integ reading; let v := u.dropItem src dst 0x20; let flags : Byte := BitVec.ofNat 8 (rd b 3 1); src ≠ dst ∧ (u.lane dst).rst.inReset = false ∧ u.nextItem src dst 0x20 = some b ∧ (v.lane dst).netRuns = true ∧ flags.getLsbD 0 = true) ∧
    (∃ (s : State) (t : Nat) (n : Lane) (a : Int) (b : Int) (i : Nat) (j : Nat), let u := s.at_ t; (u.lane n).netRuns = true ∧ (u.lane n).net.integrated = true ∧ (u.lane n).lo.time = some (a, true, i) ∧ (u.lane n).hi.time = some (b, true, j) ∧ 2 ≤ (u.lane n).lo.skew ∧ 2 ≤ (u.lane n).hi.skew ∧ absQ ((a - b : Int) : Rat) ≤ 1000 * (u.lane n).val Key.netPeerSkew) :=
  ⟨⟨wAll .run, 1000000000000000, .l1, by decide +kernel⟩,
   ⟨{ wAll .run with
        l1.net.x.state := 1 }, 1000000000000000, .l1, .x, 0, by decide +kernel⟩,
   ⟨{ wAll .run with
        l1.net.x.state := 2
        l1.net.x.kTicks := 5120000 }, 1000000000000000, .l1, .x, 5120000, 0, by decide +kernel⟩,
   ⟨{ wAll .run with
        l1.net.x.state := 2
        l1.net.x.kTicks := 1 }, 1000000000000000, .l1, .x, 5120000, 0, by decide +kernel⟩,
   ⟨{ wAll .run with
        l1.time.noSource := 100000 }, 1000000000000000, .l1, by decide +kernel⟩,
   ⟨{ wAll .run with
        l1.net.x.state := 1
        l1.time.synced := false
        l1.time.taken := false
        l1.time.s0.x := some 0 }, 1000000000000000, .l1, .x, 0, [], by decide +kernel⟩,
   ⟨{ wAll .run with
        l1.net.x.state := 4
        l1.net.x.big := 8
        m.mode := .ready
        l1.time.s0.kept := some 0 }, 1000000000000000, .l1, .x, 0, by decide +kernel⟩,
   ⟨{ wAll .run with
        l1.lo.items := [timeItemBytes (true : Bool) (false : Bool) (0 : Int)]
        l1.rst.inReset := false }, 1000000000000000, .l2, .l1, true, false, 0, by decide +kernel⟩,
   ⟨{ wAll .run with
        l1.lo.time := some (0, true, 0)
        l1.hi.time := some (0, true, 0)
        l1.lo.skew := 2
        l1.hi.skew := 2 }, 1000000000000000, .l1, 0, 0, 0, 0, by decide +kernel⟩⟩

/-- Hypotheses of ChannelEventsComplete, clause by clause. -/
theorem witness_ChannelEventsComplete :
    (∃ (s : State) (t : Nat) (n : Lane) (c : Chan), let u := s.at_ t; (u.lane n).netRuns = true ∧ ((u.lane n).net.chan c).state = 1 ∧ (u.lane n).recordMatches n = true ∧ (u.lane n).codeN Key.netFastListen ≤ ((u.lane n).net.chan c).agree ∧ absQ (u.lane n).time.lastC ≤ 500 ∧ u.almanacAgrees n = true) ∧
    (∃ (s : State) (t : Nat) (n : Lane) (c : Chan), let u := s.at_ t; (u.lane n).netRuns = true ∧ ((u.lane n).net.chan c).state = 1 ∧ (u.lane n).recordMatches n = false ∧ 64 ≤ ((u.lane n).net.chan c).agree ∧ absQ (u.lane n).time.lastC ≤ 500 ∧ u.almanacAgrees n = true) ∧
    (∃ (s : State) (t : Nat) (n : Lane) (c : Chan), let u := s.at_ t; (u.lane n).netRuns = true ∧ ((u.lane n).net.chan c).state = 4 ∧ (u.lane n).net.admitted = true ∧ 64 ≤ ((u.lane n).net.chan c).agree ∧ absQ (u.lane n).time.lastC ≤ 500 ∧ u.almanacAgrees n = true) ∧
    (∃ (s : State) (t : Nat) (n : Lane) (c : Chan), let u := s.at_ t; (u.lane n).netRuns = true ∧ ((u.lane n).net.chan c).state = 2 ∧ ((u.lane n).net.chan c).joinLate = false ∧ ((u.lane n).net.chan c).joinAt + ms (1000 * (u.lane n).codeN Key.netJoinTimeout) ≤ t) ∧
    (∃ (s : State) (t : Nat) (n : Lane) (c : Chan), let u := s.at_ t; (u.lane n).netRuns = true ∧ ((u.lane n).codeN Key.netChannels).testBit c.num = true ∧ ((u.lane n).net.chan c).state ≠ 3 ∧ ((u.lane n).net.chan c).lostLog = false ∧ ((u.lane n).net.chan c).away + ms 64 ≤ t) ∧
    (∃ (s : State) (t : Nat) (n : Lane) (p : List Byte), let u := s.at_ t; (u.lane n).net.pendAlm = some p ∧ (u.lane n).netRuns = true ∧ (u.lane n).time.synced = true ∧ matrixPos (u.meridian n) = 0 ∧ (almTime p : Int) ≤ u.meridian n / 32000000 * 32000000 ∧ (u.lane n).net.switchAfter < u.meridian n / 32000000 * 32000000) ∧
    (∃ (s : State) (t : Nat) (src : Lane) (dst : Lane) (g : Segment), let u := s.at_ t; let b := segmentItem 0x12 g.off g.data; let v := u.dropItem src dst 0x12; let got := if rd b 3 4 = 0 then b.drop 7 else (v.lane dst).net.almXfer ++ b.drop 7; src ≠ dst ∧ (u.lane dst).rst.inReset = false ∧ u.nextItem src dst 0x12 = some b ∧ (v.lane dst).netRuns = true ∧ (rd b 3 4 = 0 ∨ rd b 3 4 = (v.lane dst).net.almXfer.length) ∧ (got.length < 64 ∨ got.length < 3437 + pkgBody got)) ∧
    (∃ (s : State) (t : Nat) (src : Lane) (dst : Lane) (g : Segment) (order : Nat) (o : Nat), let u := s.at_ t; let b := segmentItem 0x12 g.off g.data; let v := u.dropItem src dst 0x12; let got := if rd b 3 4 = 0 then b.drop 7 else (v.lane dst).net.almXfer ++ b.drop 7; let pkg := got.take (3437 + pkgBody got); src ≠ dst ∧ (u.lane dst).rst.inReset = false ∧ u.nextItem src dst 0x12 = some b ∧ (v.lane dst).netRuns = true ∧ (rd b 3 4 = 0 ∨ rd b 3 4 = (v.lane dst).net.almXfer.length) ∧ 64 ≤ got.length ∧ 3437 + pkgBody got ≤ got.length ∧ (v.lane dst).pkgOrders [3] pkg = some (order, o)) ∧
    (∃ (s : State) (t : Nat) (src : Lane) (dst : Lane) (act : Word) (pend : Word) (at_ : Dword), let u := s.at_ t; let b := scheduleItem act pend at_; let v := u.dropItem src dst 0x13; src ≠ dst ∧ (u.lane dst).rst.inReset = false ∧ u.nextItem src dst 0x13 = some b ∧ (v.lane dst).role ≠ .leader) ∧
    (∃ (s : State) (t : Nat) (src : Lane) (dst : Lane) (act : Word) (pend : Word) (at_ : Dword) (pkg : List Byte), let u := s.at_ t; let b := scheduleItem act pend at_; let v := u.dropItem src dst 0x13; let w := v.onLink src dst (fun k => { k with sched := some (BitVec.ofNat 32 (rd b 3 4), BitVec.ofNat 32 (rd b 7 4), BitVec.ofNat 64 (rd b 11 8)) }); src ≠ dst ∧ (u.lane dst).rst.inReset = false ∧ u.nextItem src dst 0x13 = some b ∧ (v.lane dst).role = .leader ∧ (w.link src dst).txq.any (fun i => itemType i == 0x12) = false ∧ (w.lane dst).missingPackage dst (BitVec.ofNat 32 (rd b 3 4)) (BitVec.ofNat 32 (rd b 7 4)) = some pkg) :=
  ⟨⟨{ wAll .run with
        l1.net.x.state := 1
        l1.net.x.agree := 100000 }, 1000000000000000, .l1, .x, by decide +kernel⟩,
   ⟨{ wAll .run with
        l1.net.x.state := 1
        l1.net.x.agree := 64
        l1.net.adm := none }, 1000000000000000, .l1, .x, by decide +kernel⟩,
   ⟨{ wAll .run with
        l1.net.x.state := 4
        l1.net.admitted := true
        l1.net.x.agree := 64 }, 1000000000000000, .l1, .x, by decide +kernel⟩,
   ⟨{ wAll .run with
        l1.net.x.state := 2
        l1.net.x.joinLate := false }, 1000000000000000, .l1, .x, by decide +kernel⟩,
   ⟨{ wAll .run with
        l1.net.x.lostLog := false
        l1.net.x.state := 4 }, 1000000000000000, .l1, .x, by decide +kernel⟩,
   ⟨{ wAll .run with
        l1.net.pendAlm := some ([])
        l1.time.synced := true }, 1000000000000000, .l1, [], by decide +kernel⟩,
   ⟨{ wAll .run with
        l1.lo.items := [segmentItem 0x12 (⟨0, []⟩ : Segment).off (⟨0, []⟩ : Segment).data]
        l1.rst.inReset := false }, 1000000000000000, .l2, .l1, ⟨0, []⟩, by decide +kernel⟩,
   ⟨{ wAll .run with
        l1.lo.items := [segmentItem 0x12 (⟨3436, [0]⟩ : Segment).off (⟨3436, [0]⟩ : Segment).data]
        l1.rst.inReset := false
        l1.net.almXfer := List.replicate 3436 0 }, 1000000000000000, .l2, .l1, ⟨3436, [0]⟩, 1, 0, by decide +kernel⟩,
   ⟨{ wAll .run with
        l1.lo.items := [scheduleItem (0 : Word) (0 : Word) (0 : Dword)]
        l1.rst.inReset := false
        l1.role := .member }, 1000000000000000, .l2, .l1, 0, 0, 0, by decide +kernel⟩,
   ⟨{ wAll .run with
        l1.lo.items := [scheduleItem (0x01010101 : Word) (0 : Word) (0 : Dword)]
        l1.rst.inReset := false
        l1.role := .leader
        l1.net.actAlm := [0] }, 1000000000000000, .l2, .l1, 0x01010101, 0, 0, (let l : LaneSt := { (wAll .run).l1 with net.actAlm := [0] }; l.storedPackage .l1 l.net.almBases.1), ⟨by decide +kernel, by decide +kernel, by decide +kernel, by decide +kernel, by decide +kernel, rfl⟩⟩⟩

/-- Hypotheses of SensorSupplyAndSentEventsComplete, clause by clause. -/
theorem witness_SensorSupplyAndSentEventsComplete :
    (∃ (s : State) (t : Nat) (n : Lane), let u := s.at_ t; (u.lane n).sup.svccOn = true) ∧
    (∃ (s : State) (t : Nat) (n : Lane) (p : SentPort) (i : Byte) (data : Half), let u := s.at_ t; (u.lane n).sup.svccOn = true ∧ serialOf ((u.lane n).sentPar p).serial ((u.lane n).sent p).bits = some (i, data, true)) ∧
    (∃ (s : State) (t : Nat) (n : Lane) (p : SentPort) (i : Byte) (data : Half), let u := s.at_ t; (u.lane n).sup.svccOn = true ∧ serialOf ((u.lane n).sentPar p).serial ((u.lane n).sent p).bits = some (i, data, false)) ∧
    (∃ (s : State) (t : Nat) (n : Lane) (p : SentPort), let u := s.at_ t; (u.lane n).sup.svccOn = true ∧ ((u.lane n).sent p).errs.getLsbD 0 = false ∧ (u.lane n).timeoutFrom p ≤ t ∧ (u.lane n).timeoutNs p ≤ ((t - (u.lane n).timeoutFrom p : Nat) : Rat)) ∧
    (∃ (s : State) (t : Nat) (n : Lane) (mv : Nat) (held : Nat), let u := s.at_ t; (u.lane n).sup.svccOn = true ∧ (u.lane n).sup.svccFault = false ∧ mv < 4500 ∧ ms 1 ≤ held) ∧
    (∃ (s : State) (t : Nat) (n : Lane) (mv : Nat) (held : Nat), let u := s.at_ t; (u.lane n).sup.svccOn = true ∧ (u.lane n).sup.svccFault = true ∧ 4750 < mv ∧ ms 1 ≤ held) ∧
    (∃ (s : State) (t : Nat) (n : Lane), let u := s.at_ t; (u.lane n).sup.svccOn = true ∧ (u.lane n).sup.svccFault = true ∧ (u.lane n).sup.svccRetry + ms 100 ≤ t) :=
  ⟨⟨{ wAll .run with
        l1.sup.svccOn := true }, 1000000000000000, .l1, by decide +kernel⟩,
   ⟨{ wAll .run with
        l1.sup.svccOn := true
        l1.par.force := [(Key.sentSerialA, 1)]
        l1.sentA.bits := wSerial (Config.serialCrc4 (List.replicate 12 false)) }, 1000000000000000, .l1, .a, 0, 0, ⟨rfl, serialOf_good⟩⟩,
   ⟨{ wAll .run with
        l1.sup.svccOn := true
        l1.par.force := [(Key.sentSerialA, 1)]
        l1.sentA.bits := wSerial (Config.serialCrc4 (List.replicate 12 false) + 1) }, 1000000000000000, .l1, .a, 0, 0, ⟨rfl, serialOf_bad⟩⟩,
   ⟨{ wAll .run with
        l1.sup.svccOn := true }, 1000000000000000, .l1, .a, by decide +kernel⟩,
   ⟨{ wAll .run with
        l1.sup.svccOn := true
        l1.sup.svccFault := false }, 1000000000000000, .l1, 4499, 1000000, by decide +kernel⟩,
   ⟨{ wAll .run with
        l1.sup.svccOn := true
        l1.sup.svccFault := true }, 1000000000000000, .l1, 4751, 1000000, by decide +kernel⟩,
   ⟨{ wAll .run with
        l1.sup.svccOn := true
        l1.sup.svccFault := true }, 1000000000000000, .l1, by decide +kernel⟩⟩

/-- Hypotheses of QuadSwitchAndCompareEventsComplete, clause by clause. -/
theorem witness_QuadSwitchAndCompareEventsComplete :
    (∃ (s : State) (t : Nat) (n : Lane) (a : Bool) (b : Bool) (stable : Nat), let u := s.at_ t; (u.lane n).rst.inReset = false ∧ (u.lane n).codeN Key.quadFilterN ≤ stable ∧ (u.lane n).quad.a ≠ a ∧ (u.lane n).quad.b ≠ b) ∧
    (∃ (s : State) (t : Nat) (n : Lane) (stable : Nat), let u := s.at_ t; stable < (u.lane n).codeN Key.quadFilterN) ∧
    (∃ (s : State) (t : Nat) (n : Lane) (a : Bool) (b : Bool) (stable : Nat), let u := s.at_ t; (u.lane n).rst.inReset = false ∧ (u.lane n).codeN Key.quadFilterN ≤ stable ∧ (((u.lane n).quad.a ≠ a ∧ (u.lane n).quad.b = b) ∨ ((u.lane n).quad.a = a ∧ (u.lane n).quad.b ≠ b))) ∧
    (∃ (s : State) (t : Nat) (n : Lane), let u := s.at_ t; (u.lane n).codeN Key.quadIllegalLimit ≤ ((u.lane n).quad.illegal.filter (fun i => decide (t < i + (u.lane n).codeN Key.quadIllegalWindow * 100000))).length) ∧
    (∃ (s : State) (t : Nat) (n : Lane), let u := s.at_ t; 1000 < ((u.lane n).quad.edges.filter (fun i => decide (t < i + us 100))).length) ∧
    (∃ (s : State) (t : Nat) (n : Lane) (p : Rat), let u := s.at_ t; (u.lane n).quad.valid = false ∧ (u.lane n).sup.svccFault = false ∧ (u.lane n).rst.inReset = false ∧ (u.lane n).quad.faultAt + ms ((u.lane n).codeN Key.quadRecover) ≤ t ∧ combine ((u.peerTravel n).map (·.2)) = some p) ∧
    (∃ (s : State) (t : Nat) (n : Lane) (k : SwPort) (held : Nat), let u := s.at_ t; (u.lane n).fitted k = true ∧ (u.lane n).rst.inReset = false ∧ ((u.lane n).sw k).chatter = false ∧ (u.lane n).swFilter k ≤ held) ∧
    (∃ (s : State) (t : Nat) (n : Lane) (k : SwPort) (ats : List Nat), let u := s.at_ t; let w := u.onLane n (·.onSw k (·.noteChanges (ats.filter (fun a => decide (a ≤ t))))); (u.lane n).fitted k = true ∧ (u.lane n).rst.inReset = false ∧ ((w.lane n).sw k).chatter = false ∧ (w.lane n).codeN Key.swChatterK < ((w.lane n).sw k).inWindow t (ms ((w.lane n).codeN Key.swChatterW))) ∧
    (∃ (s : State) (t : Nat) (n : Lane) (k : SwPort) (held : Nat), let u := s.at_ t; (u.lane n).fitted k = true ∧ ((u.lane n).sw k).chatter = true ∧ ms ((u.lane n).codeN Key.swChatterW) ≤ held ∧ ((u.lane n).sw k).inWindow t (ms ((u.lane n).codeN Key.swChatterW)) = 0) ∧
    (∃ (s : State) (t : Nat) (n : Lane) (k : SwPort), let u := s.at_ t; (u.lane n).fitted k = true ∧ ((u.lane n).sw k).state = true ∧ ((u.lane n).sw k).chatter = false ∧ ((u.lane n).sw k).stuck = false ∧ (((u.lane n).swStuck k ≠ 0 ∧ ((u.lane n).sw k).since + (u.lane n).swStuck k < t) ∨ (k = .sw1 ∧ u.farFromEnds n = true))) ∧
    (∃ (s : State) (t : Nat) (n : Lane) (k : BitVec 2) (st : Dword) (v : Int), let u := s.at_ t; (u.lane n).state = .active ∧ ((u.lane n).slot k).state = 1 ∧ ((u.lane n).slot k).hit = some (st, v)) ∧
    (∃ (s : State) (t : Nat) (n : Lane) (k : BitVec 2), let u := s.at_ t; ((u.lane n).slot k).hit = none) :=
  ⟨⟨{ wAll .run with
        l1.rst.inReset := false }, 1000000000000000, .l1, true, true, 100, by decide +kernel⟩,
   ⟨wAll .run, 1000000000000000, .l1, 0, by decide +kernel⟩,
   ⟨{ wAll .run with
        l1.rst.inReset := false }, 1000000000000000, .l1, true, false, 100, by decide +kernel⟩,
   ⟨{ wAll .run with
        l1.quad.illegal := List.replicate 100 1000000000000000 }, 1000000000000000, .l1, by decide +kernel⟩,
   ⟨{ wAll .run with
        l1.quad.edges := List.replicate 1001 1000000000000000 }, 1000000000000000, .l1, by decide +kernel⟩,
   ⟨{ wAll .run with
        l1.quad.valid := false
        l1.sup.svccFault := false
        l1.rst.inReset := false
        l2.quad.valid := true }, 1000000000000000, .l1, 0, by decide +kernel⟩,
   ⟨{ wAll .run with
        l1.rst.inReset := false
        l1.sw1.chatter := false
        l1.par.force := [(Key.sw1Fitted, 1)] }, 1000000000000000, .l1, .sw1, 1000000000, by decide +kernel⟩,
   ⟨{ wAll .run with
        l1.rst.inReset := false
        l1.par.force := [(Key.sw1Fitted, 1)] }, 1000000000000000, .l1, .sw1, List.replicate 100 1000000000000000, by decide +kernel⟩,
   ⟨{ wAll .run with
        l1.sw1.chatter := true
        l1.par.force := [(Key.sw1Fitted, 1)] }, 1000000000000000, .l1, .sw1, 100000000000, by decide +kernel⟩,
   ⟨{ wAll .run with
        l1.sw1.state := true
        l1.sw1.chatter := false
        l1.sw1.stuck := false
        l1.par.force := [(Key.sw1Fitted, 1), (Key.sw1StuckTime, 1)] }, 1000000000000000, .l1, .sw1, by decide +kernel⟩,
   ⟨{ wAll .run with
        l1.state := .active
        l1.c0.state := 1
        l1.c0.hit := some (0, 0)
        l1.quad.valid := true }, 1000000000000000, .l1, 0, 0, 0, by decide +kernel⟩,
   ⟨{ wAll .run with
        l1.c0.hit := none
        l1.quad.valid := true }, 1000000000000000, .l1, 0, by decide +kernel⟩⟩

/-- Hypotheses of TwinEventsComplete, clause by clause. -/
theorem witness_TwinEventsComplete :
    (∃ (s : State) (t : Nat) (k : TwinLink) (ws : List XWord) (ds : List Dword) (fixed : Nat), let u := s.at_ t; let idx : Half := BitVec.ofNat 16 (fld (ds.getD 0 0) 0 16); u.twinPos ≠ 0 ∧ u.twinServed k = true ∧ ws.length = 7 ∧ checkWords twinId 0 ws = some (ds, fixed) ∧ fld (ds.getD 0 0) 60 4 = 1 ∧ fld (ds.getD 0 0) 58 2 ≠ u.twinPos ∧ (fld (ds.getD 0 0) 58 2 = 1 ∨ fld (ds.getD 0 0) 58 2 = 2) ∧ u.twin.used.contains idx = false) ∧
    (∃ (s : State) (t : Nat) (k : TwinLink) (ws : List XWord) (ds : List Dword) (fixed : Nat), let u := s.at_ t; let idx : Half := BitVec.ofNat 16 (fld (ds.getD 0 0) 0 16); u.twinPos ≠ 0 ∧ u.twinServed k = true ∧ ws.length = 7 ∧ checkWords twinId 0 ws = some (ds, fixed) ∧ fld (ds.getD 0 0) 60 4 = 1 ∧ fld (ds.getD 0 0) 58 2 ≠ u.twinPos ∧ (fld (ds.getD 0 0) 58 2 = 1 ∨ fld (ds.getD 0 0) 58 2 = 2) ∧ u.twin.used.contains idx = true) ∧
    (∃ (s : State) (t : Nat) (k : TwinLink) (ws : List XWord) (ds : List Dword) (fixed : Nat), let u := s.at_ t; u.twinPos ≠ 0 ∧ u.twinServed k = true ∧ ws.length = 7 ∧ checkWords twinId 0 ws = some (ds, fixed) ∧ fld (ds.getD 0 0) 60 4 = 1 ∧ fld (ds.getD 0 0) 58 2 = u.twinPos) ∧
    (∃ (s : State) (t : Nat) (k : TwinLink), let u := s.at_ t; u.twinPos ≠ 0 ∧ (u.twin.link k).down = false ∧ (u.lane u.scribe).codeN Key.twinLossSteps ≤ (u.twin.link k).lost) :=
  ⟨⟨{ wAll .run with
        l1.par.force := [(Key.twinPosition, 1)] }, 1000000000000000, .k1, ((BitVec.ofNat 64 (2^60 + 2*2^58) :: List.replicate 6 0 : List Dword).zipIdx 0 |>.map (fun e => XWord.encode e.1 (foldLink twinId e.2))), BitVec.ofNat 64 (2^60 + 2*2^58) :: List.replicate 6 0, 0, ⟨by decide +kernel, by decide +kernel, by decide +kernel, checkWords_encode _ _ _, by decide +kernel⟩⟩,
   ⟨{ wAll .run with
        l1.par.force := [(Key.twinPosition, 1)]
        twin.used := [0] }, 1000000000000000, .k1, ((BitVec.ofNat 64 (2^60 + 2*2^58) :: List.replicate 6 0 : List Dword).zipIdx 0 |>.map (fun e => XWord.encode e.1 (foldLink twinId e.2))), BitVec.ofNat 64 (2^60 + 2*2^58) :: List.replicate 6 0, 0, ⟨by decide +kernel, by decide +kernel, by decide +kernel, checkWords_encode _ _ _, by decide +kernel⟩⟩,
   ⟨{ wAll .run with
        l1.par.force := [(Key.twinPosition, 1)] }, 1000000000000000, .k1, ((BitVec.ofNat 64 (2^60 + 2^58) :: List.replicate 6 0 : List Dword).zipIdx 0 |>.map (fun e => XWord.encode e.1 (foldLink twinId e.2))), BitVec.ofNat 64 (2^60 + 2^58) :: List.replicate 6 0, 0, ⟨by decide +kernel, by decide +kernel, by decide +kernel, checkWords_encode _ _ _, by decide +kernel⟩⟩,
   ⟨{ wAll .run with
        twin.k1.down := false
        twin.k1.lost := 100000
        l1.par.force := [(Key.twinPosition, 1)] }, 1000000000000000, .k1, by decide +kernel⟩⟩

/-- Hypotheses of HomingEventsComplete, clause by clause. -/
theorem witness_HomingEventsComplete :
    (∃ (s : State) (t : Nat), let u := s.at_ t; u.hom.running = some Axis.s ∧ (u.hom.steer = 1 ∨ u.hom.steer = 2) ∧ u.m.runEntry = 0 ∧ (u.lane u.scribe).prof.steer.kind = 1 ∧ ((∃ a, u.hom.pushSince = some a ∧ a + ms ((u.lane u.scribe).codeN Key.homeSRiseTime) ≤ t) ∨ (u.endStop u.scribe = true ∧ u.endStopPos u.scribe = (u.hom.steer == 2) ∧ u.sw1Lanes u.scribe ≠ []))) ∧
    (∃ (s : State) (t : Nat), let u := s.at_ t; u.hom.running = some Axis.s ∧ (u.hom.steer = 1 ∨ u.hom.steer = 2) ∧ u.m.runEntry = 0 ∧ (u.lane u.scribe).prof.steer.kind = 1 ∧ u.oppositeStop u.hom.steer = true ∧ (u.hom.wasOn = false ∨ pctUnits ((u.lane u.scribe).val Key.homeSSwitchClear) < absQ (u.measured u.scribe .s - (u.hom.from_ : Rat)))) ∧
    (∃ (s : State) (t : Nat), let u := s.at_ t; u.hom.running = some Axis.b ∧ u.hom.brake = 1 ∧ u.m.runEntry = 0 ∧ (u.lane u.scribe).val Key.homeBRetract ≤ ((u.hom.from_ - u.homeCount : Int) : Rat) ∧ forceUnits ((u.lane u.scribe).val Key.homeBKissForce) ≤ u.measured u.scribe .b) ∧
    (∃ (s : State) (t : Nat), let u := s.at_ t; u.hom.running = some Axis.b ∧ u.hom.brake = 1 ∧ u.m.runEntry = 0 ∧ (u.lane u.scribe).val Key.homeBRetract ≤ ((u.hom.from_ - u.homeCount : Int) : Rat) ∧ u.measured u.scribe .b < forceUnits ((u.lane u.scribe).val Key.homeBKissForce)) ∧
    (∃ (s : State) (t : Nat), let u := s.at_ t; u.hom.running = some Axis.b ∧ u.hom.brake = 2 ∧ forceUnits ((u.lane u.scribe).val Key.homeBKissForce) ≤ u.measured u.scribe .b) ∧
    (∃ (s : State) (t : Nat), let u := s.at_ t; u.hom.running = some Axis.b ∧ u.hom.brake = 3 ∧ forceUnits ((u.lane u.scribe).val Key.homeBStiffForce) ≤ u.measured u.scribe .b ∧ u.hom.pk < u.homeCount) ∧
    (∃ (s : State) (t : Nat), let u := s.at_ t; u.hom.running = some Axis.s ∧ u.hom.steer = 4 ∧ (u.lane u.scribe).prof.steer.resting = true) ∧
    (∃ (s : State) (t : Nat), let u := s.at_ t; u.hom.running = some Axis.b ∧ u.hom.brake = 5 ∧ (u.lane u.scribe).prof.brake.resting = true) ∧
    (∃ (s : State) (t : Nat), let u := s.at_ t; (u.hom.axS = true ∨ u.hom.axB = true) ∧ u.hom.at_ + 1000000000 * (u.lane u.scribe).codeN Key.homeTimeout ≤ t) :=
  ⟨⟨{ wAll .run with
        hom.steer := 1
        m.runEntry := 0
        l1.prof.steer.kind := 1
        hom.axS := true
        l1.sentA.accepted := true
        l1.sentA.okStatus := true
        l1.par.force := [(Key.sw1Fitted, 1)]
        l1.sw1.state := true
        l1.cal.endNeg := some (-100)
        l1.cal.endPos := some 100
        l1.sentA.value := -1000000 }, 1000000000000000, by refine ⟨?_, ?_, ?_, ?_, Or.inr ?_⟩ <;> decide +kernel⟩,
   ⟨{ wAll .run with
        hom.steer := 1
        m.runEntry := 0
        l1.prof.steer.kind := 1
        hom.wasOn := false
        hom.axS := true
        l1.sentA.accepted := true
        l1.sentA.okStatus := true
        l1.par.force := [(Key.sw1Fitted, 1)]
        l1.sw1.state := true
        l1.cal.endNeg := some (-100)
        l1.cal.endPos := some 100
        l1.sentA.value := 1000000 }, 1000000000000000, by decide +kernel⟩,
   ⟨{ wAll .run with
        hom.brake := 1
        m.runEntry := 0
        hom.axB := true
        l1.sentB.accepted := true
        l1.sentB.okStatus := true
        l1.sentB.value := 2000000000
        hom.from_ := 100000000 }, 1000000000000000, by decide +kernel⟩,
   ⟨{ wAll .run with
        hom.brake := 1
        m.runEntry := 0
        hom.axB := true
        l1.sentB.accepted := true
        l1.sentB.okStatus := true
        l1.sentB.value := -2147483648
        hom.from_ := 100000000 }, 1000000000000000, by decide +kernel⟩,
   ⟨{ wAll .run with
        hom.brake := 2
        hom.axB := true
        l1.sentB.accepted := true
        l1.sentB.okStatus := true
        l1.sentB.value := 2000000000 }, 1000000000000000, by decide +kernel⟩,
   ⟨{ wAll .run with
        hom.brake := 3
        hom.axB := true
        l1.sentB.accepted := true
        l1.sentB.okStatus := true
        l1.sentB.value := 2000000000
        hom.pk := -1 }, 1000000000000000, by decide +kernel⟩,
   ⟨{ wAll .run with
        hom.steer := 4
        hom.axS := true }, 1000000000000000, by decide +kernel⟩,
   ⟨{ wAll .run with
        hom.brake := 5
        hom.axB := true }, 1000000000000000, by decide +kernel⟩,
   ⟨{ wAll .run with
        hom.axS := true }, 1000000000000000, by decide +kernel⟩⟩

/-- Hypotheses of PeriodAndStepEventsComplete, clause by clause. -/
theorem witness_PeriodAndStepEventsComplete :
    (∃ (s : State) (t : Nat) (n : Lane), let u := s.at_ t; (u.lane n).rst.inReset = false ∧ (u.lane n).state ≠ .off) ∧
    (∃ (s : State) (t : Nat) (n : Lane), let u := s.at_ t; (u.lane n).rst.inReset = false ∧ (u.lane n).state = .off ∧ (u.lane n).rst.bootFailed ≠ none) ∧
    (∃ (s : State) (t : Nat) (n : Lane) (x : Axis) (m : CurrentSample), let u := s.at_ t; (u.lane n).rst.inReset = false ∧ (m.down = true ∨ (u.lane n).double = true) ∧ ((u.lane n).set x).short = false ∧ ((u.lane n).set x).switching = true) ∧
    (∃ (s : State) (t : Nat) (n : Lane) (x : Axis) (m : CurrentSample), let u := s.at_ t; (u.lane n).rst.inReset = false ∧ (m.down = true ∨ (u.lane n).double = true) ∧ ((u.lane n).set x).short = false ∧ ((u.lane n).set x).switching = false) ∧
    (∃ (s : State) (t : Nat) (n : Lane), let u := s.at_ t; (u.lane n).rst.inReset = false) ∧
    (∃ (s : State) (t : Nat) (n : Lane), let u := s.at_ t; (u.lane n).rst.inReset = false ∧ (u.lane n).state ≠ .off ∧ (u.lane n).state ≠ .starting) ∧
    (∃ (s : State) (t : Nat) (n : Lane) (x : Axis), let u := s.at_ t; ((u.lane n).set x).limited = false ∧ (u.lane n).codeN Key.csMissLimit ≤ ((u.lane n).set x).miss) ∧
    (∃ (s : State) (t : Nat) (n : Lane) (x : Axis), let u := s.at_ t; ((u.lane n).set x).limited = true ∧ (u.lane n).codeN Key.csMissLimit ≤ ((u.lane n).set x).clean) ∧
    (∃ (s : State) (t : Nat) (n : Lane) (x : Axis), let u := s.at_ t; let k := (u.lane n).mismatchKind ((u.lane n).set x); (u.lane n).rst.inReset = false ∧ k ≠ 0 ∧ (u.lane n).mapBit x.mapBit = false) ∧
    (∃ (s : State) (t : Nat) (n : Lane), let u := s.at_ t; 16 ≤ (u.lane n).ctr.carrierRun) ∧
    (∃ (s : State) (t : Nat) (n : Lane) (m : Lane) (x : Axis), let u := s.at_ t; (u.lane n).rst.inReset = false ∧ ((u.lane n).term m x).heatLow = false ∧ (u.lane n).eMax x ≤ ((u.lane n).term m x).heat) ∧
    (∃ (s : State) (t : Nat) (n : Lane) (m : Lane) (x : Axis), let u := s.at_ t; (u.lane n).rst.inReset = false ∧ ((u.lane n).term m x).heatLow = true ∧ ((u.lane n).term m x).heat < (u.lane n).eMax x / 2) :=
  ⟨⟨{ wAll .run with
        l1.rst.inReset := false }, 1000000000000000, .l1, by decide +kernel⟩,
   ⟨{ wAll .run with
        l1.rst.inReset := false
        l1.state := .off
        l1.rst.bootFailed := some 4 }, 1000000000000000, .l1, by decide +kernel⟩,
   ⟨{ wAll .run with
        l1.rst.inReset := false
        l1.s.short := false
        l1.s.switching := true }, 1000000000000000, .l1, .s, ⟨true,0x2000,0x2000,⟨0,0,0⟩,⟨0,0,0⟩⟩, by decide +kernel⟩,
   ⟨{ wAll .run with
        l1.rst.inReset := false
        l1.s.short := false
        l1.s.switching := false }, 1000000000000000, .l1, .s, ⟨true,0x2000,0x2000,⟨0,0,0⟩,⟨0,0,0⟩⟩, by decide +kernel⟩,
   ⟨{ wAll .run with
        l1.rst.inReset := false }, 1000000000000000, .l1, by decide +kernel⟩,
   ⟨{ wAll .run with
        l1.rst.inReset := false }, 1000000000000000, .l1, by decide +kernel⟩,
   ⟨{ wAll .run with
        l1.s.limited := false
        l1.s.miss := 100000 }, 1000000000000000, .l1, .s, by decide +kernel⟩,
   ⟨{ wAll .run with
        l1.s.limited := true
        l1.s.clean := 100000 }, 1000000000000000, .l1, .s, by decide +kernel⟩,
   ⟨{ wAll .run with
        l1.rst.inReset := false
        l1.s.xc1 := 100000 }, 1000000000000000, .l1, .s, by decide +kernel⟩,
   ⟨{ wAll .run with
        l1.ctr.carrierRun := 16 }, 1000000000000000, .l1, by decide +kernel⟩,
   ⟨{ wAll .run with
        l1.rst.inReset := false
        l1.k2.s.heat := 1000000000000 }, 1000000000000000, .l1, .l2, .s, by decide +kernel⟩,
   ⟨{ wAll .run with
        l1.rst.inReset := false
        l1.k2.s.heatLow := true }, 1000000000000000, .l1, .l2, .s, by decide +kernel⟩⟩

/-- Hypotheses of EnergisingAndObserverEventsComplete, clause by clause. -/
theorem witness_EnergisingAndObserverEventsComplete :
    (∃ (s : State) (t : Nat), let u := s.at_ t; u.m.runEntry = 3 ∧ u.m.stepAt < t) ∧
    (∃ (s : State) (t : Nat), let u := s.at_ t; u.m.runEntry = 5 ∧ u.hom.inReady = false ∧ u.m.mode = .ready ∧ u.meas.loadOn = false) ∧
    (∃ (s : State) (t : Nat), let u := s.at_ t; u.m.runEntry = 5 ∧ u.hom.inReady = true) ∧
    (∃ (s : State) (t : Nat), let u := s.at_ t; (u.m.mode = .run ∨ u.m.mode = .limp) ∧ u.hold.sOn = false ∧ u.holdDue u.hold.sSince = true) ∧
    (∃ (s : State) (t : Nat), let u := s.at_ t; (u.m.mode = .run ∨ u.m.mode = .limp) ∧ (u.hold.bOn = false ∨ u.hold.bAgain = true) ∧ u.holdDue u.hold.bSince = true) ∧
    (∃ (s : State) (t : Nat), let u := s.at_ t; u.hold.bOn = true ∧ u.hold.bDone = false ∧ u.hold.bAt + ms ((u.lane u.scribe).codeN Key.holdBDwell) ≤ t) ∧
    (∃ (s : State) (t : Nat) (n : Lane) (m : CatchPair), let u := s.at_ t; let a := u.catchSet n .s m.s; let b := a.1.catchSet n .b m.b; u.catchDue n = some 1 ∧ (u.lane n).catchWaits m.s = false ∧ (u.lane n).catchWaits m.b = false ∧ a.2 = false ∧ b.2 = false) ∧
    (∃ (s : State) (t : Nat) (n : Lane) (m : CatchPair), let u := s.at_ t; let a := u.catchSet n .s m.s; let b := a.1.catchSet n .b m.b; u.catchDue n = some 1 ∧ (u.lane n).catchWaits m.s = false ∧ (u.lane n).catchWaits m.b = false ∧ (a.2 = true ∨ b.2 = true)) ∧
    (∃ (s : State) (t : Nat) (n : Lane) (m : CatchPair) (k : Nat), let u := s.at_ t; let a := u.catchSet n .s m.s; let b := a.1.catchSet n .b m.b; u.catchDue n = some k ∧ k ≠ 1 ∧ (u.lane n).catchWaits m.s = false ∧ (u.lane n).catchWaits m.b = false ∧ a.2 = false ∧ b.2 = false) ∧
    (∃ (s : State) (t : Nat) (x : Axis), let u := s.at_ t; u.m.acq.contains x = true ∧ u.m.acqEnd.contains x = false ∧ (u.m.runEntry = 4 ∨ u.m.runEntry = 0) ∧ u.m.acqAt + ms ((u.lane u.scribe).codeN Key.obsAcqTime) ≤ t) ∧
    (∃ (s : State) (t : Nat) (n : Lane), let u := s.at_ t; u.m.acq.all (fun x => u.m.acqEnd.contains x) = true ∧ allLanes.find? u.awaitsPolarity = some n) ∧
    (∃ (s : State) (t : Nat) (n : Lane) (x : Axis) (a : Lane × Half) (b : Lane × Half) (c : Lane × Half), let u := s.at_ t; u.m.acqEnd.contains x = true ∧ u.m.polDone.contains x = false ∧ (u.acquirers x).any (fun n => decide (((u.lane n).set x).obs.stage = 1)) = false ∧ u.decidedSets x = [a, b, c]) ∧
    (∃ (s : State) (t : Nat) (x : Axis), let u := s.at_ t; (u.m.mode = .run ∨ u.m.mode = .limp) ∧ u.m.noCon x = false ∧ ((u.lane u.scribe).con x).count = 0 ∧ ((u.lane u.scribe).con x).seen + ms ((u.lane u.scribe).codeN Key.obsHoldover) ≤ t ∧ u.m.acq.contains x = false) ∧
    (∃ (s : State) (t : Nat) (n : Lane) (x : Axis) (k : Lane × Half × Half), let u := s.at_ t; ((u.lane n).con x).counted.find? (fun k => k.1 == n) = some k ∧ (u.lane n).state = .active ∧ ((u.lane n).set x).obs.suspect = false) ∧
    (∃ (s : State) (t : Nat) (n : Lane) (x : Axis), let u := s.at_ t; ((u.lane n).set x).switching = true ∧ 4 ≤ ((u.lane n).set x).obs.injRun ∧ ((u.lane n).set x).obs.injFault = false) ∧
    (∃ (s : State) (t : Nat) (n : Lane) (x : Axis), let u := s.at_ t; 16 ≤ ((u.lane n).set x).obs.psiRun ∧ ((u.lane n).set x).obs.psiBad = false) :=
  ⟨⟨{ wAll .run with
        m.runEntry := 3 }, 1000000000000000, by decide +kernel⟩,
   ⟨{ wAll .run with
        m.runEntry := 5
        hom.inReady := false
        m.mode := .ready
        meas.loadOn := false }, 1000000000000000, by decide +kernel⟩,
   ⟨{ wAll .run with
        m.runEntry := 5
        hom.inReady := true }, 1000000000000000, by decide +kernel⟩,
   ⟨{ wAll .run with
        m.mode := .run
        hold.sOn := false
        hold.sSince := some 0 }, 1000000000000000, by decide +kernel⟩,
   ⟨{ wAll .run with
        m.mode := .run
        hold.bOn := false
        hold.bSince := some 0 }, 1000000000000000, by decide +kernel⟩,
   ⟨{ wAll .run with
        hold.bOn := true
        hold.bDone := false }, 1000000000000000, by decide +kernel⟩,
   ⟨{ wAll .run with
        l1.state := .rejoining
        l1.rejoin.step := 3 }, 1000000000000000, .l1, wCatch, by decide +kernel⟩,
   ⟨{ wAll .run with
        l1.state := .rejoining
        l1.rejoin.step := 3
        l1.sup.auxLink := 48000 }, 1000000000000000, .l1, ⟨⟨⟨1000, 0, 0⟩, ⟨0, 0, 0⟩, ⟨0, 0, 0⟩, 0, []⟩, wCatch.b⟩, by decide +kernel⟩,
   ⟨{ wAll .run with
        m.runEntry := 2 }, 1000000000000000, .l1, wCatch, 0, by decide +kernel⟩,
   ⟨{ wAll .run with
        m.runEntry := 4
        m.acq := [.s] }, 1000000000000000, .s, by decide +kernel⟩,
   ⟨{ wAll .run with
        m.acq := [.s]
        m.acqEnd := [.s]
        l1.s.obs.stage := 1
        l1.s.switching := true }, 1000000000000000, .l1, by decide +kernel⟩,
   ⟨{ wAll .run with
        m.acqEnd := [.s]
        l1.s.obs.stage := 2
        l2.s.obs.stage := 2
        l3.s.obs.stage := 2
        l1.s.switching := true
        l2.s.switching := true
        l3.s.switching := true }, 1000000000000000, .l1, .s, (.l1, 0), (.l2, 0), (.l3, 0), by decide +kernel⟩,
   ⟨{ wAll .run with
        m.mode := .run
        l1.conS.count := 0 }, 1000000000000000, .s, by decide +kernel⟩,
   ⟨{ wAll .run with
        l1.state := .active
        l1.s.obs.suspect := false
        l1.conS.counted := [(.l1, 0, 0)] }, 1000000000000000, .l1, .s, (.l1, 0, 0), by decide +kernel⟩,
   ⟨{ wAll .run with
        l1.s.switching := true
        l1.s.obs.injRun := 4
        l1.s.obs.injFault := false }, 1000000000000000, .l1, .s, by decide +kernel⟩,
   ⟨{ wAll .run with
        l1.s.obs.psiRun := 16
        l1.s.obs.psiBad := false }, 1000000000000000, .l1, .s, by decide +kernel⟩⟩

/-- Hypotheses of OwnTestsRefuseWithoutEffect, clause by clause. -/
theorem witness_OwnTestsRefuseWithoutEffect :
    (∃ (s : State) (n : Lane) (r : Req), s.Takes n 0x0201 r (holdMotion chkSteerAngle) ∧ let p := s.met 0x0201 r (holdMotion chkSteerAngle); let c := p.callAt n 0x0201 r; c.kindByte = 0 ∧ (p.lane n).steerOk (rdI c.p 0 4) = false) ∧
    (∃ (s : State) (n : Lane) (r : Req) (e : Byte × Word), s.Takes n 0x0502 r noPart ∧ let p := s.met 0x0502 r noPart; let c := p.callAt n 0x0502 r; 1 ≤ rd c.p 0 1 ∧ rd c.p 0 1 ≤ 32 ∧ checkPairs p.m.mode c.expert [] (pairsOf c.p) = some e) :=
  ⟨⟨{ wOne .run with
        l1.cal.endNeg := some (-100)
        l1.cal.endPos := some 100 }, .l1, wReq 0x0201 [], takes_of (.hiolo 1) [] wEntry rfl ⟨rfl, rfl⟩ (by decide +kernel) rfl rfl rfl rfl, by decide +kernel⟩,
   ⟨wOne .run, .l1, wReq 0x0502 ([1, 0, 0, 0, 0x10, 0x21, 0, 0] ++ beBytes 8 601), (0x12, 0x1021), takes_of (.hiolo 1) ([1, 0, 0, 0, 0x10, 0x21, 0, 0] ++ beBytes 8 601) wEntry rfl ⟨rfl, rfl⟩ (by decide +kernel) rfl rfl rfl rfl, by decide +kernel⟩⟩

/-! ### Hypotheses of the other statements -/

/-- A state whose every lane lists no memory, logs and queued replies beyond their places is sound. -/
theorem inv_of {s : State} (h : ∀ n : Lane, (s.lane n).mem = [] ∧ (s.lane n).log = [] ∧ (s.lane n).net.replies = []) : s.Inv := by
  intro n
  obtain ⟨h1, h2, h3⟩ := h n
  refine ⟨?_, ?_, ?_⟩
  · rw [h1]; rfl
  · rw [h2]; exact Nat.zero_le _
  · rw [h3]; exact Nat.zero_le _

/-- Hypotheses of StepRunsTheFrontCommand. -/
theorem witness_StepRunsTheFrontCommand : ∃ s : State, s.pending = [] := ⟨State.reset, rfl⟩

/-- Hypotheses of EveryStepKeepsTheInvariant. -/
theorem witness_EveryStepKeepsTheInvariant : ∃ s : State, s.Inv ∧ s.pending = [.cmdHold 1] :=
  ⟨{ wAll .run with pending := [.cmdHold 1] }, inv_of (fun n => by cases n <;> exact ⟨rfl, rfl, rfl⟩), rfl⟩

/-- Hypotheses of NothingOneWayIsTakenBack. -/
theorem witness_NothingOneWayIsTakenBack : ∃ s t : State, s.pending = [.dormantEntry 1] ∧ step s = .next t :=
  ⟨{ wAll .run with pending := [.dormantEntry 1] }, _, rfl, rfl⟩

/-- Hypotheses of CalderaClearsOnlyWhereTheManualSays. -/
theorem witness_CalderaClearsOnlyWhereTheManualSays :
    ∃ (i : Instr) (s t : State) (n : Lane), i.mayClear = false ∧ exec i s = .next t ∧ (s.lane n).vote.caldera = true :=
  ⟨.dormantEntry 1, { wAll .run with l1.vote.caldera := true }, _, .l1, rfl, rfl, rfl⟩

/-- Hypotheses of MemoryChangesOnlyWhereTheManualSays. -/
theorem witness_MemoryChangesOnlyWhereTheManualSays :
    ∃ (i : Instr) (s t : State), i.mayWrite = false ∧ exec i s = .next t :=
  ⟨.resetAssert 1 .l1 .watchdog, wAll .run, _, rfl, rfl⟩

/-- Hypotheses of ScrubWritesOneDoubleWord: one flipped check bit of the first double word; the first and the last data bit. -/
theorem witness_ScrubWritesOneDoubleWord :
    (∃ (s : State) (n : Lane) (b : Word) (dx : Dword) (cx : Byte) (d : Dword),
      let at_ := b.toNat / 8 * 8
      let w := (s.lane n).held n at_
      (s.lane n).rst.inReset = false ∧ mapped at_ = true ∧ (memoryOf at_).1 < 3 ∧
        XWord.decode { data := w.data ^^^ dx, check := w.check ^^^ cx } (foldMemory at_) = some (d, true)) ∧
    ∃ j k : Nat, j < 64 ∧ k < 64 ∧ j ≠ k ∧ j = 0 ∧ k = 63 :=
  ⟨⟨wAll .run, .l1, 0x7, 0, 1, (wAll .run).l1.wordAt .l1 0, rfl, by decide +kernel, by decide +kernel, by
      show XWord.decode { data := ((wAll .run).l1.held .l1 0).data ^^^ 0, check := ((wAll .run).l1.held .l1 0).check ^^^ 1 }
        (foldMemory 0) = _
      rw [LaneSt.held_clean _ _ rfl]
      exact bus_one _ _⟩, 0, 63, by decide⟩

/-- Hypotheses of FirmwareSegmentIsStoredAtItsOffset. -/
theorem witness_FirmwareSegmentIsStoredAtItsOffset :
    ∃ (s : State) (n : Lane) (r : Req) (x y : Xfer), s.Inv ∧ s.Takes n 0x0902 r noPart ∧ let p := s.met 0x0902 r noPart
      let c := p.callAt n 0x0902 r; let off := rd c.p 0 4; let data := (c.p.drop 8).take (rd c.p 4 2)
      (p.lane n).sec.fw = some x ∧ 1 ≤ rd c.p 4 2 ∧ rd c.p 4 2 ≤ 1024 ∧ off + rd c.p 4 2 ≤ x.total ∧
      segStep (some x) none off data = .go y ∧ p.serviceStopped = false ∧ (p.lane n).sec.fwHave = true :=
  ⟨{ wOne .service with
      l1.sec.fw := some { total := 2, lastOff := some 0, got := [0xAA] }
      l1.sec.fwHave := true },
    .l1, wReq 0x0902 [0, 0, 0, 1, 0, 1, 0, 0, 0xBB], { total := 2, lastOff := some 0, got := [0xAA] },
    { total := 2, lastOff := some 1, got := [0xAA, 0xBB] }, inv_of (fun n => by cases n <;> exact ⟨rfl, rfl, rfl⟩),
    takes_of (.hiolo 1) [0, 0, 0, 1, 0, 1, 0, 0, 0xBB] wEntry rfl ⟨rfl, rfl⟩ (by decide +kernel) rfl rfl rfl rfl, by decide +kernel⟩

/-- Hypotheses of LaneLocalCommandsLeaveTheRest. -/
theorem witness_LaneLocalCommandsLeaveTheRest :
    ∃ (i : Instr) (n : Lane) (s t : State), i.ownLane = some n ∧ exec i s = .next t :=
  ⟨.quadEdge 1 .l2 ⟨true, false⟩ 100, .l2, wAll .run, _, rfl, rfl⟩

/-- Hypotheses of ARefusedRequestOnlyAnswers: STEER_HOLD without a session. -/
theorem witness_ARefusedRequestOnlyAnswers :
    ∃ (i : Instr) (s : State) (n : Lane) (op : Half) (r : Req) (h : Handler) (peer : PeerPart) (e : Byte × Word),
      i.asRequest = some (op, r, h, peer) ∧ (s.at_ r.at_).answerer r = some n ∧ let p := s.met op r peer
      takesIn p.m.mode op r = true ∧ (p.lane n).check p.m.mode op r = some e ∧ p.m.fwReq = false :=
  ⟨.steerHold { wReq 0x0204 [] with session := 0, flags := 0, mac := none }, wOne .run, .l1, 0x0204, _, _, _, (0x14, 0x0204), rfl,
    by decide +kernel, by decide +kernel⟩

/-- Hypotheses of ASequenceIsNeverAcceptedTwice. -/
theorem witness_ASequenceIsNeverAcceptedTwice :
    ∃ (l : LaneSt) (op : Half) (r : Req), r.session ≠ 0 ∧ l.orders3to7 op r = none := by
  have h : (wOne .run).Takes .l1 0x0102 (wReq 0x0102 []) noPart :=
    takes_of (.hiolo 1) [] wEntry rfl ⟨rfl, rfl⟩ (by decide +kernel) rfl rfl rfl rfl
  have h2 := h.2.2.2
  unfold LaneSt.check at h2
  exact ⟨((wOne .run).met 0x0102 (wReq 0x0102 []) noPart).lane .l1, 0x0102, wReq 0x0102 [], by decide +kernel,
    (Option.or_eq_none_iff.mp h2).1⟩

/-- Hypotheses of EveryPacketIsReadAsSent. -/
theorem witness_EveryPacketIsReadAsSent : ∃ r : Req, r.wf = true ∧ r.params = [1, 2, 3] :=
  ⟨{ r0 with flags := 0, params := [1, 2, 3] }, by decide +kernel⟩

/-- Hypotheses of EveryPacketOfABlockIsReadInOrder. -/
theorem witness_EveryPacketOfABlockIsReadInOrder :
    ∃ (t : Nat) (c : Carriage) (qs : List (Half × Req)) (k : Nat),
      (∀ q ∈ qs, q.2.wf = true ∧ q.2.at_ = t ∧ q.2.carriage = c) ∧ qs.length ≤ k ∧ qs.length = 2 :=
  ⟨1000, .hiolo 1, [(0x0102, { r0 with flags := 0 }), (0x0110, { r0 with flags := 0, seq := 2 })], 71, by decide +kernel⟩

/-- The premises of EpochsCompareByTheirDifference, one at each boundary of its ranges. -/
theorem witness_EpochsCompareByTheirDifference :
    newer 0x0001 0x0000 = true ∧ newer 0x7FFF 0x0000 = true ∧ newer 0x8000 0x0000 = false ∧ newer 0x8001 0x0000 = false ∧
    newer 0x0000 0xFFFF = true ∧ newer 0x0000 0x8001 = true := by decide

/-- Hypotheses of SyncHoldoverRunsThenGoesPassive, at the last cycle before the limit and at the limit. -/
theorem witness_SyncHoldoverRunsThenGoesPassive :
    (∃ (s : State) (n : Lane), (s.lane n).netRuns = true ∧ (s.lane n).time.noSource + 1 = (s.lane n).codeN Key.netSyncHoldover) ∧
    (∃ (s : State) (n : Lane) (c : Chan), (s.lane n).netRuns = true ∧ (s.lane n).codeN Key.netSyncHoldover = (s.lane n).time.noSource ∧
      ((s.lane n).net.chan c).state = 3) :=
  ⟨⟨{ wAll .run with l1.time.noSource := (wAll .run).l1.codeN Key.netSyncHoldover - 1 }, .l1, by decide +kernel⟩,
    ⟨{ wAll .run with l1.time.noSource := (wAll .run).l1.codeN Key.netSyncHoldover }, .l1, .x, by decide +kernel⟩⟩

/-- Hypotheses of AnOffLaneNeverVotes, with a vote left in the register. -/
theorem witness_AnOffLaneNeverVotes :
    ∃ (s : State) (v n : Lane), ((s.lane v).state = .off ∨ (s.lane v).rst.inReset = true ∨ (s.lane v).state = .quenched) ∧
      ((s.lane v).vote.on n).reason ≠ 0 :=
  ⟨{ wAll .run with
      l1.state := .quenched
      l1.vote.on2.reason := 1 }, .l1, .l2, by decide +kernel⟩

/-- Hypotheses of AnUncorrectableWordLosesTheFrame: eight flipped check bits in the first and in the last word. -/
theorem witness_AnUncorrectableWordLosesTheFrame :
    ∀ i ∈ [0, 9], ∃ (s : State) (src dst : Lane) (ws : List XWord) (w : XWord), src ≠ dst ∧ (s.lane dst).rst.inReset = false ∧
      10 ≤ ws.length ∧ (s.lane dst).mapBit (linkEndBit dst src) = false ∧ ws[i]? = some w ∧
      w.decode (foldLink (linkId src dst) i) = none := by
  intro i hi
  refine ⟨wAll .run, .l2, .l1, List.replicate 10 { data := 0, check := checkBits 0 (foldLink (linkId .l2 .l1) i) ^^^ 0xFF },
    { data := 0, check := checkBits 0 (foldLink (linkId .l2 .l1) i) ^^^ 0xFF }, by decide, rfl, by simp, rfl, ?_,
    XWord.decode_flip_none 0 _ (by decide) (by decide) (by decide) (by decide)⟩
  fin_cases hi <;> rfl

/-- Hypotheses of MajorVersionsTwoAndThreeAreAccepted: majors 1 to 4. -/
theorem witness_MajorVersionsTwoAndThreeAreAccepted :
    ∃ r1 r2 r3 r4 : Req, r1.verMajor = 1 ∧ r2.verMajor = 2 ∧ r3.verMajor = 3 ∧ r4.verMajor = 4 :=
  ⟨{ r0 with verMajor := 1 }, { r0 with verMajor := 2 }, r0, { r0 with verMajor := 4 }, rfl, rfl, rfl, rfl⟩

/-- Hypotheses of TwoVotesSetTheCaldera: both other lanes' votes count. -/
theorem witness_TwoVotesSetTheCaldera :
    ∃ (s u : State) (t : Nat) (n : Lane), exec (.calderaSet t n) s = .next u ∧ (s.lane n).vote.caldera = false ∧
      (u.lane n).vote.caldera = true :=
  ⟨{ wAll .run with
      l2.vote.on1 := { reason := 1, at_ := 0 }
      l3.vote.on1 := { reason := 1, at_ := 0 } }, _, 500, .l1, rfl, rfl, by decide +kernel⟩

/-- Hypotheses of OneFaultySourceCannotMoveTheMidpoint. -/
theorem witness_OneFaultySourceCannotMoveTheMidpoint :
    ∃ (good vs : List Int) (bad : Int), vs.Perm (bad :: good) ∧ 2 ≤ good.length ∧ good.length ≤ 3 :=
  ⟨[-200, 300], [-200, 3500, 300], 3500, by decide, by decide, by decide⟩

/-- Hypotheses of RoundingIsToTheNearestAwayFromZero: a half, on both sides. -/
theorem witness_RoundingIsToTheNearestAwayFromZero : roundAway (5 / 2) = 3 ∧ roundAway (-5 / 2) = -3 ∧ roundAway (-1 / 3) = 0 := by
  decide +kernel

/-- Hypotheses of SharesSumToOne: sets that carry, and one that does not. -/
theorem witness_SharesSumToOne :
    ∃ (s : State) (n m : Lane) (x : Axis), (allLanes.map (fun k => s.term n k x)).sum ≠ 0 ∧ s.carries n m x = false := by
  refine ⟨{ wAll .run with l2.ena.withdrawn := true }, .l1, .l2, .s, ?_, by decide +kernel⟩
  simp only [term_cool (by decide +kernel : State.baseTemp { wAll .run with l2.ena.withdrawn := true } .l1 ≤ 95)]
  decide +kernel

/-- Hypotheses of WritingTheLogLosesOnlyTheOldest: an event that does not join the newest entry. -/
theorem witness_WritingTheLogLosesOnlyTheOldest :
    ∃ (l : LaneSt) (t : Nat) (e : LogEv), l.log.length ≤ logSize ∧ l.log.length < logSize ∧ l.coalesces t e = false ∧ 1 < l.log.length :=
  ⟨{ log := [{}, {}] }, 0, { code := 0x0503, addr := 0 }, by decide +kernel⟩

/-- Hypotheses of TheHostPortIsSilentWhenTheModuleRuns. -/
theorem witness_TheHostPortIsSilentWhenTheModuleRuns : ∃ s : State, s.m.mode ≠ .ready ∧ s.m.mode ≠ .service :=
  ⟨wAll .limp, by decide, by decide⟩

/-! ### Packages

Whether a signature verifies is a free value of the configuration, so these four states meet the hypotheses of their clauses
wherever the two signatures of the package verify (and the key unit unwraps the package). -/

/-- All but the last byte of a package of a kind with a body (R432). -/
def pkgPre (kind : Nat) (body : List Byte) : List Byte :=
  [0x44, 0x54, 0x58, 0x50, 0x10, BitVec.ofNat 8 kind, (if kind = 5 then 0 else 1), 0, 0, 0, 0, 0] ++ beBytes 4 body.length ++
  [0x03, 0x18] ++ List.replicate 10 0 ++ beBytes 4 1 ++ List.replicate 32 0 ++ body ++ List.replicate 3372 0

/-- A key package with one slot record. -/
def wKeyPkg : List Byte := pkgPre 4 ([1] ++ List.replicate 63 0)

/-- An enrolment package for owner slot 0. -/
def wOwnPkg : List Byte := pkgPre 5 [0]

/-- The factory Almanac with an activation time to come. -/
def wAlmPkg : List Byte := pkgPre 3 (factoryAlmanac.take 8 ++ beBytes 8 1000000000 ++ factoryAlmanac.drop 16)

/-- A security unit that has enrolled an owner. -/
def wOwner : SecSt := { wSec with owner0 := some 0 }

/-- The last segment of a transfer. -/
theorem segStep_last {o : Option Xfer} {x y : Xfer} {t off : Nat} {data d : List Byte} (ho : o = some x) (h0 : off ≠ 0)
    (h1 : x.lastOff ≠ some off) (h2 : off = x.got.length) (h3 : data = d)
    (hy : y = { x with lastOff := some off, got := x.got ++ d }) : segStep o (some t) off data = .go y := by
  subst h3 ho hy
  simp only [segStep, if_neg h0, if_neg h1, if_pos h2]

/-- The orders of R434 pass where the signatures verify and the rest passes. -/
theorem pkgOrders_signed {l : LaneSt} {kinds : List Nat} {a b : List Byte} (k : Nat) (hb : a = b) (hs : l.sec.sigs b = (true, true))
    (hk : b.length = k)
    (h : rd b 0 4 = 0x44545850 ∧ rd b 4 1 / 16 = 1 ∧ kinds.contains (pkgKind b) = true ∧ k = 3437 + pkgBody b ∧
      k ≤ pkgMax (pkgKind b) ∧ rd b 16 2 = productCode ∧ rd b 18 6 = l.serial.toNat ∧
      l.sec.signerOk (pkgKind b) (pkgSigner b) = true ∧ 1 < pkgKind b ∧
      (l.issueOf (pkgKind b)).toNat < (pkgIssue b).toNat) : l.pkgOrders kinds a = none := by
  obtain rfl := hb.symm
  subst hk
  obtain ⟨h1, h2, h3, h4, h5, h6, h7, h8, h9, h10⟩ := h
  have h11 : pkgKind b ≠ 1 := by omega
  have h12 : ¬(pkgIssue b).toNat ≤ (l.issueOf (pkgKind b)).toNat := by omega
  have h13 : ¬(pkgIssue b).toNat < (l.issueOf (pkgKind b)).toNat := by omega
  have h14 : ¬pkgMax (pkgKind b) < b.length := by omega
  unfold LaneSt.pkgOrders LaneSt.pkgForm
  simp only [hs, h1, h2, h3, h6, h7, h8]
  simp [h4 ▸ h14, h9.ne', h12, h13, h4]

theorem pkgPre_length (kind : Nat) (body : List Byte) : (pkgPre kind body).length = 3436 + body.length := by
  simp only [pkgPre, List.length_append, List.length_replicate, List.length_cons, List.length_nil, beBytes, List.length_map,
    List.length_range]
  omega

theorem wKeyPkg_length : wKeyPkg.length = 3500 := (pkgPre_length _ _).trans (by decide +kernel)
theorem wOwnPkg_length : wOwnPkg.length = 3437 := (pkgPre_length _ _).trans (by decide +kernel)
theorem wAlmPkg_length : wAlmPkg.length = 4684 := (pkgPre_length _ _).trans (by decide +kernel)

theorem wKeyPkg_len : (wKeyPkg ++ [0]).length = 3501 := by rw [List.length_append, wKeyPkg_length]; rfl
theorem wKeyPkg_le : (wKeyPkg ++ [0]).length ≤ 3501 := Nat.le_of_eq wKeyPkg_len
theorem wOwnPkg_len : (wOwnPkg ++ [0]).length = 3438 := by rw [List.length_append, wOwnPkg_length]; rfl
theorem wOwnPkg_le : (wOwnPkg ++ [0]).length ≤ 3438 := Nat.le_of_eq wOwnPkg_len
theorem wAlmPkg_len : (wAlmPkg ++ [0]).length = 4685 := by rw [List.length_append, wAlmPkg_length]; rfl
theorem wAlmPkg_le : (wAlmPkg ++ [0]).length ≤ 4685 := Nat.le_of_eq wAlmPkg_len

set_option maxRecDepth 40000 in
/-- Hypotheses of the clause of SessionAndKeyRequestsComplete for a key package. -/
theorem witness_KeyPackage (hs : wOwner.sigs (wKeyPkg ++ [0]) = (true, true))
    (hu : ∀ m, (Config.unwrapKeys m (wKeyPkg ++ [0])).isSome = true) :
    ∃ (s : State) (n : Lane) (r : Req) (x : Xfer), s.Takes n 0x0804 r noPart ∧ let p := s.met 0x0804 r noPart; let c := p.callAt n 0x0804 r; let pkg := x.got.take x.total; let w := p.onM (fun m => { m with keyX := none }); rd c.p 4 4 ≤ 16384 ∧ 1 ≤ rd c.p 8 2 ∧ rd c.p 8 2 ≤ 1024 ∧ segStep p.m.keyX (some (rd c.p 4 4)) (rd c.p 0 4) ((c.p.drop 12).take (rd c.p 8 2)) = .go x ∧ x.total ≤ x.got.length ∧ (w.lane n).pkgOrders [4, 5] pkg = none ∧ pkgKind pkg = 4 ∧ keyBodyBad (pkgBodyBytes pkg) = none ∧ (∀ m ∈ w.actives, (Config.unwrapKeys m pkg).isSome = true) :=
  ⟨{ wOne .service with
      m.keyX := some { total := 3501, lastOff := some 0, got := wKeyPkg }
      l1.sec := wOwner },
    .l1, wReq 0x0804 (beBytes 4 3500 ++ beBytes 4 3501 ++ [0, 1, 0, 0, 0]),
    { total := 3501, lastOff := some 3500, got := wKeyPkg ++ [0] },
    takes_of (.hiolo 1) (beBytes 4 3500 ++ beBytes 4 3501 ++ [0, 1, 0, 0, 0]) wEntry rfl ⟨rfl, rfl⟩ (by decide +kernel) rfl rfl rfl rfl,
    by decide +kernel, by decide +kernel, by decide +kernel,
    segStep_last rfl (by decide +kernel) (by decide +kernel) (Eq.trans (by decide +kernel) wKeyPkg_length.symm) (by decide +kernel) rfl, Nat.le_of_eq wKeyPkg_len.symm,
    pkgOrders_signed 3501 (List.take_of_length_le wKeyPkg_le) hs wKeyPkg_len (by decide +kernel), by decide +kernel, by decide +kernel, fun m _ => hu m⟩

set_option maxRecDepth 40000 in
/-- Hypotheses of the clause of SessionAndKeyRequestsComplete for an enrolment. -/
theorem witness_Enrolment (hs : wSec.sigs (wOwnPkg ++ [0]) = (true, true)) :
    ∃ (s : State) (n : Lane) (r : Req) (x : Xfer), s.Takes n 0x0804 r noPart ∧ let p := s.met 0x0804 r noPart; let c := p.callAt n 0x0804 r; let pkg := x.got.take x.total; let w := p.onM (fun m => { m with keyX := none }); rd c.p 4 4 ≤ 16384 ∧ 1 ≤ rd c.p 8 2 ∧ rd c.p 8 2 ≤ 1024 ∧ segStep p.m.keyX (some (rd c.p 4 4)) (rd c.p 0 4) ((c.p.drop 12).take (rd c.p 8 2)) = .go x ∧ x.total ≤ x.got.length ∧ (w.lane n).pkgOrders [4, 5] pkg = none ∧ pkgKind pkg = 5 ∧ enrolBad (w.lane n).sec (pkgBodyBytes pkg) = none :=
  ⟨{ wOne .service with
      m.keyX := some { total := 3438, lastOff := some 0, got := wOwnPkg }
      l1.sec := wSec },
    .l1, wReq 0x0804 (beBytes 4 3437 ++ beBytes 4 3438 ++ [0, 1, 0, 0, 0]),
    { total := 3438, lastOff := some 3437, got := wOwnPkg ++ [0] },
    takes_of (.hiolo 1) (beBytes 4 3437 ++ beBytes 4 3438 ++ [0, 1, 0, 0, 0]) wEntry rfl ⟨rfl, rfl⟩ (by decide +kernel) rfl rfl rfl rfl,
    by decide +kernel, by decide +kernel, by decide +kernel,
    segStep_last rfl (by decide +kernel) (by decide +kernel) (Eq.trans (by decide +kernel) wOwnPkg_length.symm) (by decide +kernel) rfl, Nat.le_of_eq wOwnPkg_len.symm,
    pkgOrders_signed 3438 (List.take_of_length_le wOwnPkg_le) hs wOwnPkg_len (by decide +kernel), by decide +kernel, by decide +kernel⟩

set_option maxRecDepth 40000 in
/-- Hypotheses of the clause of ScheduleLoadCompletes for a whole Almanac package. -/
theorem witness_AlmanacPackage (hs : wOwner.sigs (wAlmPkg ++ [0]) = (true, true)) :
    ∃ (s : State) (n : Lane) (r : Req) (x : Xfer), s.Takes n 0x0A02 r noPart ∧ let p := s.met 0x0A02 r noPart; let c := p.callAt n 0x0A02 r; let pkg := x.got.take x.total; let w := p.onM (fun m => { m with almX := none }); rd c.p 4 4 ≤ 8192 ∧ 1 ≤ rd c.p 8 2 ∧ rd c.p 8 2 ≤ 1024 ∧ segStep p.m.almX (some (rd c.p 4 4)) (rd c.p 0 4) ((c.p.drop 12).take (rd c.p 8 2)) = .go x ∧ x.total ≤ x.got.length ∧ (w.lane n).pkgOrders [3] pkg = none ∧ checkAlmanac (pkgBodyBytes pkg) (w.lane n).nodeIds (w.lane n).tag (w.meridian n) = none :=
  ⟨{ wOne .run with
      m.almX := some { total := 4685, lastOff := some 0, got := wAlmPkg }
      l1.sec := wOwner },
    .l1, wReq 0x0A02 (beBytes 4 4684 ++ beBytes 4 4685 ++ [0, 1, 0, 0, 0]),
    { total := 4685, lastOff := some 4684, got := wAlmPkg ++ [0] },
    takes_of (.hiolo 1) (beBytes 4 4684 ++ beBytes 4 4685 ++ [0, 1, 0, 0, 0]) wEntry rfl ⟨rfl, rfl⟩ (by decide +kernel) rfl rfl rfl rfl,
    by decide +kernel, by decide +kernel, by decide +kernel,
    segStep_last rfl (by decide +kernel) (by decide +kernel) (Eq.trans (by decide +kernel) wAlmPkg_length.symm) (by decide +kernel) rfl, Nat.le_of_eq wAlmPkg_len.symm,
    pkgOrders_signed 4685 (List.take_of_length_le wAlmPkg_le) hs wAlmPkg_len (by decide +kernel), by decide +kernel⟩

set_option maxRecDepth 40000 in
/-- Hypotheses of the clause of ChannelEventsComplete for the last segment of an Almanac package. -/
theorem witness_AlmanacSegment (hs : wOwner.sigs (wAlmPkg ++ [0]) = (true, true)) :
    ∃ (s : State) (t : Nat) (src : Lane) (dst : Lane) (g : Segment), let u := s.at_ t; let b := segmentItem 0x12 g.off g.data; let v := u.dropItem src dst 0x12; let got := if rd b 3 4 = 0 then b.drop 7 else (v.lane dst).net.almXfer ++ b.drop 7; let pkg := got.take (3437 + pkgBody got); let w := v.onNet dst (fun x => { x with almXfer := [] }); let running := (w.link src dst).sched.map (·.1) == some (almId (pkgBodyBytes pkg)); src ≠ dst ∧ (u.lane dst).rst.inReset = false ∧ u.nextItem src dst 0x12 = some b ∧ (v.lane dst).netRuns = true ∧ (rd b 3 4 = 0 ∨ rd b 3 4 = (v.lane dst).net.almXfer.length) ∧ 64 ≤ got.length ∧ 3437 + pkgBody got ≤ got.length ∧ (v.lane dst).pkgOrders [3] pkg = none ∧ checkAlmanac (pkgBodyBytes pkg) (v.lane dst).nodeIds (v.lane dst).tag (if running = true then (almTime (pkgBodyBytes pkg) : Int) - 64000000 else v.meridian dst) = none :=
  ⟨{ wAll .run with
      l1.net.almXfer := wAlmPkg
      l1.sec := wOwner
      l1.lo.items := [segmentItem 0x12 4684 [0]] },
    1000, .l2, .l1, ⟨4684, [0]⟩,
    by decide, rfl, by decide +kernel, by decide +kernel, by decide +kernel, by decide +kernel, by decide +kernel,
    pkgOrders_signed 4685 (Eq.trans (congrArg (fun g : List Byte => g.take (3437 + pkgBody g))
      (if_neg (show ¬rd (segmentItem 0x12 4684 [0]) 3 4 = 0 by decide +kernel))) (List.take_of_length_le wAlmPkg_le)) hs wAlmPkg_len (by decide +kernel), by decide +kernel⟩

end Sys2Proof.Tests
end

/-! Rounding (R495). The nonnegative side follows from the bounds of the floor of x + 1/2: the result exceeds x by more
than -1/2 and by at most 1/2, so a tie is a step up, away from zero. Oddness carries it to the negative side. -/

namespace Sys2Proof.Machine

theorem absQ_eq_abs (x : Rat) : absQ x = |x| := by
  unfold absQ
  split
  case isTrue h => exact (abs_of_neg h).symm
  case isFalse h => exact (abs_of_nonneg (not_lt.mp h)).symm

theorem roundAway_of_nonneg {x : Rat} (hx : 0 ≤ x) : roundAway x = ⌊x + 1 / 2⌋ :=
  if_neg (not_lt.mpr hx)

theorem roundAway_of_neg {x : Rat} (hx : x < 0) : roundAway x = -⌊1 / 2 - x⌋ :=
  if_pos hx

theorem roundAway_neg_of_pos {x : Rat} (hx : 0 < x) : roundAway (-x) = -roundAway x := by
  rw [roundAway_of_neg (neg_neg_of_pos hx), roundAway_of_nonneg hx.le, sub_neg_eq_add, add_comm]

theorem roundAway_sub_mem_Ioc {x : Rat} (hx : 0 ≤ x) : (roundAway x : Rat) - x ∈ Set.Ioc (-(1 / 2)) (1 / 2) := by
  have hle : (⌊x + 1 / 2⌋ : Rat) ≤ x + 1 / 2 := Int.floor_le _
  have hlt : x + 1 / 2 < (⌊x + 1 / 2⌋ : Rat) + 1 := Int.lt_floor_add_one _
  rw [roundAway_of_nonneg hx]
  constructor <;> linarith

/-- On the nonnegative side only the upper end of the interval is half away. -/
theorem roundAway_nearest_of_nonneg {x : Rat} (hx : 0 ≤ x) :
    |(roundAway x : Rat) - x| ≤ 1 / 2 ∧ (|(roundAway x : Rat) - x| = 1 / 2 → |x| < |(roundAway x : Rat)|) := by
  obtain ⟨hlo, hhi⟩ := roundAway_sub_mem_Ioc hx
  refine ⟨abs_le.mpr ⟨hlo.le, hhi⟩, fun htie => ?_⟩
  rcases eq_or_eq_neg_of_abs_eq htie with hup | hdown
  · have hgt : x < roundAway x := by linarith
    rw [abs_of_nonneg hx]
    exact hgt.trans_le (le_abs_self _)
  · exact absurd hdown hlo.ne'

/-- Settles O57: the nonnegative case directly, a negative x by oddness. -/
theorem roundingIsToTheNearestAwayFromZero : Obligations.RoundingIsToTheNearestAwayFromZero := by
  intro x
  simp only [absQ_eq_abs]
  rcases le_or_gt 0 x with hx | hx
  · exact roundAway_nearest_of_nonneg hx
  · have hneg : 0 < -x := neg_pos.mpr hx
    have hodd : (roundAway x : Rat) = -(roundAway (-x) : Rat) := by
      rw [← Int.cast_neg, ← roundAway_neg_of_pos hneg, neg_neg]
    have hdist : |(roundAway x : Rat) - x| = |(roundAway (-x) : Rat) - -x| := by
      rw [hodd, ← abs_neg, neg_sub', neg_neg]
    rw [hdist, hodd, abs_neg, ← abs_neg x]
    exact roundAway_nearest_of_nonneg hneg.le

end Sys2Proof.Machine

/-! The step, and the commands of one lane. Every command that names a lane of its own has a lemma that only that lane differs;
one lemma over the commands gathers them. -/

namespace Sys2Proof.Machine

/-- Settles O34: the two branches of step. -/
theorem stepRunsTheFrontCommand : Obligations.StepRunsTheFrontCommand := by
  intro s c q
  refine ⟨rfl, fun hidle => ?_⟩
  unfold step
  rw [hidle]

theorem Own.lane_ne {n k : Lane} {s t : State} (h : Own n s t) (hk : k ≠ n) : t.lane k = s.lane k := by
  obtain ⟨l, rfl⟩ := h
  exact State.onLane_lane_ne s n _ hk

/-- A change of one lane leaves the queue and everything the module shares as it was. -/
theorem Own.shared {n : Lane} {s t : State} (h : Own n s t) :
    t.m = s.m ∧ t.hold = s.hold ∧ t.hom = s.hom ∧ t.meas = s.meas ∧ t.host = s.host ∧ t.twin = s.twin ∧ t.pending = s.pending := by
  obtain ⟨l, rfl⟩ := h
  simp

/-- Every command that names a lane of its own changes, apart from the clock, that lane alone. -/
theorem exec_own {i : Instr} {n : Lane} (s : State) (h : i.ownLane = some n) : OutOwn n (s.at_ i.instant) (exec i s) := by
  cases i
  case commandFrame => cases h; exact execCommandFrame_own
  case nullFrame => cases h; exact execNullFrame_own
  case referenceFrame => cases h; exact execReferenceFrame_own
  case capsFrame => cases h; exact execCapsFrame_own
  case sentFrame => cases h; exact execSentFrame_own
  case sentTimeout => cases h; exact execSentTimeout_own
  case currentLoopUpdate => cases h; exact execCurrentLoopUpdate_own
  case timeStep => cases h; exact execTimeStep_own
  case joinTimeout => cases h; exact execJoinTimeout_own
  case channelLost => cases h; exact execChannelLost_own
  case almanacSwitch => cases h; exact execAlmanacSwitch_own
  case piecewiseSnapshotExpiry => cases h; exact execPiecewiseSnapshotExpiry_own
  case healthRecordLatch => cases h; exact execHealthRecordLatch_own
  case lifetimeCounterWrite => cases h; exact execLifetimeCounterWrite_own
  case thermalCycleSample => cases h; exact execThermalCycleSample_own
  case torqueShadow => cases h; exact execTorqueShadow_own
  case profileReseed => cases h; exact execProfileReseed_own
  case linkSilence => cases h; exact execLinkSilence_own
  case epochClaim => cases h; exact execEpochClaim_own
  case disputeTimeout => cases h; exact execDisputeTimeout_own
  case deputyAssign => cases h; exact execDeputyAssign_own
  case deputyShadowApply => cases h; exact execDeputyShadowApply_own
  case shadowSnapshotDone => cases h; exact execShadowSnapshotDone_own
  case rejoinConverged => cases h; exact execRejoinConverged_own
  case bootstrapRefresh => cases h; exact execBootstrapRefresh_own
  case gateServoSaturation => cases h; exact execGateServoSaturation_own
  case firmwareGeyser => cases h; exact execFirmwareGeyser_own
  case hardwareGeyser => cases h; exact execHardwareGeyser_own
  case inputDisconnectOpen => cases h; exact execInputDisconnectOpen_own
  case inputDisconnectClose => cases h; exact execInputDisconnectClose_own
  case windowLimited => cases h; exact execWindowLimited_own
  case windowLimitedClear => cases h; exact execWindowLimitedClear_own
  case carrierUnlock => cases h; exact execCarrierUnlock_own
  case i2tLimit => cases h; exact execI2tLimit_own
  case i2tRecover => cases h; exact execI2tRecover_own
  case polarityDetection => cases h; exact execPolarityDetection_own
  case obsInjFault => cases h; exact execObsInjFault_own
  case obsPsiMismatch => cases h; exact execObsPsiMismatch_own
  case svccFault => cases h; exact execSvccFault_own
  case svccRetry => cases h; exact execSvccRetry_own
  case quadRecover => cases h; exact execQuadRecover_own
  case switchChange => cases h; exact execSwitchChange_own
  case chatter => cases h; exact execChatter_own
  case chatterEnd => cases h; exact execChatterEnd_own
  case stuck => cases h; exact execStuck_own
  case compareFire => cases h; exact execCompareFire_own
  case enaTestTimeout => cases h; exact execEnaTestTimeout_own
  case supplyOvClose => cases h; exact execSupplyOvClose_own
  case disconnectBlock => cases h; exact execDisconnectBlock_own
  case prechargeComplete => cases h; exact execPrechargeComplete_own
  case prechargeRetry => cases h; exact execPrechargeRetry_own
  case rstHandshakeSample => cases h; exact execRstHandshakeSample_own
  case clockQualified => cases h; exact execClockQualified_own
  case clockQualRetry => cases h; exact execClockQualRetry_own
  case quadEdge => cases h; exact execQuadEdge_own
  case bleederOff => cases h; exact execBleederOff_own
  case disconnectConductForward => cases h; exact execDisconnectConductForward_own
  -- every other command names no lane
  all_goals cases h

/-- Settles O43: the one lemma over the commands of one lane. -/
theorem laneLocalCommandsLeaveTheRest : Obligations.LaneLocalCommandsLeaveTheRest := by
  intro i n s t hi ht
  obtain ⟨u, hu, hown⟩ := exec_own s hi
  obtain rfl : u = t := Host.Outcome.next.inj (hu.symm.trans ht)
  exact ⟨fun k hk => (hown.lane_ne hk).trans (State.at_lane ..), hown.shared⟩

end Sys2Proof.Machine

/-! Votes and the Caldera (R16, R46 to R53). A vote line needs an Active or Isolated lane out of reset; a lane whose Caldera sets is
Quenched, and nothing that CALDERA_SET does afterwards undoes that. -/

namespace Sys2Proof.Machine

/-- A lane asserts a vote line only out of reset and while Active or Isolated (R16). -/
theorem State.voteLine_state {s : State} {v n : Lane} (h : s.voteLine v n = true) :
    (s.lane v).rst.inReset = false ∧ ((s.lane v).state = .active ∨ (s.lane v).state = .isolated) := by
  simp only [State.voteLine, Bool.and_eq_true, Bool.or_eq_true, Bool.not_eq_true', beq_iff_eq] at h
  obtain ⟨⟨-, hreset⟩, hstate⟩ := h
  exact ⟨hreset, hstate.imp_right And.left⟩

theorem State.voteLine_of_voteCounts {s : State} {v n : Lane} (h : s.voteCounts v n = true) : s.voteLine v n = true :=
  (Bool.and_eq_true_iff.mp h).1

theorem mem_allLanes (n : Lane) : n ∈ allLanes := by cases n <;> decide

theorem State.mem_counting {s : State} {v n : Lane} : v ∈ s.counting n ↔ s.voteCounts v n = true := by
  simp [State.counting, mem_allLanes]

theorem State.mem_voters {s : State} {v n : Lane} : v ∈ s.voters n ↔ s.voteLine v n = true := by
  simp [State.voters, mem_allLanes]

/-- Settles O52: an asserted line contradicts each of the three states, and both lists hold lanes with an asserted line only. -/
theorem anOffLaneNeverVotes : Obligations.AnOffLaneNeverVotes := by
  intro s v n hv
  have hline : ¬ s.voteLine v n = true := by
    intro h
    obtain ⟨hreset, hstate⟩ := State.voteLine_state h
    rcases hv with hoff | hin | hquenched
    · simp [hoff] at hstate
    · simp [hreset] at hin
    · simp [hquenched] at hstate
  exact ⟨Bool.eq_false_iff.mpr hline, fun h => hline (State.voteLine_of_voteCounts (State.mem_counting.mp h)),
    fun h => hline (State.mem_voters.mp h)⟩

/-! ### A Quenched lane -/

/-- A lane is Quenched: without a role, neither set switching (R49). -/
def LaneSt.Quenched (l : LaneSt) : Prop :=
  l.state = .quenched ∧ l.role = .none ∧ l.s.switching = false ∧ l.b.switching = false

theorem LaneSt.write_state (l : LaneSt) (n : Lane) (m : Mode) (t : Nat) (e : LogEv) :
    (l.write n m t e).state = l.state ∧ (l.write n m t e).role = l.role ∧ (l.write n m t e).s = l.s ∧ (l.write n m t e).b = l.b := by
  unfold LaneSt.write
  split
  · exact ⟨rfl, rfl, rfl, rfl⟩
  · split <;> exact ⟨rfl, rfl, rfl, rfl⟩

theorem LaneSt.write_role (l : LaneSt) (n : Lane) (m : Mode) (t : Nat) (e : LogEv) : (l.write n m t e).role = l.role := by
  obtain ⟨-, hrole, -⟩ := l.write_state n m t e
  exact hrole

section
variable {s : State} {n : Lane}

/-- What a lane logs leaves it Quenched, whoever logs. -/
theorem State.log_quenched {k : Lane} {code : Half} {addr : Word} {ctx : Dword} (h : (s.lane n).Quenched) :
    ((s.log k code addr ctx).lane n).Quenched := by
  unfold State.log
  by_cases hk : n = k
  · subst hk
    obtain ⟨hstate, hrole, hs, hb⟩ := (s.lane n).write_state n s.m.mode s.now { code := code, addr := addr, ctx := ctx }
    rw [State.onLane_lane]
    unfold LaneSt.Quenched
    rw [hstate, hrole, hs, hb]
    exact h
  · rwa [State.onLane_lane_ne _ _ _ hk]

theorem State.logLeader_quenched {code : Half} {addr : Word} {ctx : Dword} (h : (s.lane n).Quenched) :
    ((s.logLeader code addr ctx).lane n).Quenched := State.log_quenched h

theorem State.logModule_quenched {k : Lane} {code : Half} {addr : Word} {ctx : Dword} (h : (s.lane n).Quenched) :
    ((s.logModule k code addr ctx).lane n).Quenched := by
  unfold State.logModule
  split
  · exact State.log_quenched h
  · exact State.log_quenched (State.log_quenched h)

theorem State.onM_quenched {f : ModSt → ModSt} (h : (s.lane n).Quenched) : ((s.onM f).lane n).Quenched := by
  rwa [State.onM_lane]

theorem State.setMode_quenched {md : Mode} (h : (s.lane n).Quenched) : ((s.setMode md).lane n).Quenched := by
  unfold State.setMode
  dsimp only
  split
  · exact State.onM_quenched h
  · exact State.logLeader_quenched (State.onM_quenched h)

theorem State.requestStop_quenched (h : (s.lane n).Quenched) : (s.requestStop.lane n).Quenched := by
  unfold State.requestStop
  split
  · exact h
  · exact State.logLeader_quenched (State.onM_quenched h)

/-- Keys come into force in Active and Rejoining lanes only. -/
theorem State.takeEffect_quenched {e : Machine.Takes} (h : (s.lane n).Quenched) : ((s.takeEffect e).lane n).Quenched := by
  unfold State.takeEffect
  rw [State.onLanes_lane]
  split
  · exact h
  · exact h

theorem State.enterLimp_quenched {k : Lane} (h : (s.lane n).Quenched) : ((s.enterLimp k).lane n).Quenched :=
  State.takeEffect_quenched (State.requestStop_quenched (State.onM_quenched (State.logModule_quenched (State.setMode_quenched h))))

theorem State.checkLimp_quenched (h : (s.lane n).Quenched) : (s.checkLimp.lane n).Quenched := by
  unfold State.checkLimp
  split
  · exact h
  · split
    · exact State.enterLimp_quenched h
    · exact State.onM_quenched h

theorem State.closeDisputes_quenched {k : Lane} (h : (s.lane n).Quenched) : ((s.closeDisputes k).lane n).Quenched := by
  unfold State.closeDisputes
  rwa [State.onLanes_lane]

end

theorem State.setRole_role (s : State) (n : Lane) (r : Role) (leader : Option Lane) : ((s.setRole n r leader).lane n).role = r := by
  unfold State.setRole
  dsimp only
  split
  · rw [State.onLane_lane]
  · unfold State.log
    rw [State.onLane_lane, LaneSt.write_role, State.onLane_lane]

/-- A lane that leaves Active for Quenched is Quenched. -/
theorem State.leaveActive_quenched (s : State) (n : Lane) : ((s.leaveActive n .quenched).lane n).Quenched := by
  unfold State.leaveActive
  rw [State.onM_lane, State.onLane_lane]
  exact ⟨rfl, State.setRole_role .., rfl, rfl⟩

theorem State.setCaldera_quenched (s : State) (n : Lane) (path : Nat) : ((s.setCaldera n path).lane n).Quenched := by
  unfold State.setCaldera
  refine State.closeDisputes_quenched (State.log_quenched ?_)
  rw [State.onVote_lane]
  exact s.leaveActive_quenched n

/-- The two ways a Caldera sets (R47): two votes count, or the lane's own quench input with fewer than two Active peers (R53). -/
theorem execCalderaSet_cases {s u : State} {t : Nat} {n : Lane} (h : exec (.calderaSet t n) s = .next u) :
    u = s.at_ t ∨
    ((2 ≤ ((s.at_ t).counting n).length ∨
        (((s.lane n).vote.request = true ∨ (s.lane n).rst.dogForced = true) ∧ (s.at_ t).activePeers n < 2)) ∧
      ∃ (v : State) (path : Nat), u = (v.setCaldera n path).checkLimp) := by
  simp only [exec, execCalderaSet, done, State.at_lane] at h
  split at h
  case isTrue => exact .inl (Host.Outcome.next.inj h).symm
  case isFalse hset =>
    refine .inr ⟨?_, _, _, (Host.Outcome.next.inj h).symm⟩
    simp only [Bool.or_eq_true, Bool.not_eq_true', not_or, Bool.not_eq_false] at hset
    obtain ⟨-, hpath⟩ := hset
    simpa only [Bool.or_eq_true, Bool.and_eq_true, decide_eq_true_eq] using hpath

theorem State.voteCounts_self (s : State) (n : Lane) : s.voteCounts n n = false := by
  simp [State.voteCounts, State.voteLine]

theorem otherLanes_length {n v : Lane} (hv : v ≠ n) : (allLanes.filter (fun k => k != n && k != v)).length = 1 := by
  revert hv
  cases n <;> cases v <;> decide

/-- A lane's own vote never counts against it, so two counting votes are those of both peers. -/
theorem State.voteCounts_of_two {s : State} {n v : Lane} (h : 2 ≤ (s.counting n).length) (hv : v ≠ n) : s.voteCounts v n = true := by
  by_contra hno
  have hothers : (s.counting n).Sublist (allLanes.filter (fun k => k != n && k != v)) := by
    refine List.monotone_filter_right _ fun k hk => ?_
    simp only [Bool.and_eq_true, bne_iff_ne]
    refine ⟨?_, ?_⟩ <;> rintro rfl
    · simp [State.voteCounts_self] at hk
    · exact hno hk
  have hle := hothers.length_le
  rw [otherLanes_length hv] at hle
  omega

/-- Settles O55: the two ways a Caldera sets, and a lane whose Caldera has set is Quenched. -/
theorem twoVotesSetTheCaldera : Obligations.TwoVotesSetTheCaldera := by
  intro s u t n hexec hbefore hafter
  rcases execCalderaSet_cases hexec with rfl | ⟨hways, v, path, rfl⟩
  · rw [State.at_lane, hbefore] at hafter
    cases hafter
  · exact ⟨hways.imp_left fun htwo v hv => State.voteCounts_of_two htwo hv, State.checkLimp_quenched (v.setCaldera_quenched n path)⟩

end Sys2Proof.Machine

/-! The code of R26 and the scrub. The exclusive-or of columns is linear in the bits, so a flipped bit gives its column as the
syndrome; the columns are different and of odd weight, so one flip is found and two never are. -/

namespace Sys2Proof.Machine

/-! ### The columns of the code (R26) -/

theorem foldl_columns_xor (l : List (Byte × Nat)) (a : Byte) :
    l.foldl (fun a e => a ^^^ e.1) a = a ^^^ l.foldl (fun a e => a ^^^ e.1) 0 := by
  induction l generalizing a with
  | nil => simp
  | cons e l ih => rw [List.foldl_cons, List.foldl_cons, ih, ih (0 ^^^ e.1)]; simp [BitVec.xor_assoc]

/-- The first column belongs to bit 0, the others to the number without it. -/
theorem sumColumns_cons (c : Byte) (cols : List Byte) (x : Nat) :
    sumColumns (c :: cols) x = (if x.testBit 0 then c else 0) ^^^ sumColumns cols (x / 2) := by
  have hrest : (cols.zipIdx 1).filter (fun e => x.testBit e.2) =
      (cols.zipIdx.filter (fun e => (x / 2).testBit e.2)).map (fun e => (e.1, e.2 + 1)) := by
    rw [List.zipIdx_succ, List.filter_map]
    congr 2
    funext e
    exact Nat.testBit_succ x e.2
  unfold sumColumns
  rw [List.zipIdx_cons, List.filter_cons, hrest]
  split
  · rw [List.foldl_cons, foldl_columns_xor, List.foldl_map]; simp
  · rw [List.foldl_map]; simp

theorem sumColumns_zero (cols : List Byte) : sumColumns cols 0 = 0 := by
  induction cols with
  | nil => rfl
  | cons c cols ih => rw [sumColumns_cons, Nat.zero_div, ih]; simp

theorem sumColumns_xor (cols : List Byte) (x y : Nat) : sumColumns cols (x ^^^ y) = sumColumns cols x ^^^ sumColumns cols y := by
  induction cols generalizing x y with
  | nil => simp [sumColumns]
  | cons c cols ih =>
    have hbit : (if (x ^^^ y).testBit 0 then c else 0) = (if x.testBit 0 then c else 0) ^^^ (if y.testBit 0 then c else 0) := by
      rw [Nat.testBit_xor]
      cases x.testBit 0 <;> cases y.testBit 0 <;> simp
    rw [sumColumns_cons, sumColumns_cons, sumColumns_cons, Nat.xor_div_two, ih, hbit]
    ac_rfl

theorem sumColumns_two_pow {cols : List Byte} {k : Nat} (hk : k < cols.length) : sumColumns cols (2 ^ k) = cols[k] := by
  induction cols generalizing k with
  | nil => simp at hk
  | cons c cols ih =>
    rw [sumColumns_cons]
    cases k with
    | zero => simp [sumColumns_zero]
    | succ k =>
      have hk : k < cols.length := by simpa using hk
      rw [Nat.pow_succ, Nat.mul_div_cancel _ two_pos, ih hk]
      simp

theorem bytesOfWeight_nodup (k : Nat) : (bytesOfWeight k).Nodup := by
  refine List.Nodup.filter _ (List.Nodup.map_on ?_ List.nodup_range)
  intro x hx y hy hxy
  rw [List.mem_range] at hx hy
  simpa [Nat.mod_eq_of_lt hx, Nat.mod_eq_of_lt hy] using congrArg BitVec.toNat hxy

theorem dataColumns_length : dataColumns.length = 64 := by
  have h3 : (bytesOfWeight 3).length = 56 := by decide +kernel
  have h5 : (bytesOfWeight 5).length = 56 := by decide +kernel
  unfold dataColumns
  rw [(choose_perm _ _).length_eq, List.length_append, List.length_take, (choose_perm _ _).length_eq, h3, h5]
  rfl

theorem weight_of_mem_bytesOfWeight {k : Nat} {b : Byte} (h : b ∈ bytesOfWeight k) : weight b = k := by
  simpa using (List.mem_filter.mp h).2

theorem dataColumns_nodup : dataColumns.Nodup := by
  unfold dataColumns
  rw [(choose_perm _ _).nodup_iff]
  refine List.Nodup.append (bytesOfWeight_nodup 3) (((choose_perm _ _).nodup_iff.mpr (bytesOfWeight_nodup 5)).take) ?_
  intro b h3 h5
  have h5 := (choose_perm _ _).mem_iff.mp (List.mem_of_mem_take h5)
  have := weight_of_mem_bytesOfWeight h3
  have := weight_of_mem_bytesOfWeight h5
  omega

/-- Two bytes and their exclusive-or have an even number of ones together. -/
theorem weight_xor_mod_two (a b : Byte) : weight (a ^^^ b) % 2 = (weight a + weight b) % 2 := by
  unfold weight
  simp only [BitVec.getLsbD_xor]
  induction List.range 8 with
  | nil => rfl
  | cons i l ih =>
    simp only [List.filter_cons]
    cases a.getLsbD i <;> cases b.getLsbD i <;> simp <;> omega

theorem weight_zero : weight 0 = 0 := by decide

/-! ### Flipped data bits -/

theorem toNat_flipBit (d : Dword) {k : Nat} (hk : k < 64) : (flipBit d k).toNat = d.toNat ^^^ 2 ^ k := by
  unfold flipBit
  rw [BitVec.toNat_xor, BitVec.toNat_shiftLeft, BitVec.toNat_ofNat, Nat.one_mod, Nat.shiftLeft_eq, one_mul,
    Nat.mod_eq_of_lt (Nat.pow_lt_pow_right one_lt_two hk)]

theorem flipBit_flipBit (d : Dword) (k : Nat) : flipBit (flipBit d k) k = d := by
  simp [flipBit]

/-- A flipped data bit changes the check bits by its column. -/
theorem checkBits_flipBit (d : Dword) (a : Nat) {k : Nat} (hk : k < 64) :
    checkBits (flipBit d k) a = checkBits d a ^^^ dataColumns[k]'(dataColumns_length ▸ hk) := by
  unfold checkBits
  rw [toNat_flipBit d hk, sumColumns_xor, sumColumns_two_pow (dataColumns_length ▸ hk)]
  ac_rfl

theorem findIdx?_dataColumns {k : Nat} (hk : k < dataColumns.length) : dataColumns.findIdx? (· == dataColumns[k]) = some k := by
  rw [List.findIdx?_eq_some_iff_getElem]
  refine ⟨hk, by simp, fun j hj => ?_⟩
  simp [dataColumns_nodup.getElem_inj_iff, Nat.ne_of_lt hj]

/-- One flipped data bit is corrected (R26, R27). -/
theorem decode_flipBit (d : Dword) (a : Nat) {k : Nat} (hk : k < 64) :
    XWord.decode { data := flipBit d k, check := checkBits d a } a = some (d, true) := by
  have hk' : k < dataColumns.length := dataColumns_length ▸ hk
  have hsyndrome : XWord.syndrome { data := flipBit d k, check := checkBits d a } a = dataColumns[k] := by
    simp [XWord.syndrome, checkBits_flipBit d a hk]
  have hweight := weight_of_mem_dataColumns (List.getElem_mem hk')
  have hzero : dataColumns[k] ≠ 0 := by
    intro h
    rw [h, weight_zero] at hweight
    omega
  have hone : weight dataColumns[k] ≠ 1 := by omega
  unfold XWord.decode
  simp only [hsyndrome, if_neg hzero, if_neg hone, findIdx?_dataColumns hk', Option.map_some, flipBit_flipBit]

/-- Two flipped data bits are never corrected: the sum of two columns is not zero and has even weight (R26, R27). -/
theorem decode_flipBit_flipBit (d : Dword) (a : Nat) {j k : Nat} (hj : j < 64) (hk : k < 64) (hjk : j ≠ k) :
    XWord.decode { data := flipBit (flipBit d j) k, check := checkBits d a } a = none := by
  have hj' : j < dataColumns.length := dataColumns_length ▸ hj
  have hk' : k < dataColumns.length := dataColumns_length ▸ hk
  have hcheck : checkBits d a = checkBits (flipBit (flipBit d j) k) a ^^^ (dataColumns[j] ^^^ dataColumns[k]) := by
    rw [checkBits_flipBit _ a hk, checkBits_flipBit d a hj]
    simp [BitVec.xor_assoc]
  have hzero : dataColumns[j] ^^^ dataColumns[k] ≠ 0 := by
    intro h
    exact hjk ((dataColumns_nodup.getElem_inj_iff).mp (BitVec.xor_eq_zero_iff.mp h))
  have heven := weight_xor_mod_two dataColumns[j] dataColumns[k]
  have hwj := weight_of_mem_dataColumns (List.getElem_mem hj')
  have hwk := weight_of_mem_dataColumns (List.getElem_mem hk')
  rw [hcheck]
  exact XWord.decode_flip_none _ a hzero (by omega) (by omega) (by omega)

/-! ### Stored words -/

@[simp] theorem LaneSt.byteAt_store (l : LaneSt) (n : Lane) (a : Nat) (w : XWord) (x : Nat) : (l.store n a w).byteAt n x = l.byteAt n x := rfl

/-- What stands at another address stays. -/
theorem LaneSt.held_store_ne (l : LaneSt) (n : Lane) {a x : Nat} (w : XWord) (hx : x ≠ a) : (l.store n a w).held n x = l.held n x := by
  have hupset : (l.store n a w).upset n x = l.upset n x := by
    have hfilter : ∀ q : Nat × Dword × Dword × Byte → Bool,
        (l.upsets.filter (fun e => e.1 != a)).find? (fun e => e.1 == x && q e) = l.upsets.find? (fun e => e.1 == x && q e) := by
      intro q
      rw [List.find?_filter]
      congr 1
      funext e
      by_cases he : e.1 = x
      · simp [he, hx]
      · simp [he]
    have hax : (a == x) = false := by simpa using hx.symm
    unfold LaneSt.upset
    rw [LaneSt.wordAt_store]
    unfold LaneSt.store
    dsimp only
    split
    · rw [hfilter]
    · rw [List.find?_cons]
      simp only [hax, Bool.false_and, hfilter]
  unfold LaneSt.held
  rw [hupset, LaneSt.wordAt_store]

/-- The counters of corrected errors stand in no byte of the address space. -/
theorem LaneSt.byteAt_corrected (l : LaneSt) (n : Lane) (p x : Nat) :
    ({ l with ctr := l.ctr.corrected p } : LaneSt).byteAt n x = l.byteAt n x := by
  unfold CtrSt.corrected
  split <;> rfl

theorem LaneSt.held_corrected (l : LaneSt) (n : Lane) (p x : Nat) :
    ({ l with ctr := l.ctr.corrected p } : LaneSt).held n x = l.held n x := by
  unfold CtrSt.corrected
  split <;> rfl

/-- A corrected read outside OTP counts and writes back (R27, R30). -/
theorem State.readWord_corrected {s : State} {n : Lane} {a : Nat} {d : Dword}
    (h : ((s.lane n).held n a).decode (foldMemory a) = some (d, true)) (hotp : (memoryOf a).1 ≠ 3) :
    (s.readWord n a).1 = (s.onCtr n (fun c => c.corrected (memoryOf a).1)).onLane n (fun l => l.store n a (XWord.encode d (foldMemory a))) := by
  simp [State.readWord, h, hotp]

/-- An uncorrectable read faults the lane (R28). -/
theorem State.readWord_uncorrectable {s : State} {n : Lane} {a : Nat} (h : ((s.lane n).held n a).decode (foldMemory a) = none) :
    (s.readWord n a).1 = s.eccFault n a false := by
  simp [State.readWord, h]

/-- A scrub of a mapped word reads it with the given bits flipped (R30). -/
theorem execMemoryScrub_memory (t : Nat) {n : Lane} {b : Word} (dx : Dword) (cx : Byte) {s : State}
    (hreset : (s.lane n).rst.inReset = false) (hmapped : mapped (b.toNat / 8 * 8) = true) :
    exec (.memoryScrub t n b ⟨false, dx, cx⟩) s = .next (((s.at_ t).onLane n (fun l => l.store n (b.toNat / 8 * 8)
      { data := ((s.lane n).held n (b.toNat / 8 * 8)).data ^^^ dx
        check := ((s.lane n).held n (b.toNat / 8 * 8)).check ^^^ cx })).readWord n (b.toNat / 8 * 8)).1 := by
  simp [exec, execMemoryScrub, done, hreset, hmapped]

/-- Settles O41: the scrub stores the flipped word and reads it, the read writes the corrected one back; and the code's two facts
about flipped data bits. -/
theorem scrubWritesOneDoubleWord : Obligations.ScrubWritesOneDoubleWord := by
  refine ⟨?_, fun d a j k hj hk hjk => ⟨decode_flipBit d a hk, decode_flipBit_flipBit d a hj hk hjk⟩⟩
  intro s t n b dx cx d at_ w hreset hmapped hmem hdecode
  let f := (s.at_ t).onLane n (fun l => l.store n at_ { data := w.data ^^^ dx, check := w.check ^^^ cx })
  have hflipped : ((f.lane n).held n at_).decode (foldMemory at_) = some (d, true) := by
    simpa [f] using hdecode
  refine ⟨_, execMemoryScrub_memory t dx cx hreset hmapped, ?_⟩
  rw [State.readWord_corrected hflipped (Nat.ne_of_lt hmem)]
  refine ⟨by simp, fun x hx => ?_, fun x => ?_, fun m hm => ?_, by simp [f, LaneSt.store], by simp [f, LaneSt.store], by simp [f]⟩
  · rw [State.onLane_lane, LaneSt.held_store_ne _ _ _ hx, State.onCtr_lane, LaneSt.held_corrected, State.onLane_lane,
      LaneSt.held_store_ne _ _ _ hx, State.at_lane]
  · rw [State.onLane_lane, LaneSt.byteAt_store, State.onCtr_lane, LaneSt.byteAt_corrected, State.onLane_lane, LaneSt.byteAt_store,
      State.at_lane]
  · rw [State.onLane_lane_ne _ _ _ hm, State.onCtr_lane_ne _ _ _ hm, State.onLane_lane_ne _ _ _ hm, State.at_lane]

/-! ### Health events -/

/-- A corrected beat of the internal bus is counted (R27, R30). -/
theorem execMemoryScrub_bus_corrected {t : Nat} {n : Lane} {b : Word} {dx d : Dword} {cx : Byte} {s : State}
    (hreset : ((s.at_ t).lane n).rst.inReset = false) (hmapped : mapped (b.toNat / 8 * 8) = true)
    (hdecode : XWord.decode
      { data := (XWord.encode (((s.at_ t).lane n).wordAt n (b.toNat / 8 * 8)) (foldBus (b.toNat / 8 * 8))).data ^^^ dx
        check := (XWord.encode (((s.at_ t).lane n).wordAt n (b.toNat / 8 * 8)) (foldBus (b.toNat / 8 * 8))).check ^^^ cx }
      (foldBus (b.toNat / 8 * 8)) = some (d, true)) :
    exec (.memoryScrub t n b ⟨true, dx, cx⟩) s = .next ((s.at_ t).onCtr n (fun c => c.corrected 4)) := by
  have hruns : ¬(((s.at_ t).lane n).rst.inReset = true ∨ mapped (b.toNat / 8 * 8) = false) := by
    simp only [hreset, hmapped, Bool.false_eq_true, Bool.true_eq_false, or_false, not_false_eq_true]
  simp only [exec, execMemoryScrub, if_neg hruns, hdecode, if_true]
  rfl

/-- Settles O19: the branch of each event. -/
theorem healthEventsComplete : Obligations.HealthEventsComplete := by
  intro s t n
  have hlane : (s.at_ t).lane n = s.lane n := State.at_lane ..
  refine ⟨?latch, ?lifetime, ?thermal, ?corrected, ?uncorrectable, ?bus, ?lockstep⟩
  case latch => exact fun hon => if_neg hon
  case lifetime => exact fun hreset hdue => if_pos ⟨hreset, hdue⟩
  case thermal =>
    intro u hreset
    exact congrArg Host.Outcome.next (State.onLane_congr (if_neg (Bool.eq_false_iff.mp hreset)))
  case corrected =>
    intro a dx d cx u hreset at_ hmapped h w hdecode hotp
    rw [hlane] at hreset
    rw [execMemoryScrub_memory t dx cx hreset hmapped, ← hlane]
    exact congrArg Host.Outcome.next (State.readWord_corrected hdecode hotp)
  case uncorrectable =>
    intro a dx cx u hreset at_ hmapped h w hdecode
    rw [hlane] at hreset
    rw [execMemoryScrub_memory t dx cx hreset hmapped, ← hlane]
    exact congrArg Host.Outcome.next (State.readWord_uncorrectable hdecode)
  case bus =>
    intro a dx d cx u hreset at_ hmapped w hdecode
    exact execMemoryScrub_bus_corrected hreset hmapped hdecode
  case lockstep => exact fun a hreset => if_neg (Bool.eq_false_iff.mp hreset)

end Sys2Proof.Machine

/-! Cross-lane frames and items, and the state of a link direction (R29, R34, R38 to R40). -/

namespace Sys2Proof.Machine

/-- A frame with an uncorrectable word, at a link end in use, is only counted (R29, R39). -/
theorem execCrossLaneFrameCommit_uncorrectable (t : Nat) {src dst : Lane} {ws : List XWord} {s : State} (hne : src ≠ dst)
    (hreset : (s.lane dst).rst.inReset = false) (hlen : 10 ≤ ws.length) (hused : (s.lane dst).mapBit (linkEndBit dst src) = false)
    (hcheck : checkWords (linkId src dst) 0 ws = none) :
    exec (.crossLaneFrameCommit t src dst ws) s = .next ((s.at_ t).onCtr dst (fun c =>
      if src = dst.lower then { c with linkLo := satInc c.linkLo } else { c with linkHi := satInc c.linkHi })) := by
  simp [exec, execCrossLaneFrameCommit, hne, hreset, hlen, hused, hcheck, done]

/-- Settles O53: the frame's words do not check, and only the counter of that link changes. -/
theorem anUncorrectableWordLosesTheFrame : Obligations.AnUncorrectableWordLosesTheFrame := by
  intro s t src dst ws w i hne hreset hlen hused hw hbad
  have hcheck : checkWords (linkId src dst) 0 ws = none := checkWords_none hw (by rwa [Nat.zero_add])
  rw [execCrossLaneFrameCommit_uncorrectable t hne hreset hlen hused hcheck]
  congr 1
  refine State.onLane_congr ?_
  split <;> rfl

/-- The item of its type at the front of the link is taken and acts (R34). -/
theorem State.onItem_of_next {s : State} {src dst : Lane} {type : Byte} {item : List Byte} (f : State → List Byte → State)
    (hne : src ≠ dst) (hreset : (s.lane dst).rst.inReset = false) (hnext : s.nextItem src dst type = some item) :
    s.onItem src dst type item f = f (s.dropItem src dst type) item := by
  simp [State.onItem, State.onNext, hne, hreset, hnext]

/-- Settles O21: the branch of each event. -/
theorem linkEventsComplete : Obligations.LinkEventsComplete := by
  intro s t src dst hne
  refine ⟨?committed, ?discarded, ?silent, ?down, ?up, ?enable⟩
  case committed =>
    intro ws ds fixed u hreset hlen hused hcheck
    have htaken : ¬(src = dst ∨ (u.lane dst).rst.inReset = true ∨ ws.length < 10 ∨ (u.lane dst).mapBit (linkEndBit dst src) = true) := by
      simp [hne, hreset, hused, hlen]
    simp only [exec, execCrossLaneFrameCommit]
    rw [if_neg htaken, hcheck]
    rfl
  case discarded =>
    intro ws u hreset hlen hused hcheck
    have hlane : u.lane dst = s.lane dst := State.at_lane ..
    rw [hlane] at hreset hused
    exact execCrossLaneFrameCommit_uncorrectable t hne hreset hlen hused hcheck
  case silent =>
    intro u hreset hsignal
    have hlost : ¬(src = dst ∨ (u.lane dst).rst.inReset = true ∨ (u.link src dst).signal = false) := by
      simp [hne, hreset, hsignal]
    exact if_neg hlost
  case down =>
    intro u hreset hup hsignal hperiods
    have hlost : ¬(src = dst ∨ (u.lane dst).rst.inReset = true ∨ (u.link src dst).down = true ∨ (u.link src dst).signal = false ∨
        (u.link src dst).lost < (u.lane dst).codeN Key.linkLossPeriods) := by
      simp only [hne, hreset, hup, hsignal, Nat.not_lt.mpr hperiods, Bool.false_eq_true, Bool.true_eq_false, or_false, not_false_eq_true]
    exact if_neg hlost
  case up =>
    intro u hdown hgood hused
    have hback : ¬(src = dst ∨ (u.link src dst).down = false ∨ (u.link src dst).good < 16 ∨
        (u.lane dst).mapBit (linkEndBit dst src) = true) := by
      simp [hne, hdown, hgood, hused]
    exact if_neg hback
  case enable =>
    intro on u hreset b hnext
    exact congrArg Host.Outcome.next (State.onItem_of_next _ hne hreset hnext)

end Sys2Proof.Machine

/-! Receptions on the network channels and the relay between lanes (R285 to R316). -/

namespace Sys2Proof.Machine

/-- A frame that its channel accepts is taken in where it addresses the module and is no null frame (R286, R298). -/
theorem execCommandFrame_ok {s : State} {t : Nat} {n : Lane} {c : Chan} {f : HFrame} {w p : Nat}
    (hr : ((s.at_ t).receive n c f).2 = .ok w p) :
    exec (.commandFrame t n c f) s =
      if (s.lane n).addressed w p = true ∧ f.null = false ∧ (s.lane n).net.hearsOn c = true then
        .next (if (((s.at_ t).receive n c f).1.takeCommand n f).2 = true
          then (((s.at_ t).receive n c f).1.takeCommand n f).1.offerRelay n c f else (((s.at_ t).receive n c f).1.takeCommand n f).1)
      else .next ((s.at_ t).receive n c f).1 := by
  simp only [exec, execCommandFrame, hr]
  rfl

/-- Every other verdict has the effect of the reception alone (R287). -/
theorem execCommandFrame_not_ok {s : State} {t : Nat} {n : Lane} {c : Chan} {f : HFrame}
    (hr : ∀ w p, ((s.at_ t).receive n c f).2 ≠ .ok w p) :
    exec (.commandFrame t n c f) s = .next ((s.at_ t).receive n c f).1 := by
  cases hv : ((s.at_ t).receive n c f).2 with
  | ok w p => exact absurd hv (hr w p)
  | _ => simp only [exec, execCommandFrame, hv]; rfl

/-- A change of an incoming link is what it makes of that link. -/
theorem State.onLink_congr {s : State} {src dst : Lane} {f g : LinkIn → LinkIn} (h : f (s.link src dst) = g (s.link src dst)) :
    s.onLink src dst f = s.onLink src dst g := by
  refine State.onLane_congr ?_
  unfold State.link LaneSt.link at h
  unfold LaneSt.onLink
  split at h
  case isTrue hlow => rw [if_pos hlow, if_pos hlow, h]
  case isFalse hup => rw [if_neg hup, if_neg hup, h]

/-- Settles O24: the branch of each event. -/
theorem receptionEventsComplete : Obligations.ReceptionEventsComplete := by
  intro s t n c
  have hlane : (s.at_ t).lane n = s.lane n := State.at_lane ..
  refine ⟨?taken, ?judged, ?null, ?deviation, ?short, ?caps, ?inbound, ?outbound, ?dropOut, ?dropIn⟩
  case taken =>
    intro f w p u r hr haddr hnull hhears
    rw [hlane] at haddr hhears
    exact (execCommandFrame_ok hr).trans (if_pos ⟨haddr, hnull, hhears⟩)
  case judged =>
    intro f u hother
    by_cases hr : ∃ w p, (u.receive n c f).2 = .ok w p
    · obtain ⟨w, p, hr⟩ := hr
      have hother := hother w p hr
      rw [hlane] at hother
      refine (execCommandFrame_ok hr).trans (if_neg ?_)
      rintro ⟨haddr, hnull, hhears⟩
      simp [haddr, hnull, hhears] at hother
    · exact execCommandFrame_not_ok fun w p hok => hr ⟨w, p, hok⟩
  case null => exact fun f => rfl
  case deviation =>
    intro f w p i u hr hi htype hlen hend rx d
    simp only [u, hlane] at hr hi htype hend
    simp only [exec, execReferenceFrame, hr, hi]
    rw [if_neg (not_not.mpr htype), if_neg (Nat.not_lt.mpr hlen), if_neg (Nat.not_lt.mpr hend), ← hlane]
    rfl
  case short =>
    intro f w p i u hr hi htype hlen
    simp only [u, hlane] at hr hi htype
    simp only [exec, execReferenceFrame, hr, hi]
    rw [if_neg (not_not.mpr htype), if_pos hlen]
    rfl
  case caps =>
    intro f w p u hr htype hnew w1 w2
    simp only [u, hlane] at hr htype hnew
    simp only [exec, execCapsFrame, hr]
    rw [if_neg (not_or.mpr ⟨not_not.mpr htype, hnew⟩)]
    rfl
  case inbound =>
    intro src dst c f u hne hreset b hnext v
    exact congrArg Host.Outcome.next (State.onItem_of_next _ hne hreset hnext)
  case outbound =>
    intro src dst epoch fresh payload u hne hreset b hnext v hruns
    refine congrArg Host.Outcome.next ((State.onItem_of_next _ hne hreset hnext).trans (if_neg ?_))
    rw [hruns]
    exact Bool.true_eq_false_eq_False
  case dropOut =>
    intro u late
    refine congrArg Host.Outcome.next (List.foldl_ext _ _ _ fun w p _ => ?_)
    exact congrArg (State.onCtr · n _) (State.onLink_congr rfl)
  case dropIn => exact rfl

end Sys2Proof.Machine

/-! Twin frames and twin links (R74, R75, R78). -/

namespace Sys2Proof.Machine

/-- The state in which a twin link has shown a checked frame (R75). -/
def State.twinShown (s : State) (k : TwinLink) (ds : List Dword) : State :=
  { s with twin := s.twin.onLink k (fun x => { x with
      last := ds, stepIdx := some (BitVec.ofNat 16 (fld (ds.getD 0 0) 0 16)), lost := 0, down := false }) }

/-- What a checked twin frame of the present format does, by the position it names and by whether its step was used (R74, R75). -/
theorem execTwinFrame_checked {s : State} {t : Nat} {k : TwinLink} {ws : List XWord} {ds : List Dword} {fixed : Nat}
    (hpos : (s.at_ t).twinPos ≠ 0) (hserved : (s.at_ t).twinServed k = true) (hlen : ws.length = 7)
    (hcheck : checkWords twinId 0 ws = some (ds, fixed)) (hformat : fld (ds.getD 0 0) 60 4 = 1) :
    exec (.twinFrame t k ws) s =
      if fld (ds.getD 0 0) 58 2 = (s.at_ t).twinPos then
        .next ((s.at_ t).logModule (twinLane k) 0x0604 (BitVec.ofNat 32 (fld (ds.getD 0 0) 58 2)))
      else if fld (ds.getD 0 0) 58 2 = 0 ∨ fld (ds.getD 0 0) 58 2 = 3 then .next (s.at_ t)
      else if (s.at_ t).twin.used.contains (BitVec.ofNat 16 (fld (ds.getD 0 0) 0 16)) = true then
        .next ((s.at_ t).twinShown k ds)
      else
        let v := (s.at_ t).twinShown k ds
        .next (State.useTwin { v with twin := { v.twin with
          used := (BitVec.ofNat 16 (fld (ds.getD 0 0) 0 16) :: v.twin.used).take 16 } } ds) := by
  have htaken : ¬((s.at_ t).twinPos = 0 ∨ (s.at_ t).twinServed k = false ∨ ws.length ≠ 7) := by simp [hpos, hserved, hlen]
  simp only [exec, execTwinFrame]
  rw [if_neg htaken, hcheck]
  exact if_neg (not_not.mpr hformat)

/-- A change of one twin link leaves the steps used. -/
@[simp] theorem TwinSt.onLink_used (w : TwinSt) (k : TwinLink) (f : TwinLinkSt → TwinLinkSt) : (w.onLink k f).used = w.used := by
  cases k <;> rfl

/-- Settles O30: the branch of each frame, and of a silent link. -/
theorem twinEventsComplete : Obligations.TwinEventsComplete := by
  intro s t k ws ds fixed
  have hother : ∀ {x : Nat}, x = 1 ∨ x = 2 → ¬(x = 0 ∨ x = 3) := by omega
  refine ⟨?first, ?second, ?loopback, ?down⟩
  case first =>
    intro u hpos hserved hlen hcheck hformat hne hvalid idx hnew v
    rw [execTwinFrame_checked hpos hserved hlen hcheck hformat, if_neg hne, if_neg (hother hvalid), if_neg (Bool.eq_false_iff.mp hnew)]
    simp only [State.twinShown, TwinSt.onLink_used]
    rfl
  case second =>
    intro u hpos hserved hlen hcheck hformat hne hvalid idx hused
    rw [execTwinFrame_checked hpos hserved hlen hcheck hformat, if_neg hne, if_neg (hother hvalid), if_pos hused]
    rfl
  case loopback =>
    intro u hpos hserved hlen hcheck hformat hown
    rw [execTwinFrame_checked hpos hserved hlen hcheck hformat, if_pos hown, hown]
  case down =>
    intro u hpos hup hlost v
    have hsilent : ¬(u.twinPos = 0 ∨ (u.twin.link k).down = true ∨
        (u.twin.link k).lost < (u.lane u.scribe).codeN Key.twinLossSteps) := by
      simp only [hpos, hup, Nat.not_lt.mpr hlost, Bool.false_eq_true, or_false, not_false_eq_true]
    refine (if_neg hsilent).trans ?_
    exact (apply_ite Host.Outcome.next _ _ _).symm

end Sys2Proof.Machine

/-! Sequence marks and epochs (R65, R334, R335). -/

namespace Sys2Proof.Machine

/-- An entry changed under its own number is found under that number, changed. -/
theorem SecSt.session_onSession (x : SecSt) {num : Half} {f : SessionEntry → SessionEntry} (hf : ∀ e, (f e).num = e.num) :
    (x.onSession num f).session num = (x.session num).map f := by
  have hnum : (fun e : SessionEntry => e.num == num) ∘ (fun e => if e.num = num then f e else e) = (fun e => e.num == num) := by
    funext e
    simp only [Function.comp]
    split <;> simp [hf]
  simp only [SecSt.session, SecSt.onSession, List.find?_map, hnum]
  refine Option.map_congr fun e he => if_pos ?_
  simpa using List.find?_some he

/-- A change of a session that keeps its number and its sender is seen by the next request of that session. -/
theorem LaneSt.sessionOf_onSession (l : LaneSt) (r : Req) {f : SessionEntry → SessionEntry} (hnum : ∀ e, (f e).num = e.num)
    (hbinding : ∀ e, (f e).binding = e.binding) :
    ({ l with sec := l.sec.onSession r.session f } : LaneSt).sessionOf r = (l.sessionOf r).map f := by
  simp only [LaneSt.sessionOf, SecSt.session_onSession _ hnum]
  cases l.sec.session r.session with
  | none => rfl
  | some e => simp only [Option.map_some, Option.filter_some, hbinding]; split <;> rfl

/-- No sequence is newer than itself (R334). -/
theorem newer_self (a : Half) : newer a a = false := by
  simp [newer]

/-- What orders 3 to 7 ask of a request of a session: its version and target, its open session, its MAC and its sequence (R335). -/
theorem LaneSt.orders3to7_eq_none_iff {l : LaneSt} {op : Half} {r : Req} (hs : r.session ≠ 0) :
    l.orders3to7 op r = none ↔ ¬(r.verMajor ≠ 2 ∧ r.verMajor ≠ 3) ∧
      ¬(validTarget r.target = false ∨ ((opRow op).map (fun o => o.targets.contains r.target)) = some false) ∧
      l.sessionOf r ≠ none ∧ l.macOk op r = true ∧ l.seqOk r = true := by
  simp only [LaneSt.orders3to7, if_neg hs, ite_eq_iff, reduceCtorEq, and_false, and_true, false_or, ne_eq, Bool.not_eq_false]

/-- A stale sequence ends in ERR_AUTH, as a missing session or a bad MAC does. -/
theorem LaneSt.orders3to7_of_not_seqOk {l : LaneSt} {op : Half} {r : Req} (hver : ¬(r.verMajor ≠ 2 ∧ r.verMajor ≠ 3))
    (htarget : ¬(validTarget r.target = false ∨ ((opRow op).map (fun o => o.targets.contains r.target)) = some false))
    (hs : r.session ≠ 0) (hseq : l.seqOk r = false) : l.orders3to7 op r = some (0x15, op.setWidth 32) := by
  unfold LaneSt.orders3to7
  simp only [if_neg hver, if_neg htarget, if_neg hs, if_pos hseq, ite_self]

/-- Noting a request that passed order 7 moves the mark of its session to its sequence (R334). -/
theorem LaneSt.noteRequest_sessionOf {l : LaneSt} {op : Half} {r : Req} {e : SessionEntry} (t : Nat) (hs : r.session ≠ 0)
    (h : l.orders3to7 op r = none) (he : l.sessionOf r = some e) :
    (l.noteRequest op r t).sessionOf r = some { e with mark := some r.seq, lastUsed := t, proven := true } := by
  obtain ⟨-, -, -, hmac, hseq⟩ := (LaneSt.orders3to7_eq_none_iff hs).mp h
  have hopen : ¬(r.session = 0 ∨ l.sessionOf r = none) := not_or.mpr ⟨hs, by simp [he]⟩
  unfold LaneSt.noteRequest
  rw [if_neg hopen, if_neg (by simp [hmac]), if_pos ⟨hseq, h⟩, LaneSt.sessionOf_onSession, he]
  case hnum | hbinding => exact fun _ => rfl
  rfl

/-- Settles O45: the mark has moved to the request's own sequence, which is not newer than itself. -/
theorem aSequenceIsNeverAcceptedTwice : Obligations.ASequenceIsNeverAcceptedTwice := by
  intro l op r t hs h
  obtain ⟨hver, htarget, hopen, -, -⟩ := (LaneSt.orders3to7_eq_none_iff hs).mp h
  obtain ⟨e, he⟩ := Option.ne_none_iff_exists'.mp hopen
  have hstale : (l.noteRequest op r t).seqOk r = false := by
    simp only [LaneSt.seqOk, LaneSt.noteRequest_sessionOf t hs h he, newer_self]
  exact LaneSt.orders3to7_of_not_seqOk hver htarget hs hstale

/-- Serial-number arithmetic by the numbers: the difference modulo 65,536 is not 0 and below half of it (R65, R334). -/
theorem newer_iff (a b : Half) :
    newer a b = true ↔ (a.toNat + 65536 - b.toNat) % 65536 ≠ 0 ∧ (a.toNat + 65536 - b.toNat) % 65536 < 0x8000 := by
  simp only [newer, Bool.and_eq_true, bne_iff_ne, ne_eq, decide_eq_true_eq, BitVec.toNat_sub, ← BitVec.toNat_inj]
  omega

/-- Settles O50: each range of the difference in numbers. -/
theorem epochsCompareByTheirDifference : Obligations.EpochsCompareByTheirDifference := by
  intro received held
  simp only [← Bool.not_eq_true, newer_iff, ne_eq, ← BitVec.toNat_inj]
  refine ⟨?same, ?newer, ?older, ?heldNewer⟩ <;> omega

end Sys2Proof.Machine

/-! Commands and events of arbitration (R50, R51, R55 to R58, R369). -/

namespace Sys2Proof.Machine

/-- QUENCH at the answering lane, by what it sees of the lane it names (R58). -/
theorem handleQuench_of_lane (p : State) (n : Lane) {c : Call} {k : Lane} (hk : Lane.ofCode? (BitVec.ofNat 8 (rd c.p 0 1)) = some k) :
    handleQuench p n c = if p.sees n k = .quenched then .ok p []
      else .later ((p.quenchPart n k).onM (fun m => { m with quenchOf := m.quenchOf ++ [(k, p.now, c.r)] })) := by
  simp only [handleQuench, hk, beq_iff_eq]

theorem State.scribe_of_leader {s : State} {n : Lane} (h : s.leader = some n) : s.scribe = n := by
  simp [State.scribe, h]

/-- Settles O10: the operation's own branch of each command, and the time-out of the front request. -/
theorem arbitrationCommandsComplete : Obligations.ArbitrationCommandsComplete := by
  intro s n r
  refine ⟨?arbitrate, ?quench, ?timeout, ?clear⟩
  case arbitrate =>
    intro htakes p c id v hopen hv0 hv3
    have hopen' : ¬((p.openFor n id).isNone = true) := mt Option.isNone_iff_eq_none.mp (Option.isSome_iff_ne_none.mp hopen)
    have hverdict : ¬(v = 0 ∨ 3 < v.toNat) := not_or.mpr ⟨hv0, Nat.not_lt.mpr hv3⟩
    exact congrArg Host.Outcome.next (htakes.fcp_eq ((if_neg hopen').trans (if_neg hverdict)) trivial)
  case quench =>
    intro k htakes p c hk
    refine congrArg Host.Outcome.next (htakes.fcp_eq (handleQuench_of_lane p n hk) ?_)
    split <;> exact trivial
  case timeout =>
    intro t a k rest hfront hdue hleader hsees
    have hlate : a + ms 5 ≤ t ∧ (s.at_ t).leader.isSome = true ∧ ((s.at_ t).sees (s.at_ t).scribe k != .quenched) = true := by
      simp [hdue, hleader, State.scribe_of_leader hleader, hsees]
    simp only [exec, execQuenchTimeout, hfront]
    rw [if_pos hlate, State.scribe_of_leader hleader]
    rfl
  case clear =>
    intro k htakes p c hk hsees
    have hquenched : ¬((p.sees n k != .quenched) = true) := by simp [hsees]
    refine congrArg Host.Outcome.next (htakes.fcp_eq ?_ trivial)
    simp only [handleCalderaClear]
    rw [hk]
    exact if_neg hquenched

end Sys2Proof.Machine

/-! Release from reset, Boot, trials, copies and keys (R52, R267 to R269, R416, R436 to R442, R451). -/

namespace Sys2Proof.Machine

/-- Settles O17: the branch of each event. -/
theorem bootAndFirmwareEventsComplete : Obligations.BootAndFirmwareEventsComplete := by
  refine ⟨fun s t n => ⟨?release, ?lines, ?wait, ?dormant, ?ungoverned, ?governed, ?trialFailed, ?trialTimeout⟩,
    fun s t n => ⟨?verified, ?raised, ?segment, ?ownerKeys, ?keyPackage⟩⟩
  case release =>
    intro b u hin hcauses hhigh hready hclear w
    have hdue : ((u.lane n).rst.inReset && (u.lane n).rst.causes.isEmpty && (u.lane n).rst.rstHigh && (u.lane n).rst.coreReady &&
        decide ((u.lane n).rst.clearAt + us 20 ≤ t)) = true := by
      simp [hin, hcauses, hhigh, hready, hclear]
    refine (if_pos hdue).trans ?_
    simp only [apply_ite Host.Outcome.next]
    rfl
  case lines =>
    intro u hmode hwoken
    have hready : allLanes.all (fun k => u.atStep9.contains k || !(u.lane k).waits) = true := by
      simpa [List.all_eq_true] using fun k _ => hwoken k
    simp only [exec, execVoteLineTest]
    rw [if_pos ⟨hmode, .inl hready⟩]
    simp only [List.any_nil, Bool.and_false]
    rfl
  case wait =>
    intro a u hmode hwake hdue hactive
    have hsome : ¬((u.actives.isEmpty && allLanes.any (fun k => (u.lane k).ena.pin)) = true) := by simp [hactive]
    simp only [u] at hwake
    simp only [exec, execBootWaitTimeout, hwake]
    rw [if_pos ⟨hmode, decide_eq_true hdue⟩, if_neg hsome]
    rfl
  case dormant =>
    intro held a u hmode hactive hwake hdue hheld
    simp only [u] at hwake
    simp only [exec, execBootToDormant, hwake]
    exact if_pos ⟨hmode, List.isEmpty_iff.mpr hactive, decide_eq_true hdue, hheld⟩
  case ungoverned =>
    intro src dst e u hne hreset b hnext v w hok hgov
    have hgood := not_and_of_not_left ((w.lane dst).sec.trial.isSome = true) (Bool.eq_false_iff.mp hok)
    refine congrArg Host.Outcome.next ((State.onItem_of_next _ hne hreset hnext).trans ((if_neg hgood).trans ?_))
    simp only [v, w] at hgov
    rw [hgov]
  case governed =>
    intro src dst e g u hne hreset b hnext v w hok hgov hstate
    have hgood := not_and_of_not_left ((w.lane dst).sec.trial.isSome = true) (Bool.eq_false_iff.mp hok)
    refine congrArg Host.Outcome.next ((State.onItem_of_next _ hne hreset hnext).trans ((if_neg hgood).trans ?_))
    simp only [v, w] at hgov
    rw [hgov]
    exact if_neg (not_and_of_not_left _ hstate)
  case trialFailed =>
    intro src dst e u hne hreset b hnext v w hfailed htrial
    exact congrArg Host.Outcome.next ((State.onItem_of_next _ hne hreset hnext).trans (if_pos ⟨hfailed, htrial⟩))
  case trialTimeout => exact fun hmode => if_pos hmode
  case verified =>
    intro u hstate hgood
    have hnone : u.actives.filterMap (fun m =>
        if (u.lane m).sec.fwHave = false then some (m, none) else ((u.lane m).verify).map (fun v => (m, some v))) = [] := by
      refine List.filterMap_eq_nil_iff.mpr fun m hm => ?_
      obtain ⟨hhave, hverify⟩ := hgood m hm
      simp [hhave, hverify]
    simp only [exec, execFwVerifyComplete]
    rw [if_neg (not_not.mpr hstate), hnone]
    rfl
  case raised => exact fun hdue => if_pos hdue
  case segment =>
    intro src dst o len d u hne hreset b hnext v hwants off data hturn hfits got hshort
    have hinTurn : ¬((v.lane dst).rst.bootFailed ≠ some 5 ∨ (off ≠ (v.lane dst).sec.copy.length ∧ off ≠ 0) ∨
        pkgMax 1 < off + data.length) := by
      rintro (hother | ⟨hgap, hstart⟩ | hlong)
      · exact hother hwants
      · exact hturn.elim hstart hgap
      · exact Nat.not_lt.mpr hfits hlong
    refine congrArg Host.Outcome.next ((State.onItem_of_next _ hne hreset hnext).trans ((if_neg hinTurn).trans ?_))
    exact if_pos (.inl hshort)
  case ownerKeys =>
    intro src dst e slot ed ml u hne hreset b hnext v hstate hkey hhash w
    refine congrArg Host.Outcome.next ((State.onItem_of_next _ hne hreset hnext).trans ((if_neg hstate).trans ?_))
    have hwritten : (if slot = 0 then (v.lane dst).sec.owner0 else (v.lane dst).sec.owner1).isSome = true :=
      Option.isSome_iff_exists.mpr ⟨_, hhash⟩
    rw [hkey]
    exact if_pos ⟨hwritten, hhash⟩
  case keyPackage =>
    intro src dst e pkg u hne hreset b hnext v hstate hkey
    refine congrArg Host.Outcome.next ((State.onItem_of_next _ hne hreset hnext).trans ((if_neg hstate).trans ?_))
    rw [hkey]

end Sys2Proof.Machine

/-! Votes, the Caldera and disputes (R44 to R49, R54, R57, R65, R66, R496). -/

namespace Sys2Proof.Machine

/-- A lane whose Caldera is due, on either path of R47, sets it, ending its attempt to rejoin where one runs. -/
theorem execCalderaSet_of_due {s : State} {t : Nat} {n : Lane} (hclear : ((s.at_ t).lane n).vote.caldera = false)
    (hreset : ((s.at_ t).lane n).rst.inReset = false) (hon : ((s.at_ t).lane n).state ≠ .off)
    (hdue : 2 ≤ ((s.at_ t).counting n).length ∨
      ((((s.at_ t).lane n).vote.request = true ∨ ((s.at_ t).lane n).rst.dogForced = true) ∧ (s.at_ t).activePeers n < 2)) :
    exec (.calderaSet t n) s = .next (((if ((s.at_ t).lane n).state = .rejoining then (s.at_ t).endAttempt n false else s.at_ t).setCaldera n
      (if 2 ≤ ((s.at_ t).counting n).length then 1 else 2)).checkLimp) := by
  have hpath : (decide (2 ≤ ((s.at_ t).counting n).length) ||
      ((((s.at_ t).lane n).vote.request || ((s.at_ t).lane n).rst.dogForced) && decide ((s.at_ t).activePeers n < 2))) = true := by
    simpa only [Bool.or_eq_true, Bool.and_eq_true, decide_eq_true_eq] using hdue
  have hstate : (((s.at_ t).lane n).state == .off) = false := beq_eq_false_iff_ne.mpr hon
  simp only [exec, execCalderaSet, hclear, hreset, hstate, hpath, Bool.not_true, Bool.or_false]
  rw [if_neg Bool.false_ne_true]
  simp only [decide_eq_true_eq]
  rfl

/-- Settles O22: the branch of each event. -/
theorem voteEventsComplete : Obligations.VoteEventsComplete := by
  refine ⟨fun s t n => ⟨?twoVotes, ?ownRequest, ?active, ?rejoining, ?withdrawn, ?torque, ?reseed, ?selftest, ?profile⟩,
    fun s t n => ⟨?silence, ?epoch, ?dispute, ?timeout⟩⟩
  case twoVotes =>
    intro u htwo hclear hreset hon
    rw [execCalderaSet_of_due hclear hreset hon (.inl htwo), if_pos htwo]
  case ownRequest =>
    intro u hfew hrequest hpeers hclear hreset hon
    rw [execCalderaSet_of_due hclear hreset hon (.inr ⟨hrequest, hpeers⟩), if_neg (Nat.not_le.mpr hfew)]
  case active =>
    intro u hone hclear hstate
    have hvoted : ¬((u.counting n).length ≠ 1 ∨ (u.lane n).vote.caldera = true) := by simp [hone, hclear]
    exact (if_neg hvoted).trans (if_pos hstate)
  case rejoining =>
    intro u hone hclear hstate
    have hvoted : ¬((u.counting n).length ≠ 1 ∨ (u.lane n).vote.caldera = true) := by simp [hone, hclear]
    have hinactive : (u.lane n).state ≠ .active := by simp [hstate]
    exact (if_neg hvoted).trans ((if_neg hinactive).trans (if_pos hstate))
  case withdrawn => exact rfl
  case torque =>
    intro k u hleader hrole hrun
    simp only [u] at hleader
    simp only [exec, execTorqueShadow, hleader]
    exact if_pos ⟨hrole, hrun⟩
  case reseed =>
    intro k q u hleader hsnap hdue hlast hformer
    simp only [u] at hleader hsnap hdue hlast hformer
    simp only [exec, execProfileReseed, hleader, Option.bind_some, hsnap, hdue, hformer]
    cases hat : ((s.at_ t).lane n).prof.reseedAt with
    | none => rfl
    | some a =>
      have hlong : decide (t ≤ a + 1000000000) = false := decide_eq_false (Nat.not_le.mpr (hlast a hat))
      simp only [hlong]
      rfl
  case selftest =>
    intro a u hdue hlast hrecent hformer
    simp only [u] at hdue hlast hformer
    simp only [exec, execDeputySelftestFail, hdue, hlast, hformer, hrecent, decide_true]
    rfl
  case profile =>
    intro k m u hleader hformer hdue hshadow
    simp only [u] at hleader hformer
    simp only [exec, execProfileShadow, hleader, hformer]
    exact if_pos (Bool.and_eq_true_iff.mpr ⟨hdue, hshadow⟩)
  case silence =>
    intro k u hne hdown hsignal hwait hpresent hthird hheard hhears
    exact if_pos ⟨hne, hdown, hsignal, hwait, hpresent, hthird, hheard, hhears⟩
  case epoch =>
    intro k u hne hstate hspeaks hrole hnewer
    exact if_pos ⟨hne, hstate, hspeaks, hrole, hnewer⟩
  case dispute =>
    intro k u hne hcounting hconfirm hopen c
    exact if_pos ⟨hne, hcounting, hconfirm, hopen⟩
  case timeout =>
    intro k d u hfind htimed hdue
    simp only [u] at hfind
    simp only [exec, execDisputeTimeout, hfind]
    exact if_pos ⟨htimed, hdue⟩

end Sys2Proof.Machine

/-! Leadership, shadow profiles and the steps of a rejoin (R42, R43, R59 to R64, R69 to R72, R497, R498). -/

namespace Sys2Proof.Machine

/-- The Leader fills its vacant Deputy role with a lane that has observed the loss as well (R61). -/
def State.fillDeputy (s : State) (n : Lane) : State :=
  (s.nextDeputy n).elim s (fun m => if (s.lane m).rejoin.lossSeen.isSome then s.makeDeputy m n else s)

theorem State.fillDeputy_of_none {s : State} {n : Lane} (h : s.nextDeputy n = none) : s.fillDeputy n = s := by
  simp only [State.fillDeputy, h, Option.elim_none]

theorem State.fillDeputy_of_some {s : State} {n m : Lane} (h : s.nextDeputy n = some m) :
    s.fillDeputy n = if (s.lane m).rejoin.lossSeen.isSome then s.makeDeputy m n else s := by
  simp only [State.fillDeputy, h, Option.elim_some]

/-- The lane that has observed the loss and is the successor takes the lead and fills the Deputy role (R42, R59, R61). -/
theorem execLeaderHandover_of_successor {s : State} {t a : Nat} {n : Lane} (hvotes : (s.at_ t).m.mode.votes = true)
    (hstate : ((s.at_ t).lane n).state = .active) (hrole : ((s.at_ t).lane n).role ≠ .leader)
    (hloss : ((s.at_ t).lane n).rejoin.lossSeen = some a) (hdue : a < t)
    (hnext : (s.at_ t).successor n ((s.at_ t).lane n).leader = some n) :
    exec (.leaderHandover t n) s =
      .next ((((s.at_ t).takeLead n ((s.at_ t).lane n).leader).fillDeputy n).decideNow) := by
  have htakes : ¬((s.at_ t).m.mode.votes = false ∨ ((s.at_ t).lane n).state ≠ .active ∨ ((s.at_ t).lane n).role = .leader ∨
      decide (a < t) = false ∨ (s.at_ t).successor n ((s.at_ t).lane n).leader ≠ some n) := by
    simp only [hvotes, hstate, hrole, hdue, hnext, decide_true, Bool.true_eq_false, ne_eq, not_true_eq_false, or_false, not_false_eq_true]
  simp only [exec, execLeaderHandover, hloss]
  rw [if_neg htakes]
  cases hd : ((s.at_ t).takeLead n ((s.at_ t).lane n).leader).nextDeputy n with
  | none => rw [State.fillDeputy_of_none hd]; rfl
  | some m => rw [State.fillDeputy_of_some hd]; rfl

/-- A lane at a step of its rejoin and within its time goes on. -/
theorem State.rejoins_on {s : State} {n : Lane} {i : Nat} (hstate : (s.lane n).state = .rejoining) (hstep : (s.lane n).rejoin.step = i)
    (hlate : s.rejoinLate n = false) :
    ¬((s.lane n).state ≠ .rejoining ∨ (s.lane n).rejoin.step ≠ i ∨ s.rejoinLate n = true) := by
  simp [hstate, hstep, hlate]

/-- Settles O23: the branch of each event. -/
theorem leadershipAndRejoinEventsComplete : Obligations.LeadershipAndRejoinEventsComplete := by
  refine ⟨fun s t n => ⟨?handover, ?handoverDeputy, ?leaderReturn, ?deputy, ?shadow, ?held⟩,
    fun s t n => ⟨?records, ?snapshot, ?converged, ?rampEnd, ?late, ?retry⟩⟩
  case handover =>
    intro a u hvotes hstate hrole hloss hdue hnext hnone
    rw [execLeaderHandover_of_successor hvotes hstate hrole hloss hdue hnext, State.fillDeputy_of_none hnone]
  case handoverDeputy =>
    intro m a u hvotes hstate hrole hloss hdue hnext w hdeputy
    rw [execLeaderHandover_of_successor hvotes hstate hrole hloss hdue hnext, State.fillDeputy_of_some hdeputy]
  case leaderReturn =>
    intro k u hleader hvotes hne hable hunable hactive w
    simp only [u] at hleader
    simp only [exec, execLeaderReturn, hleader]
    exact if_pos ⟨hvotes, hne, hable, hunable, hactive⟩
  case deputy =>
    intro k u hleader hvotes hstate hnext
    simp only [u] at hleader
    simp only [exec, execDeputyAssign, hleader]
    exact if_pos ⟨hvotes, hstate, hnext⟩
  case shadow =>
    intro k q u hleader hsnap hrole hnew
    simp only [u] at hleader hsnap
    simp only [exec, execShadowSnapshotDone, hleader, Option.bind_some, hsnap]
    exact if_pos ⟨hrole, hnew⟩
  case held =>
    intro k h u hrole hlink seq hheld
    simp only [u, seq] at hrole hlink hheld
    simp only [exec, execDeputyShadowApply, hrole, hlink, hheld]
    rfl
  case records =>
    intro k u hleader hstate hstep hlate w v
    simp only [u] at hleader
    simp only [exec, execRejoinRecordsCopied, hleader]
    rw [if_neg (State.rejoins_on hstate hstep hlate)]
    exact (apply_ite Host.Outcome.next _ _ _).symm
  case snapshot =>
    intro k q u hleader hsnap hstate hstep hlate w
    simp only [u] at hleader hsnap
    simp only [exec, execRejoinSnapshotReceived, hleader, Option.bind_some, hsnap]
    rw [if_neg (State.rejoins_on hstate hstep hlate)]
    exact (apply_ite Host.Outcome.next _ _ _).symm
  case converged =>
    intro u hstate hstep hlate hnear
    have hall : (u.lane n).wanted.all (fun x => decide (16 ≤ ((u.lane n).set x).obs.near)) = true :=
      List.all_eq_true.mpr fun x hx => decide_eq_true (hnear x hx)
    have htaken : ¬((u.lane n).state ≠ .rejoining ∨ (u.lane n).rejoin.step ≠ 4 ∨ u.rejoinLate n = true ∨
        (u.lane n).wanted.all (fun x => decide (16 ≤ ((u.lane n).set x).obs.near)) = false) := by
      simp only [hstate, hstep, hlate, hall, ne_eq, not_true_eq_false, Bool.false_eq_true, Bool.true_eq_false, or_false, not_false_eq_true]
    exact if_neg htaken
  case rampEnd =>
    intro u hstate hstep hdue
    exact if_pos ⟨hstate, hstep, hdue⟩
  case late =>
    intro u hstate hlate
    exact if_pos ⟨hstate, hlate⟩
  case retry =>
    intro a u hretry hstate hstay hdue hvotes
    simp only [u] at hretry
    simp only [exec, execRejoinRetry, hretry]
    exact if_pos ⟨hstate, hstay, hdue, List.isEmpty_iff.mpr hvotes⟩

end Sys2Proof.Machine

/-! The invariant: every command keeps what the module keeps, so every step keeps every lane sound (R97, R338). -/

namespace Sys2Proof.Machine

theorem State.reset_lane_empty (n : Lane) :
    (State.reset.lane n).mem = [] ∧ (State.reset.lane n).log = [] ∧ (State.reset.lane n).net.replies = [] := by
  cases n <;> exact ⟨rfl, rfl, rfl⟩

/-- Settles O36: a lane after reset lists no memory, no log entry and no reply. -/
theorem resetIsSound : Obligations.ResetIsSound := by
  intro n
  obtain ⟨hmem, hlog, hreplies⟩ := State.reset_lane_empty n
  simp [LaneSt.Sound, hmem, hlog, hreplies, Memory.wf]

theorem Keep.inv {kc kw : Bool} {s t : State} (h : Keep kc kw s t) (hs : s.Inv) : t.Inv :=
  fun n => (h.lane n).sound (hs n)

theorem State.at_inv {s : State} (t : Nat) (hs : s.Inv) : (s.at_ t).Inv := by
  intro n
  rw [State.at_lane]
  exact hs n

theorem State.withPending_inv {s : State} (q : List Instr) (hs : s.Inv) : State.Inv { s with pending := q } := by
  intro n
  cases n
  case l1 => exact hs .l1
  case l2 => exact hs .l2
  case l3 => exact hs .l3

/-- Every command answers a next state that keeps what the module keeps: a Caldera may clear and memory may be written by the
commands that `Instr.mayClear` and `Instr.mayWrite` name alone. -/
theorem exec_keep (i : Instr) (s : State) : OutK i.mayClear i.mayWrite (s.at_ i.instant) (exec i s) := by
  cases i
  case modeRequestReady => exact execModeRequestReady_keep
  case modeRequestRun => exact execModeRequestRun_keep
  case modeRequestService => exact execModeRequestService_keep
  case modeRequestDormant => exact execModeRequestDormant_keep
  case modeStatus => exact execModeStatus_keep
  case enableTestStatus => exact execEnableTestStatus_keep
  case steerAngle => exact execSteerAngle_keep
  case steerTorque => exact execSteerTorque_keep
  case steerMoveAt => exact execSteerMoveAt_keep
  case steerHold => exact execSteerHold_keep
  case brakeForce => exact execBrakeForce_keep
  case brakePosition => exact execBrakePosition_keep
  case brakeRelease => exact execBrakeRelease_keep
  case brakeParkApply => exact execBrakeParkApply_keep
  case brakeParkRelease => exact execBrakeParkRelease_keep
  case profileLimits => exact execProfileLimits_keep
  case vectorMove => exact execVectorMove_keep
  case paramReadKey => exact execParamReadKey_keep
  case paramReadMemory => exact execParamReadMemory_keep
  case paramWrite => exact execParamWrite_keep
  case paramCommit => exact execParamCommit_keep
  case paramCommitDone => exact execParamCommitDone_keep
  case paramImageInfo => exact execParamImageInfo_keep
  case measureLoadStart => exact execMeasureLoadStart_keep
  case measureLoadRead => exact execMeasureLoadRead_keep
  case measureLoadComplete => exact execMeasureLoadComplete_keep
  case measureCableStart => exact execMeasureCableStart_keep
  case measureCableRead => exact execMeasureCableRead_keep
  case measureCableComplete => exact execMeasureCableComplete_keep
  case measureSupply => exact execMeasureSupply_keep
  case capsExchange => exact execCapsExchange_keep
  case selftestRun => exact execSelftestRun_keep
  case selftestComplete => exact execSelftestComplete_keep
  case selftestResult => exact execSelftestResult_keep
  case healthRead => exact execHealthRead_keep
  case attestChallenge => exact execAttestChallenge_keep
  case sessionOpen => exact execSessionOpen_keep
  case sessionClose => exact execSessionClose_keep
  case keyProvision => exact execKeyProvision_keep
  case fwBegin => exact execFwBegin_keep
  case fwChunk => exact execFwChunk_keep rfl
  case fwVerifyStart => exact execFwVerifyStart_keep
  case fwVerifyRead => exact execFwVerifyRead_keep
  case fwActivate => exact execFwActivate_keep
  case timeStatus => exact execTimeStatus_keep
  case scheduleLoad => exact execScheduleLoad_keep rfl
  case logRead => exact execLogRead_keep
  case logClear => exact execLogClear_keep
  case homingStart => exact execHomingStart_keep
  case homingStartAbort => exact execHomingStartAbort_keep
  case homingStatus => exact execHomingStatus_keep
  case compareSet => exact execCompareSet_keep
  case arbitrate => exact execArbitrate_keep
  case quench => exact execQuench_keep
  case quenchTimeout => exact execQuenchTimeout_keep
  case calderaClear => exact execCalderaClear_keep rfl
  case commandFrame => exact execCommandFrame_keep
  case nullFrame => exact execNullFrame_keep
  case referenceFrame => exact execReferenceFrame_keep
  case capsFrame => exact execCapsFrame_keep
  case hostPortFrame => exact execHostPortFrame_keep
  case hostPortSegmentTimeout => exact execHostPortSegmentTimeout_keep
  case crossLaneFrameCommit => exact execCrossLaneFrameCommit_keep
  case linkLossOfSignal => exact execLinkLossOfSignal_keep
  case linkDown => exact execLinkDown_keep
  case linkUp => exact execLinkUp_keep
  case twinFrame => exact execTwinFrame_keep
  case twinLinkDown => exact execTwinLinkDown_keep
  case enableStateItem => exact execEnableStateItem_keep
  case inboundFrameItem => exact execInboundFrameItem_keep
  case outboundStatusItem => exact execOutboundStatusItem_keep
  case relayItemDrop => exact execRelayItemDrop_keep
  case almanacSegmentItem => exact execAlmanacSegmentItem_keep rfl
  case scheduleReportItem => exact execScheduleReportItem_keep
  case timeItem => exact execTimeItem_keep
  case sessionItem => exact execSessionItem_keep
  case supplyItem => exact execSupplyItem_keep
  case bootReportItem => exact execBootReportItem_keep
  case firmwareCopyItem => exact execFirmwareCopyItem_keep rfl
  case keyItem => exact execKeyItem_keep
  case sentFrame => exact execSentFrame_keep
  case sentSerialMessage => exact execSentSerialMessage_keep
  case sentTimeout => exact execSentTimeout_keep
  case applicationCycle => exact execApplicationCycle_keep
  case outerLoopStep => exact execOuterLoopStep_keep
  case pwmPeriod => exact execPwmPeriod_keep
  case currentLoopUpdate => exact execCurrentLoopUpdate_keep
  case auxConversion => exact execAuxConversion_keep
  case statusFrameSend => exact execStatusFrameSend_keep
  case capsFrameSend => exact execCapsFrameSend_keep
  case offsetCorrection => exact execOffsetCorrection_keep
  case rateCorrection => exact execRateCorrection_keep
  case shutterPhaseCheck => exact execShutterPhaseCheck_keep
  case syncHoldover => exact execSyncHoldover_keep
  case timeStep => exact execTimeStep_keep
  case channelIntegrated => exact execChannelIntegrated_keep
  case joinTimeout => exact execJoinTimeout_keep
  case peerSkew => exact execPeerSkew_keep
  case channelLost => exact execChannelLost_keep
  case almanacSwitch => exact execAlmanacSwitch_keep
  case sessionIdleTimeout => exact execSessionIdleTimeout_keep
  case sessionDropped => exact execSessionDropped_keep
  case piecewiseSnapshotExpiry => exact execPiecewiseSnapshotExpiry_keep
  case healthRecordLatch => exact execHealthRecordLatch_keep
  case memoryScrub => exact execMemoryScrub_keep
  case lifetimeCounterWrite => exact execLifetimeCounterWrite_keep
  case thermalCycleSample => exact execThermalCycleSample_keep
  case lockstepMismatch => exact execLockstepMismatch_keep
  case votedIsolated => exact execVotedIsolated_keep
  case calderaSet => exact execCalderaSet_keep
  case torqueShadow => exact execTorqueShadow_keep
  case profileReseed => exact execProfileReseed_keep
  case deputySelftestFail => exact execDeputySelftestFail_keep
  case profileShadow => exact execProfileShadow_keep
  case linkSilence => exact execLinkSilence_keep
  case epochClaim => exact execEpochClaim_keep
  case dispute => exact execDispute_keep
  case disputeTimeout => exact execDisputeTimeout_keep
  case leaderHandover => exact execLeaderHandover_keep
  case leaderReturn => exact execLeaderReturn_keep
  case deputyAssign => exact execDeputyAssign_keep
  case deputyShadowApply => exact execDeputyShadowApply_keep
  case shadowSnapshotDone => exact execShadowSnapshotDone_keep
  case rejoinRecordsCopied => exact execRejoinRecordsCopied_keep
  case rejoinSnapshotReceived => exact execRejoinSnapshotReceived_keep
  case rejoinConverged => exact execRejoinConverged_keep
  case rejoinRampEnd => exact execRejoinRampEnd_keep
  case rejoinFail => exact execRejoinFail_keep
  case rejoinRetry => exact execRejoinRetry_keep
  case cmdHold => exact execCmdHold_keep
  case lossOfCommand => exact execLossOfCommand_keep
  case legInterlock => exact execLegInterlock_keep
  case legDidt => exact execLegDidt_keep
  case setOvercurrent => exact execSetOvercurrent_keep
  case bootstrapRefresh => exact execBootstrapRefresh_keep
  case bootUv => exact execBootUv_keep
  case gateServoSaturation => exact execGateServoSaturation_keep
  case offStateDiagnostics => exact execOffStateDiagnostics_keep
  case firmwareGeyser => exact execFirmwareGeyser_keep
  case hardwareGeyser => exact execHardwareGeyser_keep
  case geyserCurrentCheck => exact execGeyserCurrentCheck_keep
  case geyserNotBlocking => exact execGeyserNotBlocking_keep
  case geyserHot => exact execGeyserHot_keep
  case geyserHotRelease => exact execGeyserHotRelease_keep
  case activeShort => exact execActiveShort_keep
  case activeShortEnd => exact execActiveShortEnd_keep
  case inputDisconnectOpen => exact execInputDisconnectOpen_keep
  case inputDisconnectClose => exact execInputDisconnectClose_keep
  case windowLimited => exact execWindowLimited_keep
  case windowLimitedClear => exact execWindowLimitedClear_keep
  case senseMismatch => exact execSenseMismatch_keep
  case carrierUnlock => exact execCarrierUnlock_keep
  case i2tLimit => exact execI2tLimit_keep
  case i2tRecover => exact execI2tRecover_keep
  case setsStartSwitching => exact execSetsStartSwitching_keep
  case runEntryComplete => exact execRunEntryComplete_keep
  case steerHoldStart => exact execSteerHoldStart_keep
  case brakeHoldStart => exact execBrakeHoldStart_keep
  case brakeHoldDwell => exact execBrakeHoldDwell_keep
  case catchSpinEnd => exact execCatchSpinEnd_keep
  case angleAcquisitionEnd => exact execAngleAcquisitionEnd_keep
  case polarityDetection => exact execPolarityDetection_keep
  case polarityCompare => exact execPolarityCompare_keep
  case consensusLost => exact execConsensusLost_keep
  case angleSuspect => exact execAngleSuspect_keep
  case angleOutlier => exact execAngleOutlier_keep
  case obsInjFault => exact execObsInjFault_keep
  case obsPsiMismatch => exact execObsPsiMismatch_keep
  case svccFault => exact execSvccFault_keep
  case svccRecover => exact execSvccRecover_keep
  case svccRetry => exact execSvccRetry_keep
  case quadInvalid => exact execQuadInvalid_keep
  case quadOverrate => exact execQuadOverrate_keep
  case quadRecover => exact execQuadRecover_keep
  case switchChange => exact execSwitchChange_keep
  case chatter => exact execChatter_keep
  case chatterEnd => exact execChatterEnd_keep
  case stuck => exact execStuck_keep
  case compareFire => exact execCompareFire_keep
  case homingEndDetected => exact execHomingEndDetected_keep
  case homingSwitchUnexpected => exact execHomingSwitchUnexpected_keep
  case brakeRetractDone => exact execBrakeRetractDone_keep
  case brakeKissPoint => exact execBrakeKissPoint_keep
  case brakeStiffnessPoint => exact execBrakeStiffnessPoint_keep
  case homingDone => exact execHomingDone_keep
  case homingTimeout => exact execHomingTimeout_keep
  case wake => exact execWake_keep
  case enaFilterChange => exact execEnaFilterChange_keep
  case enaTestTimeout => exact execEnaTestTimeout_keep
  case enaWithdrawn => exact execEnaWithdrawn_keep
  case stopToReady => exact execStopToReady_keep
  case enaSleepDelay => exact execEnaSleepDelay_keep
  case dormantEntry => exact execDormantEntry_keep
  case serviceTimeout => exact execServiceTimeout_keep
  case bootWaitTimeout => exact execBootWaitTimeout_keep
  case bootToDormant => exact execBootToDormant_keep
  case voteLineTest => exact execVoteLineTest_keep
  case fwTrialTimeout => exact execFwTrialTimeout_keep
  case rollbackRaised => exact execRollbackRaised_keep
  case supplyShed => exact execSupplyShed_keep
  case supplyQuench => exact execSupplyQuench_keep
  case supplyRestart => exact execSupplyRestart_keep rfl
  case supplyOvOpen => exact execSupplyOvOpen_keep
  case supplyOvClose => exact execSupplyOvClose_keep
  case disconnectBlock => exact execDisconnectBlock_keep
  case prechargeComplete => exact execPrechargeComplete_keep
  case prechargeRetry => exact execPrechargeRetry_keep
  case resetAssert src =>
    refine execResetAssert_keep fun hkeeps => ⟨?_, ?_⟩
    · rintro a b rfl
      cases hkeeps
    · rintro rfl
      cases hkeeps
  case externalReset => exact execExternalReset_keep
  case rstHandshakeSample => exact execRstHandshakeSample_keep
  case resetRelease => exact execResetRelease_keep
  case clockQualified => exact execClockQualified_keep
  case clockQualFail => exact execClockQualFail_keep
  case clockQualRetry => exact execClockQualRetry_keep
  case clockLoss => exact execClockLoss_keep
  case watchdog => exact execWatchdog_keep
  case watchdogReset => exact execWatchdogReset_keep
  case voteWithdrawn => exact execVoteWithdrawn_keep
  case quadEdge => exact execQuadEdge_keep
  case fwVerifyComplete => exact execFwVerifyComplete_keep
  case attestReportDone => exact execAttestReportDone_keep
  case bleederOff => exact execBleederOff_keep
  case disconnectConductForward => exact execDisconnectConductForward_keep
  case busOffRecovery => exact execBusOffRecovery_keep
  case dominantTimeout => exact execDominantTimeout_keep

/-- Whatever the command, its next state is sound where the present one is. -/
theorem exec_inv {s : State} (i : Instr) (hs : s.Inv) : ∃ t, exec i s = .next t ∧ t.Inv := by
  obtain ⟨t, hnext, hkeep⟩ := exec_keep i s
  exact ⟨t, hnext, hkeep.inv (State.at_inv i.instant hs)⟩

/-- Settles O37: an idle step changes nothing, and the front command keeps what the module keeps. -/
theorem everyStepKeepsTheInvariant : Obligations.EveryStepKeepsTheInvariant := by
  intro s hs
  unfold step
  split
  case h_1 => exact ⟨s, rfl, hs⟩
  case h_2 c rest _ => exact exec_inv c (State.withPending_inv rest hs)

end Sys2Proof.Machine

/-! The shares of an axis (R169, R170). -/

namespace Sys2Proof.Machine

/-- A share is the term over the sum of the terms, also where that sum is zero. -/
theorem State.shareOf_eq_div (s : State) (n m : Lane) (x : Axis) :
    s.shareOf n m x = s.term n m x / (allLanes.map (fun k => s.term n k x)).sum := by
  unfold State.shareOf
  dsimp only
  split
  case isTrue hzero => rw [hzero, div_zero]
  case isFalse => rfl

/-- A set that does not enter the sums, or is not available, has no term (R169). -/
theorem State.term_eq_zero {s : State} {n m : Lane} {x : Axis} (h : s.carries n m x = false ∨ s.availability n m x = 0) :
    s.term n m x = 0 := by
  unfold State.term
  rcases h with hout | hnone
  · rw [hout]
    exact if_neg Bool.false_ne_true
  · rw [hnone, mul_zero, ite_self]

/-- Settles O58: the quotients by the sum add up to the sum over itself, and a term of zero gives a share of zero. -/
theorem sharesSumToOne : Obligations.SharesSumToOne := by
  intro s n x
  simp only [State.shareOf_eq_div]
  refine ⟨fun hsum => ?_, fun m hm => ?_⟩
  · simp only [div_eq_mul_inv, List.sum_map_mul_right]
    exact mul_inv_cancel₀ hsum
  · rw [State.term_eq_zero hm, zero_div]

end Sys2Proof.Machine

/-! Integration of the channels and the Almanac (R83, R293, R295, R297, R312, R318 to R320). -/

namespace Sys2Proof.Machine

/-- A channel in Listen or Passive that has agreed for its L cycles integrates where the module knows it, and joins elsewhere
(R318, R319). -/
theorem execChannelIntegrated_of_due {s : State} {t : Nat} {n : Lane} {c : Chan} (hruns : ((s.at_ t).lane n).netRuns = true)
    (hstate : (((s.at_ t).lane n).net.chan c).state = 1 ∨ (((s.at_ t).lane n).net.chan c).state = 4)
    (hagree : (if (((s.at_ t).lane n).net.chan c).state = 1 ∧ ((s.at_ t).lane n).recordMatches n = true
      then ((s.at_ t).lane n).codeN Key.netFastListen else 64) ≤ (((s.at_ t).lane n).net.chan c).agree)
    (hnear : absQ ((s.at_ t).lane n).time.lastC ≤ 500) (halm : (s.at_ t).almanacAgrees n = true) :
    exec (.channelIntegrated t n c) s =
      if (((((s.at_ t).lane n).net.chan c).state == 4 && ((s.at_ t).lane n).net.admitted) ||
          ((((s.at_ t).lane n).net.chan c).state == 1 && ((s.at_ t).lane n).recordMatches n)) = true then
        .next ((if (((s.at_ t).lane n).net.chan c).state = 1
          then (s.at_ t).onChan n c (fun k => { k with capsDue := true, capsSent := false }) else s.at_ t).integrate n c)
      else .next ((s.at_ t).onChan n c (fun k =>
        { k with state := 2, agree := 0, joinAt := (s.at_ t).now, joinLate := false, capsSent := false })) :=
  if_pos ⟨hruns, hstate, hagree, hnear, halm⟩

/-- A segment that starts a package or continues what has come is not ignored (R295). -/
theorem segment_taken {runs : Bool} {off len : Nat} (hruns : runs = true) (hturn : off = 0 ∨ off = len) :
    ¬(runs = false ∨ (off ≠ 0 ∧ off ≠ len)) := by
  rintro (hstops | ⟨hstart, hgap⟩)
  · simp [hruns] at hstops
  · exact hturn.elim hstart hgap

theorem State.onLink_role (s : State) (src dst : Lane) (f : LinkIn → LinkIn) :
    ((s.onLink src dst f).lane dst).role = (s.lane dst).role := by
  rw [State.onLink_lane]
  unfold LaneSt.onLink
  split <;> rfl

/-- Settles O27: the branch of each event. -/
theorem channelEventsComplete : Obligations.ChannelEventsComplete := by
  intro s t n c
  refine ⟨?record, ?joining, ?admitted, ?late, ?lost, ?switch, ?segment, ?package, ?rejected, ?report, ?supplied⟩
  case record =>
    intro u hruns hstate hmatch hagree hnear halm
    rw [execChannelIntegrated_of_due hruns (.inl hstate) (by rwa [if_pos ⟨hstate, hmatch⟩]) hnear halm, if_pos hstate, hstate, hmatch]
    rfl
  case joining =>
    intro u hruns hstate hmatch hagree hnear halm
    have hother : ¬(((u.lane n).net.chan c).state = 1 ∧ (u.lane n).recordMatches n = true) := by simp [hmatch]
    rw [execChannelIntegrated_of_due hruns (.inl hstate) (by rwa [if_neg hother]) hnear halm, hstate, hmatch]
    rfl
  case admitted =>
    intro u hruns hstate hadm hagree hnear halm
    have hother : ((u.lane n).net.chan c).state ≠ 1 := by simp [hstate]
    rw [execChannelIntegrated_of_due hruns (.inr hstate) (by rwa [if_neg (not_and_of_not_left _ hother)]) hnear halm,
      if_neg hother, hstate, hadm]
    rfl
  case late =>
    intro u hruns hstate hlate hdue
    exact if_pos ⟨hruns, hstate, hlate, hdue⟩
  case lost =>
    intro u hruns henabled hstate hlog haway
    exact if_pos ⟨hruns, henabled, hstate, hlog, haway⟩
  case switch =>
    intro p u hpend hruns hsync hpos hdue hafter w v
    simp only [u] at hpend
    simp only [exec, execAlmanacSwitch, hpend]
    exact if_pos ⟨hruns, hsync, hpos, hdue, hafter⟩
  case segment =>
    intro src dst g u hne hreset b hnext v hruns hturn got hshort
    refine congrArg Host.Outcome.next ((State.onItem_of_next _ hne hreset hnext).trans ((if_neg (segment_taken hruns hturn)).trans ?_))
    exact if_pos hshort
  case package =>
    intro src dst g u hne hreset b hnext v hruns hturn got hlong hwhole pkg horders w running hcheck
    have hcomplete := not_or.mpr ⟨Nat.not_lt.mpr hlong, Nat.not_lt.mpr hwhole⟩
    refine congrArg Host.Outcome.next ((State.onItem_of_next _ hne hreset hnext).trans
      ((if_neg (segment_taken hruns hturn)).trans ((if_neg hcomplete).trans ?_)))
    simp only [running, w, pkg, got, v] at horders hcheck
    dsimp only
    rw [horders]
    dsimp only
    rw [hcheck]
  case rejected =>
    intro src dst g order o u hne hreset b hnext v hruns hturn got hlong hwhole pkg horders
    have hcomplete := not_or.mpr ⟨Nat.not_lt.mpr hlong, Nat.not_lt.mpr hwhole⟩
    refine congrArg Host.Outcome.next ((State.onItem_of_next _ hne hreset hnext).trans
      ((if_neg (segment_taken hruns hturn)).trans ((if_neg hcomplete).trans ?_)))
    simp only [pkg, got, v] at horders
    dsimp only
    rw [horders]
  case report =>
    intro src dst act pend at_ u hne hreset b hnext v w hrole
    refine congrArg Host.Outcome.next ((State.onItem_of_next _ hne hreset hnext).trans ?_)
    have hmember : (w.lane dst).role ≠ .leader := by rwa [State.onLink_role]
    exact if_pos (.inl hmember)
  case supplied =>
    intro src dst act pend at_ pkg u hne hreset b hnext v w hrole hidle hmissing
    refine congrArg Host.Outcome.next ((State.onItem_of_next _ hne hreset hnext).trans ?_)
    have hleads : (w.lane dst).role = .leader := by rwa [State.onLink_role]
    have hsends : ¬((w.lane dst).role ≠ .leader ∨ (w.link src dst).txq.any (fun i => itemType i == 0x12) = true) := by
      simp only [hleads, hidle, ne_eq, not_true_eq_false, Bool.false_eq_true, or_self, not_false_eq_true]
    refine (if_neg hsends).trans ?_
    simp only [w, v] at hmissing
    rw [hmissing]

end Sys2Proof.Machine

/-! The Geyser, the active short and the input disconnect (R126, R128 to R133, R406). -/

namespace Sys2Proof.Machine

@[simp] theorem State.onGey_lane (s : State) (n : Lane) (f : Gey → Gey) :
    (s.onGey n f).lane n = { s.lane n with gey := f (s.lane n).gey } :=
  State.onLane_lane ..

theorem State.onSup_onSup (s : State) (n : Lane) (f g : SupplySt → SupplySt) :
    (s.onSup n f).onSup n g = s.onSup n (fun p => g (f p)) :=
  State.onLane_onLane ..

/-- Settles O13: the branch of each event. -/
theorem geyserAndLinkVoltageEventsComplete : Obligations.GeyserAndLinkVoltageEventsComplete := by
  refine ⟨fun s t n => ⟨?firmwareOn, ?firmwareOff, ?hardwareOn, ?hardwareOff, ?lowCurrent, ?notBlocking, ?hot, ?cooled⟩,
    fun s t n => ⟨?short, ?shortEnd, ?disconnectOpen, ?disconnectClose⟩⟩
  case firmwareOn =>
    intro mv u hreset hboot hvotes hdisc hoff hhigh
    have hon : (!(u.lane n).rst.inReset && (u.lane n).rst.bootFailed.isNone && u.m.mode.votes && (u.lane n).sup.disc != 2 &&
        !(u.lane n).gey.fw && decide (58500 ≤ mv)) = true := by
      simp only [hreset, hboot, hvotes, bne_iff_ne.mpr hdisc, hoff, decide_eq_true hhigh, Option.isNone_none,
        Bool.not_false, Bool.and_self]
    exact if_pos hon
  case firmwareOff =>
    intro mv u hasks hlow hlong
    have hstays : ∀ can : Bool, ¬((can && !(u.lane n).gey.fw && decide (58500 ≤ mv)) = true) := by simp [hasks]
    have hends : ((u.lane n).gey.fw && decide (mv ≤ 57500) && decide ((u.lane n).gey.onAt + us 5 ≤ t)) = true := by
      simp [hasks, hlow, hlong]
    exact (if_neg (hstays _)).trans (if_pos hends)
  case hardwareOn =>
    intro mv u hoff hhigh
    have hon : (!(u.lane n).gey.hw && decide (62000 ≤ mv)) = true := by simp [hoff, hhigh]
    exact if_pos hon
  case hardwareOff =>
    intro mv u hasks hlow
    have hstays : ¬((!(u.lane n).gey.hw && decide (62000 ≤ mv)) = true) := by simp [hasks]
    have hends : ((u.lane n).gey.hw && decide (mv ≤ 61000)) = true := by simp [hasks, hlow]
    exact (if_neg hstays).trans (if_pos hends)
  case lowCurrent =>
    intro mv i u hreset hon hfew
    have hfails : ((u.lane n).gey.on && decide (4 * (i : Rat) * (u.lane n).val Key.geyserRNominal < mv)) = true :=
      Bool.and_eq_true_iff.mpr ⟨hon, decide_eq_true hfew⟩
    exact (if_pos hfails).trans (congrArg Host.Outcome.next (if_neg (Bool.eq_false_iff.mp hreset)))
  case notBlocking =>
    intro i held u hfw hhw hflows hlong hreset
    have hfails : (!(u.lane n).gey.fw && !(u.lane n).gey.hw && decide (1000 < i) && decide (us 10 ≤ held) &&
        !(u.lane n).rst.inReset) = true := by
      simp [hfw, hhw, hflows, hlong, hreset]
    exact if_pos hfails
  case hot =>
    intro temp u hreset habove hcool
    have hlogs : ¬(((u.onGey n (fun g => { g with hot := true })).lane n).rst.inReset = true) := by
      simp [hreset]
    exact (if_pos ⟨habove, hcool⟩).trans (congrArg Host.Outcome.next (if_neg hlogs))
  case cooled => exact fun temp hbelow => if_pos hbelow
  case short =>
    intro mv u hhigh hbad hvotes hstate
    have hdue : (decide (62000 ≤ mv) && ((u.lane n).geyserBad || (u.lane n).gey.fault) && u.m.mode.votes &&
        ((u.lane n).state == .active || (u.lane n).state == .rejoining)) = true := by
      simp [hhigh, hbad, hvotes, hstate]
    exact if_pos hdue
  case shortEnd =>
    intro x mv u hshort hlong hlow hemf
    have hends : (((u.lane n).set x).short && decide (((u.lane n).set x).shortAt + ms 10 ≤ t) && decide (mv < 58500) &&
        decide (u.emfPeak n x < (mv : Rat) * 9 / 10)) = true := by
      simp [hshort, hlong, hlow, hemf]
    exact if_pos hends
  case disconnectOpen =>
    intro mv u hhigh hcloses
    have hlane : ((u.onSup n (fun p => { p with link := mv })).lane n).sup = { (u.lane n).sup with link := mv } := by
      rw [State.onSup_lane]
    refine (if_pos ⟨hhigh, ?_⟩).trans (congrArg Host.Outcome.next (State.onSup_onSup ..))
    exact (congrArg (fun p : SupplySt => p.disc ≠ 0 ∨ p.ovOpen = true) hlane).mpr hcloses
  case disconnectClose =>
    intro vsup mv held u hopen hsupply hlink hlong
    have hwas : ((u.onSup n (fun p => { p with vsup := vsup, link := mv })).lane n).sup.linkOpen = true := by
      rwa [State.onSup_lane]
    exact (if_pos ⟨hwas, hsupply, hlink, hlong⟩).trans (congrArg Host.Outcome.next (State.onSup_onSup ..))

end Sys2Proof.Machine

/-! Leg and set protection, the bootstrap supplies, the slope servo and the off-state test (R107, R111 to R122). -/

namespace Sys2Proof.Machine

theorem SetSt.onLeg_congr {c : SetSt} {p : Phase} {f g : LegSt → LegSt} (h : f (c.leg p) = g (c.leg p)) : c.onLeg p f = c.onLeg p g := by
  cases p <;> simp only [SetSt.onLeg, SetSt.leg] at h ⊢ <;> rw [h]

theorem LaneSt.onSet_congr {l : LaneSt} {x : Axis} {f g : SetSt → SetSt} (h : f (l.set x) = g (l.set x)) : l.onSet x f = l.onSet x g := by
  cases x <;> simp only [LaneSt.onSet, LaneSt.set] at h ⊢ <;> rw [h]

/-- A change of a leg is what it makes of that leg. -/
theorem State.onSet_onLeg_congr {s : State} {n : Lane} {x : Axis} {p : Phase} {f g : LegSt → LegSt}
    (h : f (((s.lane n).set x).leg p) = g (((s.lane n).set x).leg p)) : s.onSet n x (·.onLeg p f) = s.onSet n x (·.onLeg p g) :=
  State.onLane_congr (LaneSt.onSet_congr (SetSt.onLeg_congr h))

/-- From 70 ns after the edge on, 30 ns of an overcurrent lie outside the blanking of 40 ns (R119). -/
theorem thirty_le_unblanked {held since : Nat} (hheld : 30 ≤ held) (hsince : 70 ≤ since) : 30 ≤ unblanked held since := by
  unfold unblanked
  omega

/-- Settles O14: the branch of each event. -/
theorem legEventsComplete : Obligations.LegEventsComplete := by
  intro s t n
  refine ⟨?interlock, ?didt, ?overcurrent, ?refresh, ?refreshed, ?undervoltage, ?saturation, ?rejoin, ?slot⟩
  case interlock => exact fun x p hreset => if_neg (Bool.eq_false_iff.mp hreset)
  case didt =>
    intro x p didt since held u hdriven hsteep hlong
    exact if_pos (by
      simp only [Bool.and_eq_true, decide_eq_true_eq]
      exact ⟨⟨hdriven, hsteep⟩, hlong⟩)
  case overcurrent =>
    intro x i held since u hreset hheld hsince hover
    exact if_pos (by
      simp only [Bool.and_eq_true, decide_eq_true_eq, Bool.not_eq_true']
      exact ⟨⟨hreset, thirty_le_unblanked hheld hsince⟩, hover⟩)
  case refresh => exact fun x p mv hlow => if_pos hlow
  case refreshed => exact fun x p mv hhigh => (if_neg (by omega)).trans (if_pos hhigh)
  case undervoltage =>
    intro x p mv u hdriven huv hwhole hlasts hlow
    exact if_pos (by
      simp only [Bool.and_eq_true, decide_eq_true_eq, Bool.not_eq_true']
      exact ⟨⟨⟨⟨hdriven, huv⟩, hwhole⟩, hlasts⟩, hlow⟩)
  case saturation =>
    intro x p k u hone
    refine congrArg Host.Outcome.next (State.onSet_onLeg_congr ?_)
    dsimp only
    rw [hone]
    rfl
  case rejoin =>
    intro m u hrun hstate hstep
    have hentry : (u.m.runEntry == 1 && u.nextSlot == some n) = false := by
      rw [beq_eq_false_iff_ne.mpr hrun, Bool.false_and]
    have hrejoin : ((u.lane n).state == .rejoining && (u.lane n).rejoin.step == 3) = true := by simp [hstate, hstep]
    simp only [u] at hentry hrejoin
    simp only [exec, execOffStateDiagnostics, hentry, hrejoin]
    rfl
  case slot =>
    intro m u hrun hslot w hmore
    have hentry : (u.m.runEntry == 1 && u.nextSlot == some n) = true := by simp [hrun, hslot]
    have hlast := Option.isNone_eq_false_iff.mpr hmore
    simp only [u, w] at hentry hlast
    simp only [exec, execOffStateDiagnostics, hentry, Bool.true_or, Bool.true_and, if_true, hlast]
    rfl

end Sys2Proof.Machine

/-! The start of the sets, the holds, the catch-spin and the observer's angle (R125, R179 to R181, R197 to R208). -/

namespace Sys2Proof.Machine

theorem Mode.holds_of_runs {m : Mode} (h : m = .run ∨ m = .limp) : Mode.holds m = true := by
  rcases h with rfl | rfl <;> rfl

theorem LaneSt.not_catchWaits_or {l : LaneSt} {ms mb : CatchSample} (hs : l.catchWaits ms = false) (hb : l.catchWaits mb = false) :
    ¬((l.catchWaits ms || l.catchWaits mb) = true) := by
  rw [hs, hb]
  exact Bool.false_ne_true

/-- The catch-spin of a rejoin ends the step where both sets are caught, and the attempt where one is not (R125). -/
theorem execCatchSpinEnd_of_rejoin {s : State} {t : Nat} {n : Lane} {m : CatchPair} (hdue : (s.at_ t).catchDue n = some 1)
    (hs : ((s.at_ t).lane n).catchWaits m.s = false) (hb : ((s.at_ t).lane n).catchWaits m.b = false) :
    exec (.catchSpinEnd t n m) s =
      if (((s.at_ t).catchSet n .s m.s).2 || (((s.at_ t).catchSet n .s m.s).1.catchSet n .b m.b).2) = true then
        .next ((((s.at_ t).catchSet n .s m.s).1.catchSet n .b m.b).1.failRejoin n 0x0704 3)
      else .next ((((s.at_ t).catchSet n .s m.s).1.catchSet n .b m.b).1.endCatchStep n) := by
  simp only [exec, execCatchSpinEnd, hdue]
  rw [if_neg (LaneSt.not_catchWaits_or hs hb)]
  rfl

/-- Settles O33: the branch of each event. -/
theorem energisingAndObserverEventsComplete : Obligations.EnergisingAndObserverEventsComplete := by
  intro s t n
  refine ⟨?start, ?enter, ?homing, ?steerHold, ?brakeHold, ?dwell, ?caught, ?missed, ?spun, ?acquired, ?pulses, ?compared, ?lost,
    ?suspect, ?outlier, ?injection, ?flux⟩
  case start => exact fun hrun hlater => if_pos ⟨hrun, hlater⟩
  case enter =>
    intro u hrun hhoming hmode hload w
    have hstays : ¬(w.m.mode ≠ .ready ∨ w.meas.loadOn = true) := by
      rintro (hother | hloads)
      · exact hother hmode
      · exact Bool.false_ne_true (hload.symm.trans hloads)
    have hplain : ¬(w.hom.inReady = true) := Bool.eq_false_iff.mp hhoming
    refine (if_neg (not_not.mpr hrun)).trans ((if_neg hplain).trans ((if_neg hstays).trans ?_))
    exact (apply_ite Host.Outcome.next _ _ _).symm
  case homing => exact fun hrun hhoming => (if_neg (not_not.mpr hrun)).trans (if_pos hhoming)
  case steerHold =>
    intro u hmode hoff hdue
    have hstarts : (Mode.holds u.m.mode && !u.hold.sOn && u.holdDue u.hold.sSince) = true := by
      simp only [Mode.holds_of_runs hmode, hoff, hdue, Bool.not_false, Bool.and_self]
    exact if_pos hstarts
  case brakeHold =>
    intro u hmode hfree hdue
    have hstarts : (Mode.holds u.m.mode && (!u.hold.bOn || u.hold.bAgain) && u.holdDue u.hold.bSince) = true := by
      simpa only [Mode.holds_of_runs hmode, hdue, Bool.true_and, Bool.and_true, Bool.or_eq_true, Bool.not_eq_true'] using hfree
    exact if_pos hstarts
  case dwell =>
    intro u hon hsearch hlong
    have hlowers : (u.hold.bOn && !u.hold.bDone && decide (u.hold.bAt + ms ((u.lane u.scribe).codeN Key.holdBDwell) ≤ t)) = true := by
      simp only [hon, hsearch, decide_eq_true hlong, Bool.not_false, Bool.and_self]
    exact if_pos hlowers
  case caught =>
    intro m u hdue hs hb a b hcaughtS hcaughtB
    rw [execCatchSpinEnd_of_rejoin hdue hs hb]
    exact if_neg (Bool.eq_false_iff.mp (Bool.or_eq_false_iff.mpr ⟨hcaughtS, hcaughtB⟩))
  case missed =>
    intro m u hdue hs hb a b hmissed
    rw [execCatchSpinEnd_of_rejoin hdue hs hb]
    exact if_pos (Bool.or_eq_true_iff.mpr hmissed)
  case spun =>
    intro m k u hdue hk hs hb a b hcaughtS hcaughtB w
    simp only [u, a, b] at hdue hcaughtS hcaughtB
    simp only [exec, execCatchSpinEnd, hdue]
    rw [if_neg (LaneSt.not_catchWaits_or hs hb), if_neg hk]
    simp only [hcaughtS, hcaughtB]
    rfl
  case acquired => exact fun x hacq hopen hrun hlong => if_pos ⟨hacq, hopen, hrun, hlong⟩
  case pulses => exact fun ms mb hended hturn => if_pos ⟨hended, hturn⟩
  case compared =>
    intro x a b c u hended hopen hdecided hthree
    have hdue : ¬(u.m.acqEnd.contains x = false ∨ u.m.polDone.contains x = true ∨
        (u.acquirers x).any (fun n => decide (((u.lane n).set x).obs.stage = 1)) = true) := by
      rintro (hrunning | hdone | hpending)
      · exact Bool.false_ne_true (hrunning.symm.trans hended)
      · exact Bool.false_ne_true (hopen.symm.trans hdone)
      · exact Bool.false_ne_true (hdecided.symm.trans hpending)
    refine (if_neg hdue).trans ?_
    simp only [u] at hthree
    rw [hthree]
    rfl
  case lost => exact fun x hmode hnew hcount hlong hidle => if_pos ⟨hmode, hnew, hcount, hlong, hidle⟩
  case suspect =>
    intro x k u hdeviates hstate hnew
    simp only [u] at hdeviates
    simp only [exec, execAngleSuspect, hdeviates]
    rw [if_pos ⟨hstate, hnew⟩]
    rfl
  case outlier => exact fun x => rfl
  case injection => exact fun x hswitching hlasts hnew => if_pos ⟨hswitching, hlasts, hnew⟩
  case flux => exact fun x hlasts hnew => if_pos ⟨hlasts, hnew⟩

end Sys2Proof.Machine

/-! The PWM period, the current loop, the auxiliary conversions, the 8 kHz step and the limits of sensing and heat (R149 to R152,
R156, R168, R176, R190, R243). -/

namespace Sys2Proof.Machine

/-- A lane that evaluates its setpoints stays in its state: its profiles alone change (R243). -/
@[simp] theorem State.stepSetpoints_state (s : State) (n : Lane) : ((s.stepSetpoints n).lane n).state = (s.lane n).state := by
  unfold State.stepSetpoints
  dsimp only
  split
  case isTrue evaluates => split <;> simp only [State.onProf_lane]
  case isFalse follows =>
    split
    case h_1 => split <;> simp only [State.onProf_lane]
    case h_2 => rfl

/-- The observer's steer angle goes on without a change of the lane's state (R91). -/
@[simp] theorem State.integrateAngle_state (s : State) (n : Lane) : ((s.integrateAngle n).lane n).state = (s.lane n).state := by
  unfold State.integrateAngle
  rw [State.onLane_lane]

/-- The half that counts down is a sampling half, and in double update either half is (R139). -/
theorem currentLoop_runs {l : LaneSt} {m : CurrentSample} (hreset : l.rst.inReset = false) (hhalf : m.down = true ∨ l.double = true) :
    ¬(l.rst.inReset = true ∨ (m.down = false ∧ l.double = false)) := by
  rcases hhalf with h | h <;> simp [hreset, h]

/-- Settles O32: the branch of each event. -/
theorem periodAndStepEventsComplete : Obligations.PeriodAndStepEventsComplete := by
  intro s t n
  refine ⟨?period, ?failedBoot, ?engine, ?floating, ?aux, ?step, ?limited, ?clear, ?mismatch, ?carrier, ?limit, ?recover⟩
  case period =>
    intro m u hreset hstate len w y x v
    have hruns : ¬((u.lane n).rst.inReset = true ∨ ((u.lane n).state = .off ∧ (u.lane n).rst.bootFailed = none)) :=
      not_or.mpr ⟨Bool.eq_false_iff.mp hreset, fun hoff => hstate hoff.1⟩
    refine (if_neg hruns).trans (congrArg (fun z : State => Host.Outcome.next ((z.sendReports n).sendFrames n)) ?_)
    exact if_neg hstate
  case failedBoot =>
    intro m u hreset hoff hfailed len
    have hruns : ¬((u.lane n).rst.inReset = true ∨ ((u.lane n).state = .off ∧ (u.lane n).rst.bootFailed = none)) :=
      not_or.mpr ⟨Bool.eq_false_iff.mp hreset, fun hwaits => hfailed hwaits.2⟩
    refine (if_neg hruns).trans (congrArg (fun z : State => Host.Outcome.next ((z.sendReports n).sendFrames n)) ?_)
    exact if_pos hoff
  case engine =>
    intro x m u hreset hhalf hopen hswitching
    exact (if_neg (currentLoop_runs hreset hhalf)).trans ((if_neg (Bool.eq_false_iff.mp hopen)).trans (if_pos hswitching))
  case floating =>
    intro x m u hreset hhalf hopen hfloats
    exact (if_neg (currentLoop_runs hreset hhalf)).trans
      ((if_neg (Bool.eq_false_iff.mp hopen)).trans (if_neg (Bool.eq_false_iff.mp hfloats)))
  case aux => exact fun m hreset => if_neg (Bool.eq_false_iff.mp hreset)
  case step =>
    intro u hreset hoff hstarting e w v a r y
    have hruns : ¬((u.lane n).rst.inReset = true ∨ (u.lane n).state = .off) := not_or.mpr ⟨Bool.eq_false_iff.mp hreset, hoff⟩
    -- The step asks whether the lane is Active of its state at the instant, the statement of the one after the setpoints.
    have hstate : (v.lane n).state = (u.lane n).state := by
      simp only [v, w, e, State.integrateAngle_state, State.stepSetpoints_state, State.onProf_lane, State.onLane_lane]
    refine (if_neg hruns).trans ((if_neg hstarting).trans ?_)
    rw [← hstate]
    exact (apply_ite Host.Outcome.next _ _ _).symm
  case limited => exact fun x hnew hmissed => if_pos ⟨hnew, hmissed⟩
  case clear => exact fun x hlimited hclean => if_pos ⟨hlimited, hclean⟩
  case mismatch =>
    intro x u hreset k p hkind hunmarked w
    have hconfirmed : ¬((u.lane n).rst.inReset = true ∨ k = 0 ∨ (u.lane n).mapBit x.mapBit = true ∨ p ≠ ((u.lane n).set x).mismatchPhase k) := by
      simp [p, hreset, hkind, hunmarked]
    exact if_neg hconfirmed
  case carrier =>
    intro u hlasts
    refine congrArg Host.Outcome.next (State.onLane_congr ?_)
    exact congrArg (fun c => { u.lane n with ctr := c }) (if_pos hlasts)
  case limit => exact fun m x hreset hpeak hfull => if_pos ⟨hreset, hpeak, hfull⟩
  case recover => exact fun m x hreset hlow hcool => if_pos ⟨hreset, hlow, hcool⟩

end Sys2Proof.Machine

/-! HOMING_START, HOMING_STATUS and COMPARE_SET (R230, R250, R256, R352, R353, R368). The type 0x62 of the item that carries a
setting to another lane is the model's choice. -/

namespace Sys2Proof.Machine

/-- A list of tests passes exactly where each of them passes. -/
theorem firstErr_eq_none_iff {l : List (Bool × Byte × Word)} : firstErr l = none ↔ ∀ e ∈ l, e.1 = false := by
  simp only [firstErr, Option.map_eq_none_iff, List.find?_eq_none, Bool.not_eq_true]

/-- HOMING_START needs its one byte whatever the version and the parameters (R335 order 9, R368). -/
theorem needLen_homingStart_pos (v : Nat) (p : List Byte) : 0 < needLen 0x0C01 v p := Nat.succ_pos _

/-- HOMING_START without the abort bit reaches the operation as such. -/
theorem State.Takes.starts {s : State} {n : Lane} {r : Req} {peer : PeerPart} {b : Byte}
    (h : s.Takes n 0x0C01 (r.withByte 0 (b &&& 0x7F)) peer) :
    ((s.met 0x0C01 (r.withByte 0 (b &&& 0x7F)) peer).callAt n 0x0C01 (r.withByte 0 (b &&& 0x7F))).aborts = false := by
  have hlow : (b &&& 0x7F).toNat ≤ 127 := by
    rw [BitVec.toNat_and]
    exact Nat.and_le_right
  refine decide_eq_false ?_
  rw [h.action (needLen_homingStart_pos _ _)]
  omega

/-- HOMING_START with the abort bit reaches the operation as such. -/
theorem State.Takes.aborts {s : State} {n : Lane} {r : Req} {peer : PeerPart} {b : Byte}
    (h : s.Takes n 0x0C01 (r.withByte 0 (b ||| 0x80)) peer) :
    ((s.met 0x0C01 (r.withByte 0 (b ||| 0x80)) peer).callAt n 0x0C01 (r.withByte 0 (b ||| 0x80))).aborts = true := by
  refine decide_eq_true ?_
  rw [h.action (needLen_homingStart_pos _ _), BitVec.toNat_or]
  exact Nat.right_le_or

/-- HOMING_START that passes its checks and does not abort, at a Leader that follows no twin Leader (R250). -/
theorem handleHomingStart_of_start {p : State} {n : Lane} {c : Call} (hchecks : chkHomingStart p n c = none)
    (hstarts : c.aborts = false) (hleads : p.twinFollows = false) :
    handleHomingStart p n c = .pending (((p.startHoming n c.homes.1 c.homes.2).keepDeputy p).onProf n
      (fun q => { q with lastSeq := c.r.seq })) [] := by
  simp only [handleHomingStart, hchecks, State.applyHoming, hstarts, hleads]
  rfl

/-- HOMING_START that passes its checks and aborts (R256). -/
theorem handleHomingStart_of_abort {p : State} {n : Lane} {c : Call} (hchecks : chkHomingStart p n c = none)
    (haborts : c.aborts = true) :
    handleHomingStart p n c = .ok (((p.abortNamed c.homes.1 c.homes.2).motionApplied.keepDeputy p).onProf n
      (fun q => { q with lastSeq := c.r.seq })) [] := by
  simp only [handleHomingStart, hchecks, State.applyHoming, haborts, Bool.not_true, Bool.and_false]
  rfl

/-- An abort passes its checks where it names an axis and the Leader may hold the role (R256). -/
theorem chkHomingStart_of_abort {p : State} {n : Lane} {c : Call} (haborts : c.aborts = true)
    (hnamed : c.homes.1 = true ∨ c.homes.2 = true) (hengine : (p.lane p.scribe).mapBit 3 = false) :
    chkHomingStart p n c = none := by
  have haxes : ((if c.homes.1 then [Axis.s] else []) ++ (if c.homes.2 then [Axis.b] else [])).isEmpty = false := by
    rcases hnamed with h | h <;> simp [h]
  simp only [chkHomingStart, haxes, haborts]
  exact firstErr_eq_none_iff.mpr (by simpa using hengine)

/-- COMPARE_SET passes its checks: its fields are in range, the tests of a motion command pass, and the lane it names is Active
with a usable QUAD port (R230, R368). -/
theorem chkCompareSet_eq_none {p : State} {n m : Lane} {c : Call} (hlane : Lane.ofCode? (BitVec.ofNat 8 (rd c.p 0 1)) = some m)
    (hfields : compareFieldsOk c.p = true) (htests : firstErr (p.motionTests n c.opAddr [] false false false false) = none)
    (hactive : (p.lane m).state = .active) (hport : (p.lane m).mapBit 12 = false) : chkCompareSet p n c = none := by
  have hslot : c.slotLane = m := by simp only [Call.slotLane, hlane, Option.getD_some]
  refine firstErr_eq_none_iff.mpr ?_
  rw [hslot, List.forall_mem_append, List.forall_mem_cons, List.forall_mem_cons]
  refine ⟨⟨?_, ?_, firstErr_eq_none_iff.mp htests⟩, ?_⟩
  · rw [hlane, Option.isNone_some]
  · rw [hfields, Bool.not_true]
  · simp [hactive, hport]

/-- COMPARE_SET that passes its checks, by the lane it names: the Leader holds it for its twin Leader, or carries it out (R76,
R230). -/
theorem handleCompareSet_of_passed {p : State} {n m : Lane} {c : Call} (hchecks : chkCompareSet p n c = none)
    (hlane : Lane.ofCode? (BitVec.ofNat 8 (rd c.p 0 1)) = some m) :
    handleCompareSet p n c = .ok (if p.twinFollows then p.holdCommand n c
      else ((if m = n then p.setSlot n c.p else p.pushItem n m (settingItem (p.lane n).epoch c.p)).onProf n
        (fun q => { q with lastSeq := c.r.seq })).motionApplied.endSteerHold) [] := by
  simp only [handleCompareSet, hchecks, State.applyCompareSet, Call.slotLane, hlane, Option.getD_some]

/-- Settles O9: every check of the operation passes, and its own branch is taken. -/
theorem homingCommandsComplete : Obligations.HomingCommandsComplete := by
  intro s n r
  refine ⟨?start, ?abort, ?status, ?compare⟩
  case start =>
    intro htakes p c b axes hnamed hperm hstop hstill himage hhold hengine husable hfree hpend hentry hleads
    have hstarts : c.aborts = false := htakes.starts
    have hchecks : chkHomingStart p n c = none := by
      have haxes : (if c.homes.1 then [Axis.s] else []) ++ (if c.homes.2 then [Axis.b] else []) = axes := by
        simp only [Call.homes, axes, b, beq_iff_eq]
      have hmoves : (p.m.mode == .run && axes.any (p.homingMoves n)) = false := by
        simpa using hstill
      simp only [State.occupied, Bool.or_eq_false_iff] at hfree
      obtain ⟨⟨⟨hsteer, hbrake⟩, hending⟩, hload⟩ := hfree
      simp only [chkHomingStart, haxes, hstarts, List.isEmpty_eq_false_iff.mpr hnamed]
      refine firstErr_eq_none_iff.mpr (List.forall_mem_append.mpr ⟨List.forall_mem_append.mpr ⟨?_, ?_⟩, ?_⟩)
      · simp [hperm, hstop, hmoves, himage, hhold, hengine]
      · exact List.forall_mem_map.mpr fun x hx => beq_eq_false_iff_ne.mpr (husable x hx)
      · simp [hsteer, hbrake, hending, hload, hpend, hentry]
    exact congrArg Host.Outcome.next (htakes.fcp_eq (handleHomingStart_of_start hchecks hstarts hleads) trivial)
  case abort =>
    intro htakes p c b hnamed hengine
    have haborts : c.aborts = true := htakes.aborts
    have hchecks : chkHomingStart p n c = none :=
      chkHomingStart_of_abort haborts (hnamed.imp beq_iff_eq.mpr beq_iff_eq.mpr) hengine
    exact congrArg Host.Outcome.next (htakes.fcp_eq (handleHomingStart_of_abort hchecks haborts) trivial)
  case status =>
    intro htakes p c hpiece
    exact congrArg Host.Outcome.next (htakes.fcp_eq rfl (piecewise_accepted hpiece))
  case compare =>
    intro m htakes p c hlane hfields htests hactive hport
    have hchecks := chkCompareSet_eq_none hlane hfields htests hactive hport
    exact congrArg Host.Outcome.next (htakes.fcp_eq (handleCompareSet_of_passed hchecks hlane) trivial)

end Sys2Proof.Machine

/-! The sensor supply and SENT (R212, R214, R215, R217 to R219, R235, R382). That a supply fault clears position-valid and the bit
layouts of the serial messages are the model's choice. -/

namespace Sys2Proof.Machine

/-- Settles O28: the branch of each event. -/
theorem sensorSupplyAndSentEventsComplete : Obligations.SensorSupplyAndSentEventsComplete := by
  intro s t n
  refine ⟨?frame, ?message, ?badCrc, ?timeout, ?fault, ?recover, ?retry⟩
  case frame =>
    intro p f u hon r w v x
    have hsupplied : ¬((!(u.lane n).sup.svccOn) = true) := by simp [hon]
    exact if_neg hsupplied
  case message =>
    intro p i data u hon hmsg w
    simp only [u] at hmsg hon
    simp only [exec, execSentSerialMessage, hmsg, hon]
    rw [if_neg (not_not.mpr rfl), if_neg (by decide), if_neg (by decide)]
    exact (apply_ite Host.Outcome.next _ _ _).symm
  case badCrc =>
    intro p i data u hon hmsg
    simp only [u] at hmsg hon
    simp only [exec, execSentSerialMessage, hmsg, hon]
    rw [if_neg (not_not.mpr rfl), if_neg (by decide)]
    rfl
  case timeout =>
    intro p u hon hnew hstarted hlong
    have hdue : ((u.lane n).sup.svccOn && !((u.lane n).sent p).errs.getLsbD 0 &&
        decide ((u.lane n).timeoutNs p ≤ ((t - (u.lane n).timeoutFrom p : Nat) : Rat)) &&
        decide ((u.lane n).timeoutFrom p ≤ t)) = true := by
      simp only [hon, hnew, hstarted, hlong, Bool.not_false, decide_true, Bool.and_self]
    exact if_pos hdue
  case fault =>
    intro mv held u hon hnew hlow hlong
    have hdue : ((u.lane n).sup.svccOn && decide (mv < 4500) && decide (ms 1 ≤ held)) = true := by
      simp only [hon, hlow, hlong, decide_true, Bool.and_self]
    exact (if_pos hdue).trans (if_neg (Bool.eq_false_iff.mp hnew))
  case recover =>
    intro mv held u hon hfault hhigh hlong
    have hdue : ((u.lane n).sup.svccOn && (u.lane n).sup.svccFault && decide (4750 < mv) && decide (ms 1 ≤ held)) = true := by
      simp only [hon, hfault, hhigh, hlong, decide_true, Bool.and_self]
    exact if_pos hdue
  case retry =>
    intro u hon hfault hwait
    have hdue : ((u.lane n).sup.svccOn && (u.lane n).sup.svccFault && decide ((u.lane n).sup.svccRetry + ms 100 ≤ t)) = true := by
      simp only [hon, hfault, hwait, decide_true, Bool.and_self]
    exact if_pos hdue

end Sys2Proof.Machine

/-! The quadrature port, the switch inputs and the compare slots (R221, R222, R224, R226 to R228, R231, R232). A slot keeps the
crossing it has found and fires with it: the model's choice. -/

namespace Sys2Proof.Machine

/-- An edge of a lane out of reset that has passed the filter and changes a line is no edge to ignore (R220). -/
theorem quadEdge_passes {l : LaneSt} {a b : Bool} {stable : Nat} (hreset : l.rst.inReset = false)
    (hstable : l.codeN Key.quadFilterN ≤ stable) (hchanged : l.quad.a ≠ a ∨ l.quad.b ≠ b) :
    ¬((l.rst.inReset || decide (stable < l.codeN Key.quadFilterN) || (l.quad.a == a && l.quad.b == b)) = true) := by
  have hlines : (l.quad.a == a && l.quad.b == b) = false := by
    rcases hchanged with h | h <;> simp [h]
  rw [hreset, decide_eq_false (Nat.not_lt.mpr hstable), hlines]
  exact Bool.false_ne_true

/-- An armed slot fires with the crossing it keeps (R231). -/
theorem SlotSt.fireHit_of_hit {c : SlotSt} {st : Dword} {v : Int} (hhit : c.hit = some (st, v)) (harmed : c.state = 1) :
    c.fireHit = c.fire st v false := by
  simp only [SlotSt.fireHit, hhit]
  exact if_pos harmed

/-- A change of a compare slot is what it makes of that slot. -/
theorem LaneSt.onSlot_congr {l : LaneSt} {k : BitVec 2} {f g : SlotSt → SlotSt} (h : f (l.slot k) = g (l.slot k)) :
    l.onSlot k f = l.onSlot k g := by
  unfold LaneSt.slot at h
  unfold LaneSt.onSlot
  split_ifs at h ⊢ <;> rw [h]

/-- Settles O29: the branch of each event. -/
theorem quadSwitchAndCompareEventsComplete : Obligations.QuadSwitchAndCompareEventsComplete := by
  intro s t n
  refine ⟨?illegal, ?unstable, ?counted, ?invalid, ?overrate, ?recover, ?level, ?chatter, ?chatterEnd, ?stuck, ?fires, ?waits⟩
  case illegal =>
    intro a b stable u hreset hstable ha hb
    have hboth : ((u.lane n).quad.a != a && (u.lane n).quad.b != b) = true := by simp [ha, hb]
    exact (if_neg (quadEdge_passes hreset hstable (.inl ha))).trans (if_pos hboth)
  case unstable =>
    intro a b stable u hshort
    have hignored : ((u.lane n).rst.inReset || decide (stable < (u.lane n).codeN Key.quadFilterN) ||
        ((u.lane n).quad.a == a && (u.lane n).quad.b == b)) = true := by
      rw [decide_eq_true hshort, Bool.or_true, Bool.true_or]
    exact if_pos hignored
  case counted =>
    intro a b stable u hreset hstable hone up pos
    have hchanged : (u.lane n).quad.a ≠ a ∨ (u.lane n).quad.b ≠ b := hone.imp And.left And.right
    have hsingle : ¬(((u.lane n).quad.a != a && (u.lane n).quad.b != b) = true) := by
      rcases hone with ⟨-, h⟩ | ⟨h, -⟩ <;> simp [h]
    exact (if_neg (quadEdge_passes hreset hstable hchanged)).trans (if_neg hsingle)
  case invalid => exact fun hmany => if_pos (decide_eq_true hmany)
  case overrate => exact fun hmany => if_pos (decide_eq_true hmany)
  case recover =>
    intro p u hinvalid hsupply hreset hwait hpeers
    have hdue : (!(u.lane n).quad.valid && !(u.lane n).sup.svccFault && !(u.lane n).rst.inReset &&
        decide ((u.lane n).quad.faultAt + ms ((u.lane n).codeN Key.quadRecover) ≤ t)) = true := by
      simp only [hinvalid, hsupply, hreset, hwait, Bool.not_false, decide_true, Bool.and_self]
    refine (if_pos hdue).trans ?_
    simp only [u] at hpeers
    rw [hpeers]
    rfl
  case level =>
    intro k high held u hfitted hreset hquiet hlong w
    have hread : ¬((!(u.lane n).fitted k || (u.lane n).rst.inReset) = true) := by simp [hfitted, hreset]
    have hpasses : ¬((((u.lane n).sw k).chatter || decide (held < (u.lane n).swFilter k)) = true) := by
      simp [hquiet, hlong]
    exact (if_neg hread).trans (if_neg hpasses)
  case chatter =>
    intro k ats u hfitted hreset w hquiet hmany
    have hread : ¬((!(u.lane n).fitted k || (u.lane n).rst.inReset) = true) := by simp [hfitted, hreset]
    exact (if_neg hread).trans (if_pos ⟨hmany, hquiet⟩)
  case chatterEnd =>
    intro k high held u hfitted hchatters hlong hnone
    have hends : ((u.lane n).fitted k && ((u.lane n).sw k).chatter && decide (ms ((u.lane n).codeN Key.swChatterW) ≤ held) &&
        ((u.lane n).sw k).inWindow t (ms ((u.lane n).codeN Key.swChatterW)) == 0) = true := by
      simp only [hfitted, hchatters, hlong, hnone, decide_true, Bool.and_self, beq_self_eq_true]
    exact if_pos hends
  case stuck =>
    intro k u hfitted hactive hquiet hnew hlong
    have hsets : ((u.lane n).fitted k && ((u.lane n).sw k).state && !((u.lane n).sw k).chatter && !((u.lane n).sw k).stuck &&
        (((u.lane n).swStuck k != 0 && decide (((u.lane n).sw k).since + (u.lane n).swStuck k < t)) ||
          (k == .sw1 && u.farFromEnds n))) = true := by
      simpa only [hfitted, hactive, hquiet, hnew, Bool.not_false, Bool.true_and, Bool.or_eq_true, Bool.and_eq_true,
        bne_iff_ne, beq_iff_eq, decide_eq_true_eq] using hlong
    exact if_pos hsets
  case fires =>
    intro k st v u hactive harmed hhit
    refine (if_pos ⟨hactive, hhit⟩).trans (congrArg Host.Outcome.next (State.onLane_congr (LaneSt.onSlot_congr ?_)))
    exact SlotSt.fireHit_of_hit hhit harmed
  case waits =>
    intro k st v u hnone
    have hmissed : ¬((u.lane n).state = .active ∧ ((u.lane n).slot k).hit = some (st, v)) := by simp [hnone]
    exact if_neg hmissed

end Sys2Proof.Machine

/-! The steps of a homing run (R224, R251 to R254, R256, R257, R382). -/

namespace Sys2Proof.Machine

/-- Settles O31: the branch of each event. -/
theorem homingEventsComplete : Obligations.HomingEventsComplete := by
  intro s t
  refine ⟨?endStop, ?opposite, ?notReleased, ?released, ?kiss, ?stiffness, ?steerDone, ?brakeDone, ?timeout⟩
  case endStop =>
    intro u hruns hseek hentry hspeed hend w
    refine if_pos ⟨hruns, hseek, hentry, hspeed, ?_⟩
    rw [Bool.or_eq_true]
    refine hend.imp ?_ ?_
    · rintro ⟨a, hpush, hlong⟩
      simp only [u] at hpush
      rw [hpush]
      exact decide_eq_true hlong
    · rintro ⟨hstop, hside, hlanes⟩
      rw [hstop, hside, List.isEmpty_eq_false_iff.mpr hlanes, beq_self_eq_true]
      rfl
  case opposite =>
    intro u hruns hseek hentry hspeed hopposite hfar
    exact if_pos ⟨hruns, hseek, hentry, hspeed, hopposite, hfar.imp_right decide_eq_true⟩
  case notReleased =>
    exact fun hruns hstate hentry hopened hforce => (if_pos ⟨hruns, hstate, hentry, hopened⟩).trans (if_pos hforce)
  case released =>
    exact fun hruns hstate hentry hopened hforce =>
      (if_pos ⟨hruns, hstate, hentry, hopened⟩).trans (if_neg (not_le.mpr hforce))
  case kiss => exact fun hruns hstate hforce => if_pos ⟨hruns, hstate, hforce⟩
  case stiffness => exact fun hruns hstate hforce hbeyond => if_pos ⟨hruns, hstate, hforce, hbeyond⟩
  case steerDone =>
    intro u hruns hstate hrests w v
    have hdue : (u.hom.steer == 4 && (u.lane u.scribe).prof.steer.resting) = true := by simp [hstate, hrests]
    exact (if_pos ⟨hruns, hdue⟩).trans (apply_ite Host.Outcome.next _ _ _).symm
  case brakeDone =>
    intro u hruns hstate hrests w v
    have hdue : (u.hom.brake == 5 && (u.lane u.scribe).prof.brake.resting) = true := by simp [hstate, hrests]
    exact (if_pos ⟨hruns, hdue⟩).trans (apply_ite Host.Outcome.next _ _ _).symm
  case timeout =>
    intro u haxis hlate
    have hdue : ((u.hom.axS || u.hom.axB) &&
        decide (u.hom.at_ + 1000000000 * (u.lane u.scribe).codeN Key.homeTimeout ≤ t)) = true :=
      Bool.and_eq_true_iff.mpr ⟨Bool.or_eq_true_iff.mpr haxis, decide_eq_true hlate⟩
    exact if_pos hdue

end Sys2Proof.Machine

/-! The tests of their own by which STEER_ANGLE and PARAM_WRITE refuse a request that passed the checks of R335 (R244, R353,
R355, R360). -/

namespace Sys2Proof.Machine

/-- A taken request ends with the answering lane's part, in the state that lane meets it in (R43, R335). -/
theorem State.Takes.fcp_eq_fcpAnswer {s : State} {n : Lane} {op : Half} {r : Req} {peer : PeerPart} (h : s.Takes n op r peer)
    (hd : Handler) : s.fcp op r hd peer = (s.met op r peer).fcpAnswer n op r hd := by
  obtain ⟨hanswerer, -, htaken, -⟩ := h
  simp only [State.fcp, hanswerer, State.fcpLane, htaken, and_self, if_true]

/-- A taken request whose operation refuses it has the error reply and the note of the request for its whole effect (R99, R335). -/
theorem State.Takes.fcp_refused {s : State} {n : Lane} {op : Half} {r : Req} {peer : PeerPart} {hd : Handler} {st : Byte}
    {addr : Word} (h : s.Takes n op r peer)
    (ha : hd (s.met op r peer) n ((s.met op r peer).callAt n op r) = .err st addr) :
    s.fcp op r hd peer =
      ((s.met op r peer).replyError n op r st addr).onLane n (fun l => l.noteRequest op r (s.met op r peer).now) := by
  simp only [h.fcp_eq_fcpAnswer, State.fcpAnswer, h.answer_eq, ha, State.reply]

/-- A test that passes leaves the decision to those after it (R353). -/
theorem firstErr_cons_of_passed {b : Bool} {e : Byte × Word} {l : List (Bool × Byte × Word)} (h : b = false) :
    firstErr ((b, e) :: l) = firstErr l := by
  rw [h]
  rfl

/-- A test that fails decides the reply (R353). -/
theorem firstErr_cons_of_failed {b : Bool} {e : Byte × Word} {l : List (Bool × Byte × Word)} (h : b = true) :
    firstErr ((b, e) :: l) = some e := by
  rw [h]
  rfl

/-- An angle outside the range the end stops leave is STEER_ANGLE's first failure: the two tests before it are about the kind
byte and pass for an angle (R244, R355). -/
theorem chkSteerAngle_of_outside {p : State} {n : Lane} {c : Call} (hangle : c.kindByte = 0)
    (houtside : (p.lane n).steerOk (rdI c.p 0 4) = false) : chkSteerAngle p n c = some (0x12, c.opAddr) := by
  have hkind : decide (1 < c.kindByte) = false := by simp [hangle]
  have hspeed : (c.kindByte == 1 && p.m.mode != .service) = false := by simp [hangle]
  have hrange : (c.kindByte == 0 && !(p.lane n).steerOk (rdI c.p 0 4)) = true := by simp [hangle, houtside]
  exact (firstErr_cons_of_passed hkind).trans ((firstErr_cons_of_passed hspeed).trans (firstErr_cons_of_failed hrange))

/-- A motion command answers the failure its checks find (R353). -/
theorem motionHandler_of_failed {chk : MotionCheck} {p : State} {n : Lane} {c : Call} {e : Byte × Word} (eff : MotionEffect)
    (brake : Bool) (h : chk p n c = some e) : motionHandler chk eff brake p n c = .err e.1 e.2 := by
  simp only [motionHandler, h]

/-- PARAM_WRITE answers the first failing pair of 1 to 32 (R360). -/
theorem handleParamWrite_of_failed {p : State} {c : Call} {e : Byte × Word} (n : Lane) (hsome : 1 ≤ rd c.p 0 1)
    (hmost : rd c.p 0 1 ≤ 32) (hpairs : checkPairs p.m.mode c.expert [] (pairsOf c.p) = some e) :
    handleParamWrite p n c = .err e.1 e.2 := by
  have hcount : ¬(rd c.p 0 1 < 1 ∨ 32 < rd c.p 0 1) := by omega
  simp only [handleParamWrite, if_neg hcount, hpairs]

/-- Settles O46: each operation's own test answers an error, and a refused request is answered and noted only. -/
theorem ownTestsRefuseWithoutEffect : Obligations.OwnTestsRefuseWithoutEffect := by
  intro s n r
  refine ⟨?steerAngle, ?paramWrite⟩
  case steerAngle =>
    intro htakes p c hangle houtside
    have hfails : chkSteerAngle p n c = some (0x12, 0x0201) := chkSteerAngle_of_outside hangle houtside
    exact congrArg Host.Outcome.next (htakes.fcp_refused (motionHandler_of_failed effSteerAngle false hfails))
  case paramWrite =>
    intro e htakes p c hsome hmost hpairs
    exact congrArg Host.Outcome.next (htakes.fcp_refused (handleParamWrite_of_failed n hsome hmost hpairs))

end Sys2Proof.Machine

/-! MODE_REQUEST, MODE_STATUS and ENABLE_TEST_STATUS (R179, R267, R272 to R276, R355, R357). -/

namespace Sys2Proof.Machine

/-- What MODE_REQUEST answers to a target once its checks have passed (R267, R273, R274). -/
def State.answerTarget (p : State) (n : Lane) (c : Call) : Mode → Answer
  | .run => if p.m.mode = .limp then p.requestRunFromLimp n c.opAddr else p.requestRun n c.opAddr
  | .service => p.requestService c
  | .dormant => p.requestDormant c.opAddr
  | _ => p.requestReady

/-- The table of R267 leads to another mode, and never to Boot or Limp. -/
theorem requestable_target {cur tgt : Mode} (h : requestable cur tgt = true) : tgt ≠ cur ∧ tgt ≠ .boot ∧ tgt ≠ .limp := by
  revert h
  cases cur <;> cases tgt <;> decide

/-- The code of a target of the table of R267 is none of those MODE_REQUEST refuses, and names the target. -/
theorem Mode.code_of_target {tgt : Mode} (hboot : tgt ≠ .boot) (hlimp : tgt ≠ .limp) :
    ¬6 ≤ tgt.code ∧ ¬(tgt.code = 1 ∨ tgt.code = 4) ∧
    (if tgt.code = 0 then Mode.dormant else if tgt.code = 2 then .ready else if tgt.code = 3 then .run else .service) = tgt := by
  revert hboot hlimp
  cases tgt <;> decide

/-- MODE_REQUEST with a target of the table of R267, no transition under way and no safe stop running in Run or Limp. -/
theorem handleModeRequest_of_requestable {p : State} {n : Lane} {c : Call} {tgt : Mode} (hcode : rd c.p 0 1 = tgt.code)
    (hrow : requestable p.m.mode tgt = true) (hpend : p.m.pend = p.m.mode)
    (hstop : p.m.mode = .run ∨ p.m.mode = .limp → p.m.stopOn = false) : handleModeRequest p n c = p.answerTarget n c tgt := by
  obtain ⟨hother, hboot, hlimp⟩ := requestable_target hrow
  obtain ⟨hknown, htarget, hnamed⟩ := Mode.code_of_target hboot hlimp
  have hsafe : ∀ m : Mode, ¬(p.m.stopOn = true ∧ (p.m.mode = .run ∨ p.m.mode = .limp) ∧ tgt = m) :=
    fun m ⟨hon, hruns, _⟩ => Bool.false_ne_true ((hstop hruns).symm.trans hon)
  have hlisted : ¬(tgt ≠ p.m.mode ∧ requestable p.m.mode tgt = false) := fun ⟨_, hno⟩ => Bool.false_ne_true (hno.symm.trans hrow)
  have hidle : ∀ q : Prop, ¬(p.m.pend ≠ p.m.mode ∧ q) := fun _ ⟨hmoves, _⟩ => hmoves hpend
  simp only [handleModeRequest, hcode]
  rw [if_neg hknown, if_neg htarget, hnamed, if_neg (hsafe _), if_neg (hsafe _), if_neg hlisted, if_neg (hidle _), if_neg (hidle _),
    if_neg hother]
  rfl

/-- MODE_REQUEST needs its four bytes whatever the version and the parameters (R335 order 9, R355). -/
theorem needLen_modeRequest_pos (v : Nat) (p : List Byte) : 0 < needLen 0x0101 v p := Nat.succ_pos _

/-- A taken MODE_REQUEST with a target of the table of R267, where nothing is under way, is answered with what the target gives. -/
theorem State.Takes.modeRequest {s p : State} {n : Lane} {r : Req} {b : Byte} {tgt : Mode} {a : Answer}
    (h : s.Takes n 0x0101 (r.withByte 0 b) noPart) (hp : s.met 0x0101 (r.withByte 0 b) noPart = p) (hb : b.toNat = tgt.code)
    (hrow : requestable p.m.mode tgt = true) (hpend : p.m.pend = p.m.mode)
    (hstop : p.m.mode = .run ∨ p.m.mode = .limp → p.m.stopOn = false)
    (ha : p.answerTarget n (p.callAt n 0x0101 (r.withByte 0 b)) tgt = a) (hx : a.accepted) :
    done (s.fcp 0x0101 (r.withByte 0 b) handleModeRequest noPart) = .next (p.answered n 0x0101 (r.withByte 0 b) a) := by
  subst hp
  have hcode := (h.action (needLen_modeRequest_pos _ _)).trans hb
  exact congrArg Host.Outcome.next (h.fcp_eq ((handleModeRequest_of_requestable hcode hrow hpend hstop).trans ha) hx)

/-- Outside Service and without a safe stop, target Ready begins a controlled stop (R267, R272). -/
theorem State.requestReady_of_stop {p : State} (hmode : p.m.mode ≠ .service) (hstop : p.m.stopOn = false) :
    p.requestReady = .pending (p.beginStop.onM (fun m => { m with pend := .ready, slowSince := none })) [] :=
  (if_neg hmode).trans (if_neg (Bool.eq_false_iff.mp hstop))

/-- The tests of target Run from Ready pass (R73, R179, R267, R379). -/
theorem State.requestRun_of_passed {p : State} {n : Lane} (op : Word) (hperm : p.somePermitted n = true)
    (hstamp : (p.lane n).stampBad = false) (himage : (p.lane n).par.defaults = false) (hfree : p.occupied = false) :
    p.requestRun n op =
      .pending ((p.onM (fun m => { m with pend := .run, runEntry := 1, diag := [], acq := [] })).takeEffect .runEntry) [] := by
  have htests : firstErr [(!p.somePermitted n, 0x22, op), ((p.lane n).stampBad || (p.lane n).par.defaults, 0x21, op),
      (p.occupied, 0x18, op)] = none := by
    rw [hperm, hstamp, himage, hfree]
    rfl
  simp only [State.requestRun, htests]

/-- The tests of target Service pass (R274). -/
theorem State.requestService_of_passed {p : State} {c : Call} (hstill : p.allStill = true) (hsupply : p.serviceStopped = false)
    (hfree : p.occupied = false) : p.requestService c = .ok (p.enterService c.r.session) [] := by
  have htests : firstErr [(!p.allStill, 0x20, c.opAddr), (p.serviceStopped, 0x21, c.opAddr), (p.occupied, 0x18, c.opAddr)] = none := by
    rw [hstill, hsupply, hfree]
    rfl
  simp only [State.requestService, htests]

/-- The tests of target Dormant pass (R267). -/
theorem State.requestDormant_of_passed {p : State} (op : Word) (hena : p.allEnaOff = true) (hfree : p.occupied = false) :
    p.requestDormant op = .ok (p.onM (fun m => { m with dormReq := true, dormSent := false })) [] := by
  have htests : firstErr [(!p.allEnaOff, 0x22, op), (p.occupied, 0x18, op)] = none := by
    rw [hena, hfree]
    rfl
  simp only [State.requestDormant, htests]

theorem Mode.not_runs_of_eq {m k : Mode} (h : m = k) (hk : k ≠ .run ∧ k ≠ .limp) : ¬(m = .run ∨ m = .limp) := by
  rw [h, not_or]
  exact hk

/-- Settles O1: the row of R267 of each target, and the record of each read. -/
theorem modeAndStatusRequestsComplete : Obligations.ModeAndStatusRequestsComplete := by
  refine ⟨fun s n r => ⟨?stop, ?endService, ?energise, ?leaveLimp, ?service, ?dormant⟩, fun s n r => ⟨?status, ?enable⟩⟩
  case stop =>
    intro htakes p hmode hpend hstop
    have hrow : requestable p.m.mode .ready = true := by rcases hmode with h | h <;> rw [h] <;> rfl
    have houtside : p.m.mode ≠ .service := by rcases hmode with h | h <;> rw [h] <;> decide
    exact htakes.modeRequest rfl rfl hrow hpend (fun _ => hstop) (State.requestReady_of_stop houtside hstop) trivial
  case endService =>
    intro htakes p hmode hpend
    have hrow : requestable p.m.mode .ready = true := by rw [hmode]; rfl
    refine htakes.modeRequest rfl rfl hrow (hpend.trans hmode.symm) (absurd · (Mode.not_runs_of_eq hmode (by decide))) (if_pos hmode) ?_
    split <;> exact trivial
  case energise =>
    intro htakes p hmode hpend hperm hstamp himage hfree
    have hrow : requestable p.m.mode .run = true := by rw [hmode]; rfl
    have hready : p.m.mode ≠ .limp := by rw [hmode]; decide
    exact htakes.modeRequest rfl rfl hrow (hpend.trans hmode.symm) (absurd · (Mode.not_runs_of_eq hmode (by decide)))
      ((if_neg hready).trans (State.requestRun_of_passed _ hperm hstamp himage hfree)) trivial
  case leaveLimp =>
    intro htakes p hmode hpend hstop hclear
    have hrow : requestable p.m.mode .run = true := by rw [hmode]; rfl
    exact htakes.modeRequest rfl rfl hrow (hpend.trans hmode.symm) (fun _ => hstop)
      ((if_pos hmode).trans (if_neg (Bool.eq_false_iff.mp hclear))) trivial
  case service =>
    intro htakes p hmode hpend hstill hsupply hfree
    have hrow : requestable p.m.mode .service = true := by rw [hmode]; rfl
    exact htakes.modeRequest rfl rfl hrow (hpend.trans hmode.symm) (absurd · (Mode.not_runs_of_eq hmode (by decide)))
      (State.requestService_of_passed hstill hsupply hfree) trivial
  case dormant =>
    intro htakes p hmode hpend hena hfree
    have hrow : requestable p.m.mode .dormant = true := by rw [hmode]; rfl
    exact htakes.modeRequest rfl rfl hrow (hpend.trans hmode.symm) (absurd · (Mode.not_runs_of_eq hmode (by decide)))
      (State.requestDormant_of_passed _ hena hfree) trivial
  case status => exact fun htakes => congrArg Host.Outcome.next (htakes.fcp_eq rfl trivial)
  case enable => exact fun htakes => congrArg Host.Outcome.next (htakes.fcp_eq rfl trivial)

end Sys2Proof.Machine

/-! The Enable line and the events that change the mode (R95, R256, R262, R264 to R267, R271, R272, R275). -/

namespace Sys2Proof.Machine

/-- A lane whose ENA level has been stable for 200 us: the level is filtered, and the test advances once Boot is over (R262,
R264). -/
def LaneSt.filterEna (on : Bool) (t : Nat) (l : LaneSt) : LaneSt :=
  let e := { l.ena with pin := on, filt := on, lowAt := if on then l.ena.lowAt else t }
  { l with ena := if l.state = .starting then e else e.advance on }

/-- What follows a filtered level of ENA: a falling one abandons the lane's measurements, and the stop and sleep conditions are
counted again (R267, R271). -/
def State.countEna (s : State) (n : Lane) (on : Bool) : State :=
  let w := (if on then s else (s.abortMeasure n .s).abortMeasure n .b).reviewStop
  if w.m.mode = .ready then w.noteSleep else w

/-- A lane joins the torque when its ENA rises in Run or Limp while it is Active and its Enable test has just passed, or has
passed before and its permission was withdrawn (R266). -/
def State.joinsBy (s : State) (n : Lane) (on passed : Bool) : Bool :=
  on && (s.lane n).state == .active && (s.lane n).ena.test == 2 && (s.m.mode == .run || s.m.mode == .limp) &&
    ((s.lane n).ena.withdrawn || !passed)

/-- A level of ENA stable for 200 us and not the filtered one, at a running lane: the state u at the instant becomes e with the
level filtered, and the lane may join the torque. -/
theorem execEnaFilterChange_of_change {s u e : State} {t held : Nat} {n : Lane} {on : Bool} (hu : s.at_ t = u)
    (he : u.onLane n (·.filterEna on t) = e) (hreset : (u.lane n).rst.inReset = false) (hoff : (u.lane n).state ≠ .off)
    (hlong : us 200 ≤ held) (hnew : (u.lane n).ena.filt ≠ on) :
    exec (.enaFilterChange t n on held) s =
      .next ((if e.joinsBy n on ((u.lane n).ena.test == 2) then e.joinTorque n else e).countEna n on) := by
  subst hu he
  have hchanges : ¬((((s.at_ t).lane n).rst.inReset || ((s.at_ t).lane n).state == .off || decide (held < us 200) ||
      ((s.at_ t).lane n).ena.filt == on) = true) := by
    simp only [hreset, beq_eq_false_iff_ne.mpr hoff, beq_eq_false_iff_ne.mpr hnew, decide_eq_false (Nat.not_lt.mpr hlong),
      Bool.or_self, Bool.false_eq_true, not_false_eq_true]
  simp only [exec, execEnaFilterChange, State.onLane_lane, State.onLane_onLane]
  rw [if_neg hchanges]
  simp only [State.joinsBy, State.onLane_lane]
  rfl

/-- The test for Run or Limp that the rows make of the mode. -/
theorem Mode.beq_of_runs {m : Mode} (h : m = .run ∨ m = .limp) : (m == .run || m == .limp) = true := by
  rcases h with rfl | rfl <;> rfl

/-- Settles O11: the branch of each event. -/
theorem enableAndModeEventsComplete : Obligations.EnableAndModeEventsComplete := by
  refine ⟨fun s t n => ⟨?filtered, ?joins, ?falls, ?timeout, ?withdrawn⟩,
    fun s t => ⟨?ready, ?sleep, ?dormant, ?service, ?hold, ?loss⟩⟩
  case filtered =>
    intro on held u v hreset hoff hstate hlong hnew e w
    have he : u.onLane n (·.filterEna on t) = e := by
      simp only [e, v, State.onLane_onLane]
      rfl
    have hstays : ¬(e.joinsBy n on ((u.lane n).ena.test == 2) = true) := by
      simp [← he, State.joinsBy, LaneSt.filterEna, hstate]
    rw [execEnaFilterChange_of_change rfl he hreset hoff hlong hnew, if_neg hstays]
    rfl
  case joins =>
    intro held u hreset hactive hruns hlong hlow htest w
    have hfilter : u.onLane n (·.filterEna true t) =
        u.onLane n (fun l => { l with ena := { l.ena with pin := true, filt := true }.advance true }) :=
      State.onLane_congr (by simp [LaneSt.filterEna, hactive])
    have hjoins : (u.onLane n (·.filterEna true t)).joinsBy n true ((u.lane n).ena.test == 2) = true := by
      simp [State.joinsBy, LaneSt.filterEna, EnaSt.advance, hactive, htest, hruns]
    have hrunning : (u.lane n).state ≠ .off := by rw [hactive]; decide
    have hnew : (u.lane n).ena.filt ≠ true := by rw [hlow]; decide
    rw [execEnaFilterChange_of_change rfl rfl hreset hrunning hlong hnew, if_pos hjoins, hfilter]
    rfl
  case falls =>
    intro held u hreset hactive hlong hhigh e w
    have he : u.onLane n (·.filterEna false t) = e := State.onLane_congr (by simp [LaneSt.filterEna, hactive])
    have hstays : ¬(e.joinsBy n false ((u.lane n).ena.test == 2) = true) := Bool.false_ne_true
    have hrunning : (u.lane n).state ≠ .off := by rw [hactive]; decide
    have hnew : (u.lane n).ena.filt ≠ false := by rw [hhigh]; decide
    rw [execEnaFilterChange_of_change rfl he hreset hrunning hlong hnew, if_neg hstays]
    rfl
  case timeout =>
    intro u hactive hopen hnew hlate
    have hdue : ((u.lane n).state == .active && (u.lane n).ena.test != 2 && !(u.lane n).ena.timeoutLogged &&
        decide ((u.lane n).activeAt + ms (100 * (u.lane n).codeN Key.enaTestTimeout) ≤ t)) = true := by
      simp only [hactive, bne_iff_ne.mpr hopen, hnew, hlate, beq_self_eq_true, Bool.not_false, decide_true, Bool.and_self]
    exact if_pos hdue
  case withdrawn =>
    intro u hruns halone hcounted hnew hlate
    have hdue : ((u.m.mode == .run || u.m.mode == .limp) && u.inactiveLanes n == [n] && decide (2 ≤ (u.passedLanes n).length) &&
        !(u.lane n).ena.withdrawn && decide ((u.lane n).ena.lowAt + ms ((u.lane n).codeN Key.enaDisagreeTime) ≤ t)) = true := by
      simp only [Mode.beq_of_runs hruns, halone, hcounted, hnew, hlate, beq_self_eq_true, Bool.not_false, decide_true, Bool.and_self]
    exact if_pos hdue
  case ready =>
    intro a u hruns hpend hslow hlong
    refine if_pos ?_
    have hmode := Mode.beq_of_runs hruns
    simp only [u] at hmode hpend hslow
    simp only [hmode, hpend, hslow, hlong, beq_self_eq_true, decide_true, Bool.and_self]
  case sleep =>
    intro a u hmode hsleeps hlong hena hsteer hbrake
    refine (if_pos hmode).trans (if_pos ?_)
    simp only [u] at hsleeps hena hsteer hbrake hlong
    simp only [hsleeps, hlong, hena, hsteer, hbrake, decide_true, Bool.not_false, Bool.and_self]
  case dormant =>
    intro u hmode hasked hsent
    have hdue : (u.m.mode == .ready && u.m.dormReq && u.m.dormSent) = true := by
      simp only [hmode, hasked, hsent, beq_self_eq_true, Bool.and_self]
    exact if_pos hdue
  case service =>
    intro u hmode hlate
    have hdue : (u.m.mode == .service &&
        decide (u.m.svcAt + ms (60000 * (u.lane u.scribe).codeN Key.modeServiceTimeout) ≤ t)) = true := by
      simp only [hmode, hlate, beq_self_eq_true, decide_true, Bool.and_self]
    exact if_pos hdue
  case hold =>
    intro u hruns hfresh hmissed
    have hdue : ((u.m.mode == .run || u.m.mode == .limp) && !u.m.stale &&
        decide ((u.lane u.scribe).codeN Key.locHoldCycles ≤ u.m.missed)) = true := by
      simp only [Mode.beq_of_runs hruns, hfresh, hmissed, Bool.not_false, decide_true, Bool.and_self]
    exact if_pos hdue
  case loss =>
    intro u hruns hnew hlate w
    have hdue : ((u.m.mode == .run || u.m.mode == .limp) && !u.m.loc &&
        decide (u.m.freshAt + ms ((u.lane u.scribe).codeN Key.locTimeout) ≤ t)) = true := by
      simp only [Mode.beq_of_runs hruns, hnew, hlate, Bool.not_false, decide_true, Bool.and_self]
    exact if_pos hdue

end Sys2Proof.Machine

/-! Waking, precharge, the disconnect and the clocks (R262, R267, R404 to R406, R419 to R421). -/

namespace Sys2Proof.Machine

/-- Domains 4 to 9 are none of CLK_AON, the core and reference domains and those of the links and the host port (R419, R420). -/
theorem blockDomain_ne {d : Fin 13} (hlo : 4 ≤ d.val) (hhi : d.val ≤ 9) :
    d ≠ 0 ∧ ¬(d = 1 ∨ d = 2 ∨ d = 3) ∧ d ≠ 10 ∧ d ≠ 11 ∧ d ≠ 12 := by
  revert d
  decide

/-- A domain not qualified within its limit, its source present and the lane's clocks running, has failed (R419, R420). -/
theorem clockQualFail_due {r : ResetSt} {d : Fin 13} {waited limit : Nat} {absent : Bool} (hlong : limit ≤ waited)
    (hnew : r.qual.contains d = false) (hpresent : absent = false) (hruns : r.clocked = true ∨ r.inReset = false) :
    ¬(waited < limit ∨ r.qual.contains d = true ∨ absent = true ∨ (r.clocked = false ∧ r.inReset = true)) := by
  have hstops : ¬(r.clocked = false ∧ r.inReset = true) := by rcases hruns with h | h <;> simp [h]
  rw [hnew, hpresent]
  simp only [Nat.not_lt.mpr hlong, hstops, Bool.false_eq_true, or_self, not_false_eq_true]

/-- Four deviating tap periods of a qualified domain, at a lane out of reset, are a loss (R421). -/
theorem clockLoss_due {r : ResetSt} {d : Fin 13} {taps : List Nat} (hlost : tapsLost d taps = true)
    (hqual : r.qual.contains d = true) (hreset : r.inReset = false) :
    ¬(tapsLost d taps = false ∨ r.qual.contains d = false ∨ r.inReset = true) := by
  rw [hlost, hqual, hreset]
  simp only [Bool.true_eq_false, Bool.false_eq_true, or_self, not_false_eq_true]

/-- Settles O15: the branch of each event. -/
theorem wakeAndClockEventsComplete : Obligations.WakeAndClockEventsComplete := by
  refine ⟨fun s t n => ⟨?wake, ?precharged, ?again, ?block, ?forward, ?bleeder⟩,
    fun s t n => ⟨?qualified, ?always, ?core, ?other, ?retry, ?coreLoss, ?legLoss⟩⟩
  case wake =>
    intro held u hreset hheld hnew hlong w
    have hwakes : ((u.lane n).rst.inReset && (u.lane n).rst.causes.contains 4 && (u.lane n).rst.wakeAt.isNone &&
        decide (ms 1 ≤ held)) = true := by
      simp only [hreset, hheld, hnew, hlong, Option.isNone_none, decide_true, Bool.and_self]
    simp only [exec, execWake, State.onLane_lane, State.onLane_onLane]
    exact if_pos hwakes
  case precharged =>
    intro vsup mv u hdisc hnear hintime
    simp only [exec, execPrechargeComplete, State.onSup_lane, State.onSup_onSup]
    exact if_pos ⟨hdisc, hnear, hintime⟩
  case again => exact fun hdisc hlate => if_pos ⟨hdisc, hlate⟩
  case block =>
    intro vsup mv u hdisc habove
    simp only [exec, execDisconnectBlock, State.onSup_lane, State.onSup_onSup]
    exact if_pos ⟨hdisc, habove⟩
  case forward =>
    intro vsup mv u hdisc hbelow
    simp only [exec, execDisconnectConductForward, State.onSup_lane, State.onSup_onSup]
    exact if_pos ⟨hdisc, hbelow⟩
  case bleeder =>
    intro mv u hlow
    exact (if_pos hlow).trans (congrArg Host.Outcome.next (State.onSup_onSup ..))
  case qualified =>
    intro d taps count u hmany hgood hratio hkept hnew hfew hclocked w
    have htaps : tapsQualify d taps = true := Bool.and_eq_true_iff.mpr ⟨decide_eq_true hmany, List.all_eq_true.mpr hgood⟩
    have hratio' : (ratioOk count || !(d == 1 || d == 2)) = true := by simpa using hratio
    have htries : (decide (10 ≤ (u.lane n).rst.fails) && (d == 1 || d == 2 || d == 3)) = false := by
      rw [decide_eq_false (Nat.not_le.mpr hfew), Bool.false_and]
    have hruns : ((u.lane n).rst.clocked || !(u.lane n).rst.inReset) = true := by simpa using hclocked
    have hqualifies : (tapsQualify d taps && (ratioOk count || !(d == 1 || d == 2)) && !(u.lane n).rst.lostDom.contains d &&
        !(u.lane n).rst.qual.contains d && !(decide (10 ≤ (u.lane n).rst.fails) && (d == 1 || d == 2 || d == 3)) &&
        ((u.lane n).rst.clocked || !(u.lane n).rst.inReset)) = true := by
      rw [htaps, hratio', hkept, hnew, htries, hruns]
      rfl
    exact if_pos hqualifies
  case always =>
    exact fun waited hlong hnew hclocked => (if_neg (clockQualFail_due hlong hnew rfl hclocked)).trans (if_pos rfl)
  case core =>
    intro d waited u r hcore hlong hnew hclocked
    have haon : d ≠ 0 := by rcases hcore with rfl | rfl | rfl <;> decide
    have hpresent : ((d == 10 && !(u.lane n).lo.signal) || (d == 11 && !(u.lane n).hi.signal)) = false := by
      rcases hcore with rfl | rfl | rfl <;> rfl
    exact (if_neg (clockQualFail_due ((if_neg haon).trans_le hlong) hnew hpresent hclocked)).trans
      ((if_neg haon).trans (if_pos hcore))
  case other =>
    intro d waited u hlo hhi hlong hnew hkept hreset
    obtain ⟨haon, hcore, hlower, hupper, hhost⟩ := blockDomain_ne hlo hhi
    have hpresent : ((d == 10 && !(u.lane n).lo.signal) || (d == 11 && !(u.lane n).hi.signal)) = false := by
      rw [beq_eq_false_iff_ne.mpr hlower, beq_eq_false_iff_ne.mpr hupper]
      rfl
    exact (if_neg (clockQualFail_due ((if_neg haon).trans_le hlong) hnew hpresent (.inr hreset))).trans
      ((if_neg haon).trans ((if_neg hcore).trans ((if_neg hhost).trans (if_neg (Bool.eq_false_iff.mp hkept)))))
  case retry =>
    intro u hreset hheld hfew hlate
    have hdue : ((u.lane n).rst.inReset && (u.lane n).rst.causes.contains 6 && decide ((u.lane n).rst.fails < 10) &&
        decide ((u.lane n).rst.retryAt + ms 100 ≤ t)) = true := by
      simp only [hreset, hheld, hfew, hlate, decide_true, Bool.and_self]
    exact if_pos hdue
  case coreLoss =>
    exact fun d taps hcore hlost hqual hreset => (if_neg (clockLoss_due hlost hqual hreset)).trans (if_pos hcore)
  case legLoss =>
    intro d taps u hlegs hlost hqual hreset
    refine (if_neg (clockLoss_due hlost hqual hreset)).trans ?_
    rcases hlegs with rfl | rfl <;> rfl

end Sys2Proof.Machine

/-! SCHEDULE_LOAD (R292, R366, R434). -/

namespace Sys2Proof.Machine

section
variable {p : State} {n : Lane} {c : Call}

/-- A segment within the bounds is refused for its size by none of their tests (R366). -/
theorem segment_within {total len : Nat} (htotal : total ≤ 8192) (hsome : 1 ≤ len) (hmost : len ≤ 1024) :
    ¬(8192 < total ∨ len < 1 ∨ 1024 < len) := by
  omega

/-- A segment within the bounds that repeats the last one (R366). -/
theorem handleScheduleLoad_of_again (hsize : ¬(8192 < rd c.p 4 4 ∨ rd c.p 8 2 < 1 ∨ 1024 < rd c.p 8 2))
    (hturn : segStep p.m.almX (some (rd c.p 4 4)) (rd c.p 0 4) ((c.p.drop 12).take (rd c.p 8 2)) = .again) :
    handleScheduleLoad p n c = .ok p [] := by
  simp only [handleScheduleLoad, if_neg hsize, hturn]

/-- A segment within the bounds and in turn is kept, and the completing one ends the transfer (R366). -/
theorem handleScheduleLoad_of_go {x : Xfer} (hsize : ¬(8192 < rd c.p 4 4 ∨ rd c.p 8 2 < 1 ∨ 1024 < rd c.p 8 2))
    (hturn : segStep p.m.almX (some (rd c.p 4 4)) (rd c.p 0 4) ((c.p.drop 12).take (rd c.p 8 2)) = .go x) :
    handleScheduleLoad p n c =
      if x.got.length < x.total then .ok (p.onM (fun m => { m with almX := some x })) []
      else (p.onM (fun m => { m with almX := none })).finishAlmanac n c.opAddr (x.got.take x.total) := by
  simp only [handleScheduleLoad, if_neg hsize, hturn]

/-- A package that passes R434 and R292 becomes pending, and its schedule ID and activation time are the answer. -/
theorem State.finishAlmanac_of_valid {op : Word} {pkg : List Byte} (horders : (p.lane n).pkgOrders [3] pkg = none)
    (hcheck : checkAlmanac (pkgBodyBytes pkg) (p.lane n).nodeIds (p.lane n).tag (p.meridian n) = none) :
    p.finishAlmanac n op pkg =
      .ok (p.pendAlmanac pkg) (beBytes 4 (almId (pkgBodyBytes pkg)).toNat ++ beBytes 8 (almTime (pkgBodyBytes pkg))) := by
  simp only [State.finishAlmanac, horders, hcheck]

end

/-- Settles O8: the segment's turn decides, and the completing segment's package passes its checks. -/
theorem scheduleLoadCompletes : Obligations.ScheduleLoadCompletes := by
  intro s n r x
  refine ⟨?again, ?kept, ?whole⟩
  case again =>
    intro htakes p c htotal hsome hmost hturn
    exact congrArg Host.Outcome.next
      (htakes.fcp_eq (handleScheduleLoad_of_again (segment_within htotal hsome hmost) hturn) trivial)
  case kept =>
    intro htakes p c htotal hsome hmost hturn hshort
    exact congrArg Host.Outcome.next
      (htakes.fcp_eq ((handleScheduleLoad_of_go (segment_within htotal hsome hmost) hturn).trans (if_pos hshort)) trivial)
  case whole =>
    intro htakes p c htotal hsome hmost hturn hwhole pkg w horders hcheck
    exact congrArg Host.Outcome.next
      (htakes.fcp_eq ((handleScheduleLoad_of_go (segment_within htotal hsome hmost) hturn).trans
        ((if_neg (Nat.not_lt.mpr hwhole)).trans (State.finishAlmanac_of_valid horders hcheck))) trivial)

end Sys2Proof.Machine

/-! The application cycle, the status and CAPS frames, and the host port's segments and transceiver (R286, R297, R300, R315, R319,
R343, R344, R466, R498). That a dominant level of 4 ms counts as 8 transmit errors, and that a count above 255 is bus-off, is the
model's choice. -/

namespace Sys2Proof.Machine

/-- A lane whose network parts run passes the first test of its rows. -/
theorem LaneSt.not_netStops {l : LaneSt} (hruns : l.netRuns = true) : ¬(l.netRuns = false) := ne_false_of_eq_true hruns

/-! ### The lane's own window -/

/-- A module that does not wait in Boot does not keep its lanes from sending. -/
theorem State.not_waitsInBoot {u : State} (hboot : u.m.mode = .boot → u.m.held = false) : ¬(u.m.mode = .boot ∧ u.m.held = true) :=
  fun ⟨hmode, hheld⟩ => Bool.eq_false_iff.mp (hboot hmode) hheld

/-- In its open window an integrated lane sends the status it latches where the transmit buffer was written, and a null frame
elsewhere (R286, R297). -/
theorem execStatusFrameSend_of_integrated {s u : State} {t w : Nat} {n : Lane} (hu : s.at_ t = u)
    (hruns : (u.lane n).netRuns = true)
    (hown : ownWindow (u.lane n).net.almanac (matrixPos (u.meridian n)) ((u.lane n).nodeId n) = some w)
    (hstart : winStart (u.lane n).net.almanac w ≤ cycleOffset (u.meridian n) + 4000)
    (hend : cycleOffset (u.meridian n) < winEnd (u.lane n).net.almanac w)
    (hint : (u.lane n).net.integrated = true) (hboot : u.m.mode = .boot → u.m.held = false) :
    exec (.statusFrameSend t n) s =
      if (u.lane n).net.tx.isSome = true then
        .next ((((u.pulse n).latchStatus n (pMax (almLen (u.lane n).net.almanac w))).transmit n w (matrixPos (u.meridian n))
          false).repliesLeft n)
      else .next (((u.pulse n).onNet n (fun x => { x with sentNull := true })).transmit n w (matrixPos (u.meridian n)) true) := by
  subst hu
  have hheld := State.not_waitsInBoot hboot
  simp only [exec, execStatusFrameSend, hruns, hown, hstart, hend, hint, hheld, decide_true, Bool.and_self, Bool.true_eq_false,
    false_and, or_self, if_true, if_false]
  rfl

/-! ### The arbitrating window -/

/-- The CAPS frame of a channel that is due for one, in an arbitrating window whose first attempt finds the medium free: a collision
leaves it the second attempt, and a collision there counts as one of arbitration (R296, R319). -/
theorem execCapsFrameSend_of_due {s u : State} {t w : Nat} {n : Lane} {c : Chan} {m : ArbSense} (hu : s.at_ t = u)
    (hruns : (u.lane n).netRuns = true) (hwin : windowAt (u.lane n).net.almanac (cycleOffset (u.meridian n)) = some w)
    (htype : entryType (almEntry (u.lane n).net.almanac (matrixPos (u.meridian n)) w) = 3)
    (hstate : ((u.lane n).net.chan c).state = 2 ∨ (((u.lane n).net.chan c).state = 3 ∧ ((u.lane n).net.chan c).capsDue = true))
    (hunsent : ((u.lane n).net.chan c).capsSent = false) (hfree : firstFree m ((u.lane n).nodeId n) = true) :
    exec (.capsFrameSend t n c m) s =
      if m.collision1 = true ∧ secondFree m ((u.lane n).nodeId n) = false then .next u
      else if m.collision1 = true ∧ m.collision2 = true then .next (u.onChan n c (fun k => { k with cArb := satInc k.cArb }))
      else
        let v := u.onChan n c (fun k => { k with
          capsSent := true
          capsDue := false
          frame := some ((u.lane n).frame n c w (matrixPos (u.meridian n)) false true ((u.lane n).capsPayload n c)) })
        .next (if ((u.lane n).net.chan c).state = 2 ∧ (u.lane n).codeN Key.netJoinAck = 0 then v.integrate n c else v) := by
  subst hu
  have hwindow : (some w).filter (fun w => entryType (almEntry ((s.at_ t).lane n).net.almanac (matrixPos ((s.at_ t).meridian n)) w)
      == 3) = some w :=
    (Option.filter_some ..).trans (if_pos (beq_iff_eq.mpr htype))
  have hdue : ¬(((s.at_ t).lane n).netRuns = false ∨ ¬((((s.at_ t).lane n).net.chan c).state = 2 ∨
      ((((s.at_ t).lane n).net.chan c).state = 3 ∧ (((s.at_ t).lane n).net.chan c).capsDue = true))) :=
    not_or.mpr ⟨LaneSt.not_netStops hruns, not_not.mpr hstate⟩
  simp only [exec, execCapsFrameSend, hwin, hwindow, if_neg hdue, hunsent, hfree, Bool.true_eq_false, Bool.false_eq_true, if_false]
  rfl

/-! ### The host port -/

/-- Whether the host port takes a frame: in Ready or Service, on the bus and supplied, it takes a CAN FD frame of 64 bytes to the
module's own identifier (R344, R345). -/
def State.takesHostFrame (u : State) (id : BitVec 29) (fd : Bool) (data : List Byte) : Bool :=
  (u.m.mode == .ready || u.m.mode == .service) && !u.host.silent && !u.host.busOff && u.hostFed && fd &&
    id.toNat == 0x1C4F0000 + (u.lane u.scribe).tag * 0x100 && data.length == 64

theorem State.takesHostFrame_of_open {u : State} {id : BitVec 29} {data : List Byte}
    (hmode : u.m.mode = .ready ∨ u.m.mode = .service) (hloud : u.host.silent = false) (hon : u.host.busOff = false)
    (hfed : u.hostFed = true) (hid : id.toNat = 0x1C4F0000 + (u.lane u.scribe).tag * 0x100) (hlen : data.length = 64) :
    u.takesHostFrame id true data = true := by
  have hopen : (u.m.mode == .ready || u.m.mode == .service) = true := by rcases hmode with h | h <;> rw [h] <;> rfl
  simp only [State.takesHostFrame, hopen, hloud, hon, hfed, hid, hlen, Bool.not_false, Bool.and_self, beq_self_eq_true]

/-- The host port at an instant: a partial packet without its next segment for 50 ms is discarded (R344). -/
def HostSt.inTime (h : HostSt) (t : Nat) : HostSt := if h.partAt + ms 50 < t then h.drop else h

theorem State.discardLate_eq (u : State) (t : Nat) :
    (if u.host.partAt + ms 50 < t then { u with host := u.host.drop } else u) = { u with host := u.host.inTime t } := by
  unfold HostSt.inTime
  split <;> rfl

@[simp] theorem HostSt.drop_busy (h : HostSt) : h.drop.busy = h.busy := by
  unfold HostSt.drop
  split <;> rfl

@[simp] theorem HostSt.inTime_busy (h : HostSt) (t : Nat) : (h.inTime t).busy = h.busy := by
  unfold HostSt.inTime
  split
  · exact h.drop_busy
  · rfl

theorem HostSt.drop_of_idle {h : HostSt} (hidle : h.index = 0) : h.drop = h := if_pos hidle

theorem HostSt.inTime_of_idle {h : HostSt} (hidle : h.index = 0) (t : Nat) : h.inTime t = h := by
  unfold HostSt.inTime
  rw [HostSt.drop_of_idle hidle, ite_self]

/-- The first segment of a packet at a port that is not busy: what stood there is discarded, and a packet of one segment is served
at once (R344). -/
theorem execHostPortFrame_of_first {s u : State} {t : Nat} {id : BitVec 29} {data : List Byte} (hu : s.at_ t = u)
    (htakes : u.takesHostFrame id true data = true) (hfirst : 128 ≤ rd data 0 1) (hstart : rd data 0 1 % 64 = 0)
    (hfree : u.host.busy = false) :
    exec (.hostPortFrame t id true data) s =
      let d := (u.host.inTime t).drop
      if 64 ≤ rd data 0 1 % 128 then .next (State.hostRequest { u with host := d } (data.drop 1))
      else .next { u with host := { d with part := data.drop 1, index := 1, partAt := t } } := by
  subst hu
  refine (if_neg (ne_false_of_eq_true htakes)).trans ?_
  rw [State.discardLate_eq]
  simp only [hfirst, hstart, HostSt.drop_busy, HostSt.inTime_busy, hfree, decide_true, beq_self_eq_true, Bool.and_self, if_true,
    Bool.false_eq_true, if_false, decide_eq_true_eq, done]

/-- The segment in turn of a packet begun in time, and not its last, is kept (R344). -/
theorem execHostPortFrame_of_next {s u : State} {t : Nat} {id : BitVec 29} {data : List Byte} (hu : s.at_ t = u)
    (htakes : u.takesHostFrame id true data = true) (hintime : t ≤ u.host.partAt + ms 50) (hturn : rd data 0 1 = u.host.index)
    (hbegun : 0 < u.host.index) (hmore : u.host.index < 64) :
    exec (.hostPortFrame t id true data) s =
      .next { u with host := { u.host with part := u.host.part ++ data.drop 1, index := u.host.index + 1, partAt := t } } := by
  subst hu
  have hfirst : decide (128 ≤ (s.at_ t).host.index) = false := decide_eq_false (by omega)
  have hlast : decide (64 ≤ (s.at_ t).host.index % 128) = false := decide_eq_false (by omega)
  refine (if_neg (ne_false_of_eq_true htakes)).trans ?_
  rw [if_neg (Nat.not_lt.mpr hintime)]
  simp only [hturn, hfirst, hlast, Nat.mod_eq_of_lt hmore, bne_self_eq_false, Nat.ne_of_gt hbegun]
  rfl

/-- Settles O25: the branch of each event. -/
theorem sendingEventsComplete : Obligations.SendingEventsComplete := by
  intro s t n
  refine ⟨?old, ?fresh, ?status, ?relayed, ?null, ?outside, ?caps, ?collided, ?first, ?single, ?next, ?timeout, ?recovery,
    ?dominant⟩
  case old =>
    intro u hruns w hread v
    refine (if_neg (LaneSt.not_netStops hruns)).trans ?_
    cases hframe : (w.lane n).net.rx with
    | none => rfl
    | some f =>
      have hold : (w.lane n).net.rxOld = true := hread.resolve_left (by simp [hframe])
      simp only [w, u] at hold
      simp only [hold]
      rfl
  case fresh =>
    intro f u hruns w hframe hnew p x y v
    refine (if_neg (LaneSt.not_netStops hruns)).trans ?_
    simp only [w, u] at hframe hnew
    simp only [hframe, hnew]
    rfl
  case status =>
    intro w u hruns hown hstart hend htx hint hboot
    exact (execStatusFrameSend_of_integrated rfl hruns hown hstart hend hint hboot).trans (if_pos htx)
  case relayed =>
    intro w p u hruns hown hstart hend htx hint hboot hpeer
    have hheld := State.not_waitsInBoot hboot
    simp only [u] at hruns hown hstart hend htx hint hheld hpeer
    simp only [exec, execStatusFrameSend, hruns, hown, hstart, hend, hint, hheld, htx, hpeer, decide_true, Bool.and_self,
      Bool.true_eq_false, Bool.false_eq_true, false_and, or_self, if_false]
    rfl
  case null =>
    intro w u hruns hown hstart hend htx hint hboot
    have hunwritten : ¬((u.lane n).net.tx.isSome = true) := by simp [htx]
    exact (execStatusFrameSend_of_integrated rfl hruns hown hstart hend hint hboot).trans (if_neg hunwritten)
  case outside =>
    intro w u hruns hown hearly hint
    simp only [u] at hruns hown hearly hint
    simp only [exec, execStatusFrameSend, hruns, hown, decide_eq_false (Nat.not_le.mpr hearly), hint]
    rfl
  case caps =>
    intro c m w u hruns hwin htype hstate hunsent hfree hclear v
    have hno : ∀ {a : Prop}, ¬(m.collision1 = true ∧ a) := fun h => by simp [hclear] at h
    exact (execCapsFrameSend_of_due rfl hruns hwin htype hstate hunsent hfree).trans ((if_neg hno).trans (if_neg hno))
  case collided =>
    intro c m w u hruns hwin htype hstate hunsent hfree hfirst hsecond hagain
    refine (execCapsFrameSend_of_due rfl hruns hwin htype hstate hunsent hfree).trans
      ((if_neg fun h => ?_).trans (if_pos ⟨hfirst, hagain⟩))
    exact ne_false_of_eq_true hsecond h.2
  case first =>
    intro id data u hmode hloud hon hbusy hid hlen hbyte hfed d
    have htakes := State.takesHostFrame_of_open hmode hloud hon hfed hid hlen
    have hd : (u.host.inTime t).drop = d := apply_ite HostSt.drop ..
    rw [execHostPortFrame_of_first rfl htakes (by rw [hbyte]) (by rw [hbyte]) hbusy, hbyte, ← hd]
    rfl
  case single =>
    intro id data u hmode hloud hon hbusy hid hlen hbyte hfed hidle
    have htakes := State.takesHostFrame_of_open hmode hloud hon hfed hid hlen
    rw [execHostPortFrame_of_first rfl htakes (by rw [hbyte]; decide) (by rw [hbyte]) hbusy, hbyte, HostSt.inTime_of_idle hidle,
      HostSt.drop_of_idle hidle]
    rfl
  case next =>
    intro id data u hmode hloud hon hintime hid hlen hbyte hfed hbegun hmore
    exact execHostPortFrame_of_next rfl (State.takesHostFrame_of_open hmode hloud hon hfed hid hlen) hintime hbyte hbegun hmore
  case timeout => exact fun hpart hlate => if_pos ⟨hpart, hlate⟩
  case recovery => exact fun bits hlong => congrArg Host.Outcome.next (if_pos hlong)
  case dominant => exact fun held hlong => if_pos hlong

end Sys2Proof.Machine

/-! The fault-tolerant midpoint (R310). After one value is dropped at each end of the sorted list, each end of what is left has a
correct value at it or just outside it: of two values of the list at most one is the faulty one. -/

namespace Sys2Proof.Machine

/-- The model's insertion is the library's, so its sorted list is insertion sort's. -/
theorem insertSorted_eq_orderedInsert (a : Int) (vs : List Int) : insertSorted a vs = vs.orderedInsert (· ≤ ·) a := by
  induction vs with
  | nil => rfl
  | cons b r ih => rw [insertSorted, List.orderedInsert_cons, ih]

theorem foldr_insertSorted_eq_insertionSort (vs : List Int) : vs.foldr insertSorted [] = vs.insertionSort (· ≤ ·) := by
  induction vs with
  | nil => rfl
  | cons a r ih => rw [List.foldr_cons, ih, insertSorted_eq_orderedInsert, List.insertionSort_cons]

/-- With something left between the two values dropped, the midpoint is that of the ends of what is left. -/
theorem midpoint_of_sorted {vs mid : List Int} {x z : Int} (hsort : vs.insertionSort (· ≤ ·) = x :: (mid ++ [z])) (hmid : mid ≠ []) :
    midpoint vs true = some (((mid.head hmid + mid.getLast hmid : Int) : Rat) / 2) := by
  have hlong : 3 ≤ (x :: (mid ++ [z])).length := by
    have hpos : 0 < mid.length := List.length_pos_iff.mpr hmid
    simp only [List.length_cons, List.length_append, List.length_nil]
    omega
  simp only [midpoint, foldr_insertSorted_eq_insertionSort, hsort, hlong, decide_true, Bool.and_self, if_true, List.drop_one,
    List.tail_cons, List.dropLast_concat, List.head?_eq_some_head hmid, List.getLast?_eq_some_getLast hmid]

/-- Of two values among the correct ones and a faulty one at most one is the faulty one. -/
theorem mem_good_of_pair {p q bad : Int} {good : List Int} (h : [p, q].Subperm (bad :: good)) : p ∈ good ∨ q ∈ good := by
  by_cases hp : p = bad
  · subst hp
    exact .inr (List.singleton_subperm_iff.mp ((List.subperm_cons p).mp h))
  · exact .inl ((List.mem_cons.mp (h.subset List.mem_cons_self)).resolve_left hp)

/-- A list of three or more is its two ends with something between them. -/
theorem exists_ends_of_three_le {v : List Int} (h : 3 ≤ v.length) : ∃ x mid z, v = x :: (mid ++ [z]) ∧ mid ≠ [] := by
  match v, h with
  | x :: y :: r, h =>
    have hrest : y :: r ≠ [] := List.cons_ne_nil y r
    refine ⟨x, (y :: r).dropLast, (y :: r).getLast hrest, by rw [List.dropLast_append_getLast], fun hnil => ?_⟩
    have hlen := congrArg List.length hnil
    simp only [List.length_dropLast, List.length_cons, List.length_nil] at hlen h
    omega

/-- Settles O56: a correct value at or below the lower end of what is left, and one at or above its upper end. -/
theorem oneFaultySourceCannotMoveTheMidpoint : Obligations.OneFaultySourceCannotMoveTheMidpoint := by
  intro good vs bad hperm htwo _
  have hall : (vs.insertionSort (· ≤ ·)).Perm (bad :: good) := (List.perm_insertionSort _ vs).trans hperm
  have hlen : 3 ≤ (vs.insertionSort (· ≤ ·)).length := by
    rw [hall.length_eq, List.length_cons]
    omega
  have hordered := List.pairwise_insertionSort (· ≤ ·) vs
  obtain ⟨x, mid, z, hsort, hmid⟩ := exists_ends_of_three_le hlen
  rw [hsort] at hall hordered
  obtain ⟨hx, hrest⟩ := List.pairwise_cons.mp hordered
  obtain ⟨hsorted, -, hz⟩ := List.pairwise_append.mp hrest
  have ha : mid.head hmid ∈ mid := List.head_mem hmid
  have hb : mid.getLast hmid ∈ mid := List.getLast_mem hmid
  have hxa : x ≤ mid.head hmid := hx _ (List.mem_append_left _ ha)
  have hbz : mid.getLast hmid ≤ z := hz _ hb _ (List.mem_singleton_self z)
  have hab : mid.head hmid ≤ mid.getLast hmid := hsorted.rel_getLast ha
  have hlow : ∃ lo ∈ good, lo ≤ mid.head hmid := by
    have hpair : [x, mid.head hmid].Sublist (x :: (mid ++ [z])) :=
      (List.singleton_sublist.mpr (List.mem_append_left _ ha)).cons_cons x
    rcases mem_good_of_pair (hpair.subperm.trans hall.subperm) with h | h
    · exact ⟨x, h, hxa⟩
    · exact ⟨_, h, le_rfl⟩
  have hhigh : ∃ hi ∈ good, mid.getLast hmid ≤ hi := by
    have hpair : [mid.getLast hmid, z].Sublist (x :: (mid ++ [z])) :=
      ((List.singleton_sublist.mpr hb).append (List.Sublist.refl [z])).cons x
    rcases mem_good_of_pair (hpair.subperm.trans hall.subperm) with h | h
    · exact ⟨_, h, le_rfl⟩
    · exact ⟨z, h, hbz⟩
  obtain ⟨lo, hlo, hloa⟩ := hlow
  obtain ⟨hi, hhi, hbhi⟩ := hhigh
  refine ⟨_, midpoint_of_sorted hsort hmid, ⟨lo, hlo, ?_⟩, hi, hhi, ?_⟩
  · rw [le_div_iff₀ two_pos]
    exact_mod_cast (by omega : lo * 2 ≤ mid.head hmid + mid.getLast hmid)
  · rw [div_le_iff₀ two_pos]
    exact_mod_cast (by omega : mid.head hmid + mid.getLast hmid ≤ hi * 2)

end Sys2Proof.Machine

/-! The Meridian and the Shutter (R307, R310, R312 to R315, R321 to R323). That a correction is clamped on both sides, and that it is
rounded to whole ns, is the model's choice. -/

namespace Sys2Proof.Machine

/-- A Joining or Integrated channel whose K has been measured measures it no more (R315). -/
theorem ChanSt.not_measures {k : ChanSt} (hstate : k.state = 2 ∨ k.state = 3) (hticks : k.kTicks ≠ 0) :
    ¬(k.state = 1 ∨ k.kTicks = 0) := by
  rcases hstate with h | h <;> simp [h, hticks]

/-- Two changes in turn, each where a flag is down, are both made or neither. -/
theorem ite_not_twice {α : Type} (b : Bool) (x : α) (f g : α → α) :
    (if (!b) = true then g (if (!b) = true then f x else x) else if (!b) = true then f x else x) =
      if b = true then x else g (f x) := by
  cases b <;> rfl

/-- Settles O26: the branch of each event. -/
theorem meridianEventsComplete : Obligations.MeridianEventsComplete := by
  intro s t n c
  refine ⟨?offset, ?rate, ?measured, ?aligned, ?closed, ?holdover, ?listen, ?passive, ?item, ?skew⟩
  case offset =>
    intro u hruns limit x kept peers raw c remain y far v
    have hcount : (if (!kept.isEmpty) = true then 0 else y.noSource + 1) = if kept.isEmpty = true then y.noSource + 1 else 0 := by
      cases kept.isEmpty <;> rfl
    refine (if_neg (LaneSt.not_netStops hruns)).trans (congrArg Host.Outcome.next ((if_congr decide_eq_true_iff rfl rfl).trans ?_))
    simp only [v, ← hcount]
    rfl
  case rate =>
    intro u hruns limit r y k v
    exact if_neg (LaneSt.not_netStops hruns)
  case measured =>
    intro k high u hruns hlisten
    exact (if_neg (LaneSt.not_netStops hruns)).trans (if_pos hlisten)
  case aligned =>
    intro k high u hruns hstate hticks hnear
    exact (if_neg (LaneSt.not_netStops hruns)).trans
      ((if_neg (ChanSt.not_measures hstate hticks)).trans ((if_pos hstate).trans (if_pos hnear)))
  case closed =>
    intro k high u hruns hstate hticks hfar
    exact (if_neg (LaneSt.not_netStops hruns)).trans
      ((if_neg (ChanSt.not_measures hstate hticks)).trans ((if_pos hstate).trans (if_neg (not_le.mpr hfar))))
  case holdover => exact fun hruns hlong => congrArg Host.Outcome.next (if_pos ⟨hruns, hlong⟩)
  case listen =>
    intro d ds u hruns hstate hsync htaken hfirst
    refine (if_neg (LaneSt.not_netStops hruns)).trans ((if_pos ⟨hstate, hsync, htaken⟩).trans ?_)
    simp only [u] at hfirst
    simp only [hfirst]
    rfl
  case passive =>
    intro d u hruns hstate hbig hmode hmid
    have hother : ¬(((u.lane n).net.chan c).state = 1 ∧ (u.lane n).time.synced = false ∧ (u.lane n).time.taken = false) := by
      simp [hstate]
    refine (if_neg (LaneSt.not_netStops hruns)).trans ((if_neg hother).trans ((if_pos ⟨hstate, hbig, hmode⟩).trans ?_))
    simp only [u] at hmid
    simp only [hmid]
    rfl
  case item =>
    intro src dst synced integ reading u hne hreset b hnext v hruns flags hsync delay d wide w z
    refine congrArg Host.Outcome.next ((State.onItem_of_next _ hne hreset hnext).trans
      ((if_neg (LaneSt.not_netStops hruns)).trans ((if_neg (ne_false_of_eq_true hsync)).trans ?_)))
    refine if_congr Iff.rfl rfl ?_
    exact congrArg (State.reviewSync · dst) (congrArg (State.onLane · dst _) (ite_not_twice _ w (State.stepTime · dst 2 (-d))
      (State.onLink · src dst _)))
  case skew =>
    intro a b i j u hruns hint hlo hhi hskewlo hskewhi hagree
    simp only [u] at hlo hhi
    simp only [exec, execPeerSkew, hlo, hhi]
    exact if_pos ⟨hruns, hint, trivial, trivial, hskewlo, hskewhi, hagree⟩

end Sys2Proof.Machine

/-! SYNC_HOLDOVER (R313). A channel that goes Passive leaves the Meridian's rate, the count of cycles without a source value and the
other channel. That go-passive is for the Joining and Integrated channels is the model's choice. -/

namespace Sys2Proof.Machine

theorem NetSt.onChan_chan_ne (x : NetSt) {c d : Chan} (f : ChanSt → ChanSt) (h : d ≠ c) : (x.onChan c f).chan d = x.chan d := by
  cases c with
  | x => cases d with
    | x => exact absurd rfl h
    | y => rfl
  | y => cases d with
    | x => rfl
    | y => exact absurd rfl h

/-- Lane l' has the rate, the count of cycles without a source value and the channels of l. -/
def LaneSt.SameNetwork (l l' : LaneSt) : Prop :=
  l'.time.rate = l.time.rate ∧ l'.time.noSource = l.time.noSource ∧ ∀ c, l'.net.chan c = l.net.chan c

theorem LaneSt.SameNetwork.refl (l : LaneSt) : l.SameNetwork l := ⟨rfl, rfl, fun _ => rfl⟩

theorem LaneSt.SameNetwork.trans {a b c : LaneSt} (hab : a.SameNetwork b) (hbc : b.SameNetwork c) : a.SameNetwork c := by
  obtain ⟨hrate, hcount, hchan⟩ := hab
  obtain ⟨hrate', hcount', hchan'⟩ := hbc
  exact ⟨hrate'.trans hrate, hcount'.trans hcount, fun d => (hchan' d).trans (hchan d)⟩

theorem LaneSt.write_sameNetwork (l : LaneSt) (n : Lane) (m : Mode) (t : Nat) (e : LogEv) : l.SameNetwork (l.write n m t e) := by
  unfold LaneSt.write
  split
  · exact .refl l
  · split <;> exact .refl l

theorem State.log_sameNetwork (s : State) (n : Lane) (code : Half) (addr : Word) (ctx : Dword) :
    (s.lane n).SameNetwork ((s.log n code addr ctx).lane n) := by
  unfold State.log
  rw [State.onLane_lane]
  exact LaneSt.write_sameNetwork ..

theorem State.endCable_lane (s : State) (n : Lane) : s.endCable.lane n = s.lane n := by
  unfold State.endCable
  split
  · exact State.with_meas_lane ..
  · rfl

theorem State.reviewSync_sameNetwork (s : State) (n : Lane) : (s.lane n).SameNetwork ((s.reviewSync n).lane n) := by
  unfold State.reviewSync
  rw [State.onLane_lane]
  exact ⟨rfl, rfl, fun c => by cases c <;> rfl⟩

theorem State.reviewRelay_sameNetwork (s : State) (n : Lane) : (s.lane n).SameNetwork ((s.reviewRelay n).lane n) := by
  simp only [State.reviewRelay]
  split
  · exact .refl _
  · refine LaneSt.SameNetwork.trans ?_ (State.log_sameNetwork ..)
    rw [State.onNet_lane]
    exact ⟨rfl, rfl, fun c => by cases c <;> rfl⟩

section
variable {s : State} {n : Lane}

/-- Go-passive leaves a channel that is neither Joining nor Integrated (R314). -/
theorem State.passiveChan_of_not_live {c : Chan} {reason : BitVec 3}
    (h : ¬(((s.lane n).net.chan c).state = 2 ∨ ((s.lane n).net.chan c).state = 3)) : s.passiveChan n c reason = s := if_neg h

/-- What a Joining or Integrated channel is once it goes Passive (R314). -/
def ChanSt.passive (k : ChanSt) (reason : BitVec 3) (now : Nat) : ChanSt :=
  { k with state := 4, reason := reason, agree := 0, big := 0, capsDue := false, away := if k.state = 3 then now else k.away }

/-- Go-passive of a Joining or Integrated channel changes, of its lane's channels, rate and count, that channel alone (R314). -/
theorem State.passiveChan_of_live {c : Chan} {reason : BitVec 3}
    (h : ((s.lane n).net.chan c).state = 2 ∨ ((s.lane n).net.chan c).state = 3) :
    ((s.onChan n c (·.passive reason s.now)).lane n).SameNetwork ((s.passiveChan n c reason).lane n) := by
  unfold State.passiveChan
  rw [if_pos h]
  refine LaneSt.SameNetwork.trans ?_ ((State.reviewSync_sameNetwork _ n).trans (State.reviewRelay_sameNetwork _ n))
  split
  · rw [State.endCable_lane]
    exact State.log_sameNetwork ..
  · exact State.log_sameNetwork ..

/-- Go-passive of a channel keeps the Meridian's rate and the count of cycles without a source value. -/
theorem State.passiveChan_time (s : State) (n : Lane) (c : Chan) (reason : BitVec 3) :
    ((s.passiveChan n c reason).lane n).time.rate = (s.lane n).time.rate ∧
      ((s.passiveChan n c reason).lane n).time.noSource = (s.lane n).time.noSource := by
  by_cases h : ((s.lane n).net.chan c).state = 2 ∨ ((s.lane n).net.chan c).state = 3
  · obtain ⟨hrate, hcount, -⟩ := State.passiveChan_of_live (reason := reason) h
    rw [hrate, hcount, State.onChan_lane]
    exact ⟨rfl, rfl⟩
  · rw [State.passiveChan_of_not_live h]
    exact ⟨rfl, rfl⟩

/-- A Joining or Integrated channel that goes Passive has the reason (R314). -/
theorem State.passiveChan_chan {c : Chan} {reason : BitVec 3}
    (h : ((s.lane n).net.chan c).state = 2 ∨ ((s.lane n).net.chan c).state = 3) :
    ((s.passiveChan n c reason).lane n).net.chan c = ((s.lane n).net.chan c).passive reason s.now := by
  obtain ⟨-, -, hchan⟩ := State.passiveChan_of_live (reason := reason) h
  rw [hchan, State.onChan_lane, NetSt.onChan_chan]

/-- Go-passive of a channel leaves the other. -/
theorem State.passiveChan_chan_ne (s : State) (n : Lane) (reason : BitVec 3) {c d : Chan} (hne : d ≠ c) :
    ((s.passiveChan n c reason).lane n).net.chan d = (s.lane n).net.chan d := by
  by_cases h : ((s.lane n).net.chan c).state = 2 ∨ ((s.lane n).net.chan c).state = 3
  · obtain ⟨-, -, hchan⟩ := State.passiveChan_of_live (reason := reason) h
    rw [hchan, State.onChan_lane, NetSt.onChan_chan_ne _ _ hne]
  · rw [State.passiveChan_of_not_live h]

/-- A lane that goes Passive keeps the Meridian's rate and the count of cycles without a source value. -/
theorem State.passiveLane_time (s : State) (n : Lane) (reason : BitVec 3) :
    ((s.passiveLane n reason).lane n).time.rate = (s.lane n).time.rate ∧
      ((s.passiveLane n reason).lane n).time.noSource = (s.lane n).time.noSource := by
  obtain ⟨hrate, hcount⟩ := s.passiveChan_time n .x reason
  obtain ⟨hrate', hcount'⟩ := (s.passiveChan n .x reason).passiveChan_time n .y reason
  exact ⟨hrate'.trans hrate, hcount'.trans hcount⟩

/-- What follows the change of the Meridian in an offset correction keeps its rate and the count of cycles without a source value. -/
theorem State.reviewed_time {p : Prop} [Decidable p] {reason : BitVec 3} {r : Rat} {k : Nat} (hrate : (s.lane n).time.rate = r)
    (hcount : (s.lane n).time.noSource = k) :
    ((if p then (s.reviewSync n).passiveLane n reason else s.reviewSync n).lane n).time.rate = r ∧
      ((if p then (s.reviewSync n).passiveLane n reason else s.reviewSync n).lane n).time.noSource = k := by
  obtain ⟨hrate', hcount', -⟩ := s.reviewSync_sameNetwork n
  split
  · obtain ⟨hrate'', hcount''⟩ := (s.reviewSync n).passiveLane_time n reason
    exact ⟨hrate''.trans (hrate'.trans hrate), hcount''.trans (hcount'.trans hcount)⟩
  · exact ⟨hrate'.trans hrate, hcount'.trans hcount⟩

/-- Every Joining or Integrated channel of a lane that goes Passive is Passive with the reason (R314). -/
theorem State.passiveLane_chan {c : Chan} {reason : BitVec 3}
    (h : ((s.lane n).net.chan c).state = 2 ∨ ((s.lane n).net.chan c).state = 3) :
    (((s.passiveLane n reason).lane n).net.chan c).state = 4 ∧ (((s.passiveLane n reason).lane n).net.chan c).reason = reason := by
  unfold State.passiveLane
  cases c with
  | x =>
    rw [State.passiveChan_chan_ne _ _ _ (by decide), State.passiveChan_chan h]
    exact ⟨rfl, rfl⟩
  | y =>
    have hother : ((s.passiveChan n .x reason).lane n).net.chan .y = (s.lane n).net.chan .y :=
      s.passiveChan_chan_ne n reason (by decide)
    rw [State.passiveChan_chan (by rwa [hother])]
    exact ⟨rfl, rfl⟩

end

/-- No value is left of a list of values exactly where every one is missing. -/
theorem filterMap_id_isEmpty (vs : List (Option Int)) : (vs.filterMap id).isEmpty = vs.all (·.isNone) := by
  induction vs with
  | nil => rfl
  | cons v r ih => cases v <;> simp [← ih]

/-- Settles O51: the offset correction as MeridianEventsComplete gives it, and the two branches of the check. -/
theorem syncHoldoverRunsThenGoesPassive : Obligations.SyncHoldoverRunsThenGoesPassive := by
  intro s t n hruns
  have hlane : (s.at_ t).lane n = s.lane n := State.at_lane ..
  refine ⟨?correction, ?below, ?reached⟩
  case correction =>
    obtain ⟨hoffset, -⟩ := meridianEventsComplete s t n .x
    refine ⟨_, hoffset (by rwa [hlane]), State.reviewed_time ?_ ?_⟩
    · rw [State.onLane_lane, hlane]
      rfl
    · rw [State.onLane_lane, hlane, filterMap_id_isEmpty]
      rfl
  case below =>
    intro hfew
    refine congrArg Host.Outcome.next (if_neg ?_)
    rw [hlane]
    exact fun ⟨_, hreached⟩ => absurd hfew (Nat.not_lt.mpr hreached)
  case reached =>
    intro hreached
    refine ⟨(s.at_ t).passiveLane n 4, congrArg Host.Outcome.next (if_pos ?_), ?_, fun c hstate => State.passiveLane_chan ?_⟩
    · rw [hlane]
      exact ⟨hruns, hreached⟩
    · obtain ⟨hrate, -⟩ := (s.at_ t).passiveLane_time n 4
      rw [hrate, hlane]
    · rwa [hlane]

end Sys2Proof.Machine

/-! A packet on the wire and the reading of it (R327 to R331, R335, R342). The 16 bytes of the header stand at fixed offsets, so each
field is read back at its own; the CRC and the MAC stand behind the parameters, at offsets the header's length field gives. -/

namespace Sys2Proof.Machine

/-- A value laid out in as many bytes as it has is read back whole (R9). -/
theorem rd_beBytes_toNat (k : Nat) (x : BitVec (8 * k)) (t : List Byte) : rd (beBytes k x.toNat ++ t) 0 k = x.toNat :=
  rd_beBytes _ _ _ (by simpa [pow_mul] using x.isLt)

/-- Behind the first of two parts the second is read. -/
theorem rd_append_length_add {a b : List Byte} {k : Nat} (ha : a.length = k) (off n : Nat) : rd (a ++ b) (k + off) n = rd b off n := by
  rw [rd_append_right _ _ _ _ (by omega), ← ha, Nat.add_sub_cancel_left]

theorem rd_append_length {a b : List Byte} {k : Nat} (ha : a.length = k) (n : Nat) : rd (a ++ b) k n = rd b 0 n :=
  rd_append_length_add ha 0 n

theorem beNat_lt (b : List Byte) : beNat b < 256 ^ b.length := by
  induction b using List.reverseRecOn with
  | nil => simp [beNat]
  | append_singleton b x ih =>
    have hx : beNat [x] < 256 := by
      rw [show beNat [x] = x.toNat from Nat.zero_add _]
      exact x.isLt
    rw [beNat_append, List.length_append, List.length_singleton, pow_succ _ b.length]
    omega

/-- A field of n bytes is a number below 256^n. -/
theorem rd_lt (b : List Byte) (off n : Nat) : rd b off n < 256 ^ n :=
  (beNat_lt _).trans_le (Nat.pow_le_pow_right (by decide) (List.length_take_le ..))

end Sys2Proof.Machine

namespace Sys2Proof
open Machine

/-- The 16 header bytes of a request's packet (R327). -/
def Req.header (r : Req) (op : Half) : List Byte :=
  r.verMajor :: r.verMinor :: r.flags :: (beBytes 2 op.toNat ++ (beBytes 2 r.seq.toNat ++ (r.target ::
    (beBytes 2 r.epoch.toNat ++ (beBytes 2 r.params.length ++ (beBytes 2 r.session.toNat ++ beBytes 2 r.reserved.toNat))))))

/-- What the CRC of a packet covers (R330). -/
def Req.covered (r : Req) (op : Half) : List Byte := r.header op ++ r.params

/-- The MAC bytes behind a packet's CRC (R331). -/
def Req.macBytes (r : Req) : List Byte :=
  match r.mac with
  | some m => beBytes 8 m.toNat
  | none => []

section
variable (r : Req) (op : Half) (rest : List Byte)

theorem Req.header_length : (r.header op).length = 16 := by
  simp [Req.header, beBytes_length]

theorem Req.covered_length : (r.covered op).length = 16 + r.params.length := by
  rw [Req.covered, List.length_append, Req.header_length]

/-- A packet followed by any bytes: what the CRC covers, the CRC, the MAC (R327, R330, R331). -/
theorem Req.wire_append :
    r.wire op ++ rest = r.covered op ++ (beBytes 4 (crc32c (r.covered op)).toNat ++ (r.macBytes ++ rest)) := by
  have hcovered : packetBytes r.verMajor.toNat r.verMinor.toNat r.flags.toNat op r.seq r.target r.epoch r.session r.reserved r.params =
      r.covered op := by
    simp [packetBytes, Req.covered, Req.header]
  unfold Req.wire Req.bytes withCrc
  rw [hcovered]
  simp only [List.append_assoc]
  rfl

/-- Each header field is read back at its offset (R327). -/
theorem Req.rd_header (t : List Byte) :
    rd (r.header op ++ t) 0 1 = r.verMajor.toNat ∧ rd (r.header op ++ t) 1 1 = r.verMinor.toNat ∧
    rd (r.header op ++ t) 2 1 = r.flags.toNat ∧ rd (r.header op ++ t) 3 2 = op.toNat ∧
    rd (r.header op ++ t) 5 2 = r.seq.toNat ∧ rd (r.header op ++ t) 7 1 = r.target.toNat ∧
    rd (r.header op ++ t) 8 2 = r.epoch.toNat ∧
    (r.params.length < 65536 → rd (r.header op ++ t) 10 2 = r.params.length) ∧
    rd (r.header op ++ t) 12 2 = r.session.toNat ∧ rd (r.header op ++ t) 14 2 = r.reserved.toNat := by
  have hcons : ∀ (b : Byte) (l : List Byte) (off n : Nat), rd (b :: l) (off + 1) n = rd l off n := fun _ _ _ _ => rfl
  have hskip : ∀ (x off n : Nat) (l : List Byte), rd (beBytes 2 x ++ l) (off + 2) n = rd l off n := by
    intro x off n l
    rw [Nat.add_comm]
    exact rd_append_length_add (beBytes_length 2 x) off n
  simp only [Req.header, List.cons_append, List.append_assoc, hcons, hskip, rd_zero_one_cons, rd_beBytes_toNat 2, true_and]
  exact ⟨fun h => rd_beBytes _ _ _ h, trivial⟩

theorem Req.wire_append_header : ∃ t, r.wire op ++ rest = r.header op ++ t :=
  ⟨_, (Req.wire_append r op rest).trans (List.append_assoc ..)⟩

theorem Req.wire_length : (r.wire op).length = 20 + r.params.length + r.macBytes.length := by
  rw [← List.append_nil (r.wire op), Req.wire_append]
  simp only [List.length_append, Req.covered_length, beBytes_length, List.length_nil]
  omega

theorem Req.take_wire_covered : (r.wire op ++ rest).take (16 + r.params.length) = r.covered op := by
  rw [Req.wire_append, List.take_left' (Req.covered_length r op)]

theorem Req.wire_params : ((r.wire op ++ rest).drop 16).take r.params.length = r.params := by
  rw [Req.wire_append, Req.covered, List.append_assoc, List.drop_left' (Req.header_length r op), List.take_left]

theorem Req.rd_wire_crc : rd (r.wire op ++ rest) (16 + r.params.length) 4 = (crc32c (r.covered op)).toNat := by
  rw [Req.wire_append, rd_append_length (Req.covered_length r op), rd_beBytes_toNat 4]

theorem Req.rd_wire_mac : rd (r.wire op ++ rest) (20 + r.params.length) 8 = rd (r.macBytes ++ rest) 0 8 := by
  rw [Req.wire_append, show 20 + r.params.length = 16 + r.params.length + 4 by omega, rd_append_length_add (Req.covered_length r op),
    rd_append_length (beBytes_length 4 _)]

theorem Req.drop_wire : (r.wire op ++ rest).drop (20 + r.params.length + r.macBytes.length) = rest :=
  List.drop_left' (Req.wire_length r op)

/-- The MAC bytes give the MAC (R331). -/
theorem Req.mac_of_macBytes :
    (if r.macBytes.length = 8 then some (BitVec.ofNat 64 (rd (r.macBytes ++ rest) 0 8)) else none) = r.mac := by
  unfold Req.macBytes
  cases r.mac with
  | none => rfl
  | some m => simp [beBytes_length, rd_beBytes_toNat 8 m]

/-- A packet begins with its header, so it is not empty. -/
theorem Req.wire_append_isEmpty : (r.wire op ++ rest).isEmpty = false := by
  rw [List.isEmpty_eq_false_iff_exists_mem]
  obtain ⟨t, ht⟩ := Req.wire_append_header r op rest
  exact ⟨r.verMajor, by simp [ht, Req.header]⟩

end

/-- A well-formed request has room for its parameters, and MAC bytes exactly where its flag says so (R327, R328). -/
theorem Req.wf_bounds {r : Req} (hwf : r.wf = true) :
    r.params.length ≤ 1372 ∧ (if r.flags.getLsbD 6 then 8 else 0) = r.macBytes.length := by
  obtain ⟨hlen, hflag⟩ := Bool.and_eq_true_iff.mp hwf
  refine ⟨of_decide_eq_true hlen, ?_⟩
  rw [← eq_of_beq hflag]
  unfold Req.macBytes
  cases r.mac with
  | none => rfl
  | some m => exact (beBytes_length 8 _).symm

end Sys2Proof

namespace Sys2Proof.Machine

/-- Settles O47: each header field is read at its offset, the CRC is that of the bytes before it, and the MAC follows the flag. -/
theorem everyPacketIsReadAsSent : Obligations.EveryPacketIsReadAsSent := by
  intro op r rest hwf
  obtain ⟨hmost, hmac⟩ := Req.wf_bounds hwf
  obtain ⟨t, ht⟩ := Req.wire_append_header r op rest
  obtain ⟨hmajor, hminor, hflags, hop, hseq, htarget, hepoch, hlength, hsession, hreserved⟩ := Req.rd_header r op t
  rw [← ht] at hmajor hminor hflags hop hseq htarget hepoch hlength hsession hreserved
  specialize hlength (by omega)
  have hfits : ¬((r.wire op ++ rest).length < 20 + r.params.length + r.macBytes.length ∨ 1372 < r.params.length) := by
    rw [List.length_append, Req.wire_length]
    omega
  unfold parsePacket
  simp only [hmajor, hminor, hflags, hop, hseq, htarget, hepoch, hlength, hsession, hreserved, BitVec.ofNat_toNat, BitVec.setWidth_eq,
    hmac, Req.wire_params, Req.take_wire_covered, Req.rd_wire_crc, Req.rd_wire_mac, Req.mac_of_macBytes, Req.drop_wire, if_neg hfits,
    ne_eq, not_true_eq_false, if_false]

/-- Settles O48: the front packet is read as sent, and the rest of the block is the packets behind it. -/
theorem everyPacketOfABlockIsReadInOrder : Obligations.EveryPacketOfABlockIsReadInOrder := by
  intro t c qs k hqs hk
  induction qs generalizing k with
  | nil => cases k <;> rfl
  | cons q qs ih =>
    obtain ⟨op, r⟩ := q
    obtain ⟨⟨hwf, rfl, rfl⟩, hrest⟩ := List.forall_mem_cons.mp hqs
    obtain ⟨k, rfl⟩ := Nat.exists_eq_add_of_le' (Nat.succ_le_of_lt (Nat.lt_of_lt_of_le (Nat.succ_pos _) hk))
    have hfront := everyPacketIsReadAsSent op r (qs.flatMap fun q => q.2.wire q.1) hwf
    rw [List.flatMap_cons]
    simp only [parseBlock, Req.wire_append_isEmpty, hfront, Bool.false_eq_true, if_false, List.map_cons]
    rw [ih k hrest (Nat.le_of_succ_le_succ hk)]
    rfl

/-- Settles O49: the nine bytes folded, bit step by bit step. -/
theorem crcCheckValue : Obligations.CrcCheckValue := by
  simp [Obligations.CrcCheckValue, crc32c, crcByte, crcBit]

end Sys2Proof.Machine

/-! What every command answers, and what no step takes back (R335, R413, R429, R430, R436, R437, R449, R451). -/

namespace Sys2Proof.Machine

/-- Settles O35: what every command keeps includes the queue and, from the command's instant on, the clock. -/
theorem everyCommandAnswersANextState : Obligations.EveryCommandAnswersANextState := by
  intro i s
  obtain ⟨t, hnext, hkeep⟩ := exec_keep i s
  exact ⟨t, hnext, hkeep.pending, hkeep.now⟩

theorem Keep.oneWay {kc kw : Bool} {s t : State} (h : Keep kc kw s t) : s.OneWay t := fun n => (h.lane n).oneWay

/-- Settles O38: an idle step changes nothing, and the front command keeps what is one-way. -/
theorem nothingOneWayIsTakenBack : Obligations.NothingOneWayIsTakenBack := by
  intro s t hstep n
  unfold step at hstep
  split at hstep
  case h_1 =>
    cases hstep
    exact .refl _
  case h_2 c rest _ =>
    obtain ⟨u, hnext, hkeep⟩ := exec_keep c { s with pending := rest }
    obtain rfl : u = t := Host.Outcome.next.inj (hnext.symm.trans hstep)
    have hlane := hkeep.oneWay n
    rwa [State.at_lane, State.with_pending_lane] at hlane

end Sys2Proof.Machine

/-! Versions, the checks of orders 3 to 12 and what a request does that fails one of them (R99, R334 to R336, R339). -/

namespace Sys2Proof.Machine

theorem LaneSt.check_eq_some {l : LaneSt} {md : Mode} {op : Half} {r : Req} {e : Byte × Word} (h : l.check md op r = some e) :
    l.orders3to7 op r = some e ∨ l.orders8to12 md op r = some e :=
  (Option.or_eq_some_iff.mp h).imp_right And.right

/-- Past order 3 the statuses of orders 4 to 7 are left. -/
theorem LaneSt.orders3to7_status {l : LaneSt} {op : Half} {r : Req} {e : Byte × Word} (hmajor : r.verMajor = 2 ∨ r.verMajor = 3)
    (h : l.orders3to7 op r = some e) : e.1 ∈ [0x12, 0x14, (0x15 : Byte)] := by
  have hknown : ¬(r.verMajor ≠ 2 ∧ r.verMajor ≠ 3) := fun ⟨h2, h3⟩ => hmajor.elim h2 h3
  simp only [LaneSt.orders3to7, if_neg hknown] at h
  repeat' split at h
  all_goals cases h
  all_goals simp

/-- The statuses of orders 8 to 12. -/
theorem LaneSt.orders8to12_status {l : LaneSt} {md : Mode} {op : Half} {r : Req} {e : Byte × Word}
    (h : l.orders8to12 md op r = some e) : e.1 ∈ [0x10, 0x11, 0x13, 0x14, (0x17 : Byte)] := by
  unfold LaneSt.orders8to12 at h
  dsimp only at h
  repeat' split at h
  all_goals cases h
  all_goals simp

theorem LaneSt.check_of_unknownMajor {l : LaneSt} {md : Mode} {op : Half} {r : Req} (h : r.verMajor ≠ 2 ∧ r.verMajor ≠ 3) :
    l.check md op r = some (0x16, op.setWidth 32) := by
  simp only [LaneSt.check, LaneSt.orders3to7, if_pos h, Option.some_or]

/-- A reply begins with the version of its header. -/
theorem LaneSt.replyBytes_take_two (l : LaneSt) (n : Lane) (op : Half) (r : Req) (st : Byte) (tail : List Byte) :
    (l.replyBytes n op r st tail).take 2 = [BitVec.ofNat 8 (replyVer r / 256), BitVec.ofNat 8 (replyVer r % 256)] := by
  unfold LaneSt.replyBytes
  dsimp only
  split <;> rfl

theorem replyVer_of_unknownMajor {r : Req} (h : r.verMajor ≠ 2 ∧ r.verMajor ≠ 3) : replyVer r = ver 2 0 :=
  if_neg (not_or.mpr h)

/-- The version a request is read in: its own, up to the highest minor version known of its major (R339, R340). -/
theorem readVer_of_major {r : Req} {major minor : Nat} (hmajor : r.verMajor.toNat = major) (hhigh : highestVer major = ver major minor) :
    r.readVer = major * 256 + min r.verMinor.toNat minor := by
  rw [Req.readVer, Req.ver, hmajor, hhigh]
  exact Nat.add_min_add_left ..

/-- Settles O54: order 3 stands first, no later order has its status, and each major has its highest minor version. -/
theorem majorVersionsTwoAndThreeAreAccepted : Obligations.MajorVersionsTwoAndThreeAreAccepted := by
  intro l md op r
  refine ⟨fun hother => ⟨LaneSt.check_of_unknownMajor hother, fun n st tail => ?_⟩, fun hmajor e he herr => ?_,
    fun h2 => readVer_of_major (by rw [h2]; rfl) rfl, fun h3 => readVer_of_major (by rw [h3]; rfl) rfl⟩
  · rw [LaneSt.replyBytes_take_two, replyVer_of_unknownMajor hother]
    rfl
  · have hstatus : e.1 ∈ [0x12, 0x14, (0x15 : Byte)] ++ [0x10, 0x11, 0x13, 0x14, 0x17] :=
      List.mem_append.mpr ((LaneSt.check_eq_some he).imp (LaneSt.orders3to7_status hmajor) LaneSt.orders8to12_status)
    rw [herr] at hstatus
    exact absurd hstatus (by decide)

/-- What the whole module makes of a request that fails a check at the answering lane (R99, R335). -/
theorem State.fcp_of_failed {s : State} {n : Lane} {op : Half} {r : Req} {peer : PeerPart} {e : Byte × Word} (hd : Handler)
    (hanswerer : (s.at_ r.at_).answerer r = some n) (htaken : takesIn (s.met op r peer).m.mode op r = true)
    (hcheck : ((s.met op r peer).lane n).check (s.met op r peer).m.mode op r = some e) :
    s.fcp op r hd peer =
      ((s.met op r peer).replyError n op r e.1 e.2).onLane n (fun l => l.noteRequest op r (s.met op r peer).now) := by
  simp only [State.fcp, hanswerer, State.fcpLane, htaken, and_self, if_true, State.fcpAnswer, State.answer, hcheck, State.reply]

theorem State.sendReply_m (s : State) (n : Lane) (c : Carriage) (okReply : Bool) (b : List Byte) :
    (s.sendReply n c okReply b).m = s.m := by
  cases c
  · exact State.onLane_m ..
  · rfl

theorem State.replyError_m (p : State) (n : Lane) (op : Half) (r : Req) (st : Byte) (addr : Word) :
    (p.replyError n op r st addr).m = p.m := by
  unfold State.replyError
  rw [State.onLane_m, State.sendReply_m]

/-- Every request of the opcode table is handled by the whole module; after FW_ACTIVATE the restart may follow (R335, R441). -/
theorem exec_of_asRequest {i : Instr} {op : Half} {r : Req} {h : Handler} {peer : PeerPart} (hi : i.asRequest = some (op, r, h, peer))
    (s : State) : exec i s = done (s.fcp op r h peer) ∨
      exec i s = done (if (s.fcp op r h peer).m.fwReq = true ∧ r.carriage = .host then (s.fcp op r h peer).restartModule
        else s.fcp op r h peer) := by
  cases i
  case fwActivate => cases hi; exact .inr rfl
  all_goals cases hi <;> exact .inl rfl

/-- Settles O44: the failing check is the answer, and its reply asks for no restart. -/
theorem aRefusedRequestOnlyAnswers : Obligations.ARefusedRequestOnlyAnswers := by
  intro i s n op r h peer e hi hanswerer p htaken hcheck hidle
  have hfcp := State.fcp_of_failed h hanswerer htaken hcheck
  have hrestart : ¬((s.fcp op r h peer).m.fwReq = true ∧ r.carriage = .host) := by
    rw [hfcp, State.onLane_m, State.replyError_m]
    exact fun ⟨hreq, _⟩ => Bool.false_ne_true (hidle.symm.trans hreq)
  have hexec : exec i s = done (s.fcp op r h peer) := by
    rcases exec_of_asRequest hi s with hplain | hactivate
    · exact hplain
    · rw [hactivate, if_neg hrestart]
  rw [hexec, hfcp]
  rfl

end Sys2Proof.Machine

/-! The host port outside Ready and Service (R344, R345). -/

namespace Sys2Proof.Machine

/-- Settles O60: the port takes frames in Ready and Service alone. -/
theorem theHostPortIsSilentWhenTheModuleRuns : Obligations.TheHostPortIsSilentWhenTheModuleRuns := by
  intro s t id fd data hready hservice
  have hmode : (s.m.mode == .ready || s.m.mode == .service) = false := by
    rw [Bool.or_eq_false_iff, beq_eq_false_iff_ne, beq_eq_false_iff_ne]
    exact ⟨hready, hservice⟩
  refine if_pos ?_
  show ((s.m.mode == .ready || s.m.mode == .service) && _ && _ && _ && _ && _ && _) = false
  simp only [hmode, Bool.false_and]

end Sys2Proof.Machine

/-! Capabilities, health, time, self-test and log requests (R341, R352, R363, R364, R387, R398). -/

namespace Sys2Proof.Machine

/-- A command that is a taken request and nothing else, and whose operation accepts it, answers the state that request ends in. -/
theorem State.Takes.done_eq {s : State} {n : Lane} {op : Half} {r : Req} {peer : PeerPart} {hd : Handler} {a : Answer}
    (h : s.Takes n op r peer) (ha : hd (s.met op r peer) n ((s.met op r peer).callAt n op r) = a) (hx : a.accepted) :
    done (s.fcp op r hd peer) = .next ((s.met op r peer).answered n op r a) :=
  congrArg Host.Outcome.next (h.fcp_eq ha hx)

/-- A list of tests that all pass finds no failure (R353). -/
theorem firstErr_eq_none {l : List (Bool × Byte × Word)} (h : ∀ x ∈ l, x.1 = false) : firstErr l = none := by
  rw [firstErr, List.find?_eq_none.mpr fun x hx => Bool.eq_false_iff.mp (h x hx)]
  rfl

section
variable {p : State} {n : Lane} {c : Call}

theorem handleCapsExchange_of_common (h : (capsAgreed c.p).1 ≠ 0) :
    handleCapsExchange p n c = .ok (p.capsPart n c (capsAgreed c.p).1 (capsAgreed c.p).2.1)
      (ownRanges ++ beBytes 2 (capsAgreed c.p).1 ++ beBytes 2 (capsAgreed c.p).2.1 ++ beBytes 2 (capsAgreed c.p).2.2) :=
  if_neg h

theorem handleHealthRead_of_known {b : List Byte} (h : p.healthOf n (rd c.p 0 2) = some b) :
    handleHealthRead p n c = p.piecewise n c (if ver 3 1 ≤ c.ver then rd c.p 2 2 else 0) b := by
  simp only [handleHealthRead, h]

theorem handleSelftestRun_of_passed (hsome : (BitVec.ofNat 16 (rd c.p 0 2) : Half) &&& 0x3F ≠ 0) (hsupply : p.serviceStopped = false)
    (hidle : p.meas.testOn = false) :
    handleSelftestRun p n c =
      .pending (p.beginTest (if c.r.target = 0 then p.actives else [n]) (BitVec.ofNat 16 (rd c.p 0 2) &&& 0x3F)) [] := by
  have htests : firstErr [((BitVec.ofNat 16 (rd c.p 0 2) : Half) &&& 0x3F == 0, 0x12, c.opAddr), (p.serviceStopped, 0x21, c.opAddr),
      (p.meas.testOn, 0x18, c.opAddr)] = none := by
    rw [firstErr_cons_of_passed (beq_eq_false_iff_ne.mpr hsome), firstErr_cons_of_passed hsupply, firstErr_cons_of_passed hidle]
    rfl
  simp only [handleSelftestRun, htests]

/-- The entries a LOG_READ answers, with the reads they take (R28, R97, R364). -/
theorem handleLogRead_of_read {b : List Byte} (hsome : 1 ≤ rd c.p 2 2) (hmost : rd c.p 2 2 ≤ 32)
    (hstart : rd c.p 0 2 < (p.lane n).log.length) (hsupply : p.serviceStopped = false) (hroom : 0 < (p.maxData n c.r.carriage - 4) / 32)
    {k : Nat} (hk : (((p.lane n).log.drop (rd c.p 0 2)).take (min (rd c.p 2 2) ((p.maxData n c.r.carriage - 4) / 32))).length = k)
    (hread : (p.readEntries n (rd c.p 0 2) k).2 = some b) :
    handleLogRead p n c =
      .ok (p.readEntries n (rd c.p 0 2) k).1 (beBytes 2 (p.lane n).log.length ++ beBytes 2 k ++ b) := by
  subst hk
  have hcount : ¬(rd c.p 2 2 < 1 ∨ 32 < rd c.p 2 2) := by omega
  simp only [handleLogRead, if_neg hcount, if_neg (Nat.not_le.mpr hstart), hsupply, Bool.false_eq_true, if_false,
    if_neg (Nat.ne_of_gt hroom), hread]

theorem handleLogClear_of_scope (h : (BitVec.ofNat 8 (rd c.p 0 1) : Byte) &&& 7 ≠ 0) :
    handleLogClear p n c =
      .ok (p.clearLanes (if c.r.target = 0 then p.actives else [n]) (BitVec.ofNat 8 (rd c.p 0 1)) c.r.session) [] :=
  if_neg h

end

/-- Settles O5: each request's operation accepts it. -/
theorem recordAndSelftestRequestsComplete : Obligations.RecordAndSelftestRequestsComplete := by
  refine ⟨fun s n r => ⟨?caps, ?health, ?time, ?result⟩, fun s n r => ⟨?run, ?logRead, ?logClear⟩⟩
  case caps => exact fun htakes hcommon => htakes.done_eq (handleCapsExchange_of_common hcommon) trivial
  case health => exact fun b htakes hknown hpiece => htakes.done_eq (handleHealthRead_of_known hknown) (piecewise_accepted hpiece)
  case time => exact fun htakes hpiece => htakes.done_eq rfl (piecewise_accepted hpiece)
  case result => exact fun htakes hpiece => htakes.done_eq rfl (piecewise_accepted hpiece)
  case run => exact fun htakes hsome hsupply hidle => htakes.done_eq (handleSelftestRun_of_passed hsome hsupply hidle) trivial
  case logRead =>
    exact fun b htakes hsome hmost hstart hsupply hroom hread =>
      htakes.done_eq (handleLogRead_of_read hsome hmost hstart hsupply hroom rfl hread) trivial
  case logClear => exact fun htakes hscope => htakes.done_eq (handleLogClear_of_scope hscope) trivial

end Sys2Proof.Machine

/-! Sessions, attestation and key packages (R332, R352, R365, R366, R434, R446, R448 to R451). -/

namespace Sys2Proof.Machine

section
variable {p : State} {n : Lane} {c : Call}

/-- SESSION_OPEN's tests pass (R332, R365, R448). -/
theorem handleSessionOpen_of_passed (hlevel : rd c.p 0 1 ≤ 1) (hslot : rd c.p 1 1 ≤ 7)
    (hfilled : ((p.lane n).sec.slot (rd c.p 1 1)).filled = true)
    (hexpert : rd c.p 0 1 = 1 → ((p.lane n).sec.slot (rd c.p 1 1)).expert = true)
    (hmask : ((p.lane n).sec.slot (rd c.p 1 1)).mask.getLsbD (if c.r.carriage = .host then 1 else 0) = true)
    (hfew : (p.lane n).sec.sessions.length < 4) (hone : rd c.p 0 1 = 1 → (p.lane n).sec.sessions.any (·.expert) = false)
    {w : State} (hw : p.takeEffectIn n .sessionOpen = w) :
    handleSessionOpen p n c = .ok ((w.addSession n (w.newSession n c)).pushBoth n (sessionItemBytes true (w.newSession n c)))
      (beBytes 2 (w.newSession n c).num.toNat ++ [0, 0] ++ w.moduleNonce) := by
  subst hw
  have hknown : ¬(1 < rd c.p 0 1 ∨ 7 < rd c.p 1 1) := by omega
  have hlevelOk : ¬(((p.lane n).sec.slot (rd c.p 1 1)).filled = false ∨
      rd c.p 0 1 = 1 ∧ ((p.lane n).sec.slot (rd c.p 1 1)).expert = false) := by
    rintro (hempty | ⟨hwants, hbasic⟩)
    · exact Bool.false_ne_true (hempty.symm.trans hfilled)
    · exact Bool.false_ne_true (hbasic.symm.trans (hexpert hwants))
  have hcarriage : ¬((if (c.r.carriage == Carriage.host) = true then ((p.lane n).sec.slot (rd c.p 1 1)).mask.getLsbD 1
      else ((p.lane n).sec.slot (rd c.p 1 1)).mask.getLsbD 0) = false) := by
    rw [← apply_ite, Bool.not_eq_false]
    simpa only [beq_iff_eq] using hmask
  have hroom : ¬(4 ≤ (p.lane n).sec.sessions.length ∨ rd c.p 0 1 = 1 ∧ (p.lane n).sec.sessions.any (·.expert) = true) := by
    rintro (hfull | ⟨hwants, hother⟩)
    · omega
    · exact Bool.false_ne_true ((hone hwants).symm.trans hother)
  simp only [handleSessionOpen, if_neg hknown, if_neg hlevelOk, if_neg hcarriage, if_neg hroom]

/-- SESSION_CLOSE of the own session, or of another by an expert (R365). -/
theorem handleSessionClose_of_open {k : Half} (hk : (if rd c.p 0 2 = 0 then c.r.session else BitVec.ofNat 16 (rd c.p 0 2)) = k)
    (hmay : k = c.r.session ∨ c.expert = true) (hopen : (p.lane n).sec.session k ≠ none) :
    handleSessionClose p n c = .ok (p.closeSession n k) [] := by
  have hzero : (BitVec.ofNat 16 (rd c.p 0 2) : Half) = 0 ↔ rd c.p 0 2 = 0 := by
    have hlt : rd c.p 0 2 < 2 ^ 16 := rd_lt c.p 0 2
    rw [← BitVec.toNat_inj, BitVec.toNat_ofNat, Nat.mod_eq_of_lt hlt]
    rfl
  have hallowed : ¬(k ≠ c.r.session ∧ c.expert = false) := by
    rintro ⟨hother, hbasic⟩
    exact hmay.elim hother fun hexpert => Bool.false_ne_true (hbasic.symm.trans hexpert)
  simp only [handleSessionClose, hzero, hk, if_neg hallowed, if_neg hopen]

/-- ATTEST_CHALLENGE at offset 0, no report made in the last 100 ms (R446). -/
theorem handleAttest_of_first (hidentity : (p.lane n).sec.idBad = false) (hoff : rd c.p 32 2 = 0)
    (hlast : ∀ a, (p.lane n).sec.attestAt = some a → a + ms 100 ≤ p.now) :
    handleAttest p n c = .later (p.onSec n (fun x => { x with
      attest := p.attestReport n (c.p.take 32), attestAt := some p.now, attestReady := false, attestReq := some c.r })) := by
  simp only [handleAttest, hidentity, hoff, Bool.false_eq_true, if_false, if_true]
  cases hat : (p.lane n).sec.attestAt with
  | none => rfl
  | some a => exact if_neg (Nat.not_lt.mpr (hlast a hat))

/-- ATTEST_CHALLENGE at a later offset reads the report (R352, R446). -/
theorem handleAttest_of_later (hidentity : (p.lane n).sec.idBad = false) (hoff : rd c.p 32 2 ≠ 0) :
    handleAttest p n c = p.piecewise n c (rd c.p 32 2) (p.lane n).sec.attest := by
  simp only [handleAttest, hidentity, Bool.false_eq_true, if_false, if_neg hoff]

/-- A KEY_PROVISION segment within the bounds and in turn is kept, and the completing one ends the transfer (R366). -/
theorem handleKeyProvision_of_go {x : Xfer} (htotal : rd c.p 4 4 ≤ 16384) (hsome : 1 ≤ rd c.p 8 2) (hmost : rd c.p 8 2 ≤ 1024)
    (hturn : segStep p.m.keyX (some (rd c.p 4 4)) (rd c.p 0 4) ((c.p.drop 12).take (rd c.p 8 2)) = .go x) :
    handleKeyProvision p n c =
      if x.got.length < x.total then .ok (p.onM (fun m => { m with keyX := some x })) []
      else (p.onM (fun m => { m with keyX := none })).finishKeys n (x.got.take x.total) := by
  have hsize : ¬(16384 < rd c.p 4 4 ∨ rd c.p 8 2 < 1 ∨ 1024 < rd c.p 8 2) := by omega
  simp only [handleKeyProvision, if_neg hsize, hturn]

/-- A key package that passes R434 and R450 puts its keys into the lanes. -/
theorem State.finishKeys_of_keys {pkg : List Byte} (horders : (p.lane n).pkgOrders [4, 5] pkg = none) (hkind : pkgKind pkg = 4)
    (hbody : keyBodyBad (pkgBodyBytes pkg) = none) (hkeys : ∀ m ∈ p.actives, (Config.unwrapKeys m pkg).isSome = true) :
    p.finishKeys n pkg = .ok (p.putKeys n pkg) [] := by
  have hnone : p.actives.find? (fun m => (Config.unwrapKeys m pkg).isNone) = none := by
    refine List.find?_eq_none.mpr fun m hm => ?_
    rw [Option.isNone_iff_eq_none]
    exact Option.isSome_iff_ne_none.mp (hkeys m hm)
  simp only [State.finishKeys, horders, if_pos hkind, State.storeKeys, hbody, hnone]

/-- An owner enrolment that passes R434 and R451 fuses the owner. -/
theorem State.finishKeys_of_enrolment {pkg : List Byte} (horders : (p.lane n).pkgOrders [4, 5] pkg = none) (hkind : pkgKind pkg = 5)
    (hbody : enrolBad (p.lane n).sec (pkgBodyBytes pkg) = none) : p.finishKeys n pkg = .ok (p.fuseAll pkg) [] := by
  have hother : ¬pkgKind pkg = 4 := by omega
  simp only [State.finishKeys, horders, if_neg hother, State.enrol, hbody]

end

/-- Settles O6: each request's operation accepts it. -/
theorem sessionAndKeyRequestsComplete : Obligations.SessionAndKeyRequestsComplete := by
  refine ⟨fun s n r => ⟨?opened, ?closed, ?challenge, ?piece⟩, fun s n r x => ⟨?kept, ?keys, ?enrolment⟩⟩
  case opened =>
    exact fun htakes hlevel hslot hfilled hexpert hmask hfew hone =>
      htakes.done_eq (handleSessionOpen_of_passed hlevel hslot hfilled hexpert hmask hfew hone rfl) trivial
  case closed => exact fun htakes hmay hopen => htakes.done_eq (handleSessionClose_of_open rfl hmay hopen) trivial
  case challenge => exact fun htakes hidentity hoff hlast => htakes.done_eq (handleAttest_of_first hidentity hoff hlast) trivial
  case piece =>
    exact fun htakes hidentity hoff hpiece => htakes.done_eq (handleAttest_of_later hidentity hoff) (piecewise_accepted hpiece)
  case kept =>
    exact fun htakes htotal hsome hmost hturn hshort =>
      htakes.done_eq ((handleKeyProvision_of_go htotal hsome hmost hturn).trans (if_pos hshort)) trivial
  case keys =>
    exact fun htakes htotal hsome hmost hturn hwhole horders hkind hbody hkeys =>
      htakes.done_eq ((handleKeyProvision_of_go htotal hsome hmost hturn).trans
        ((if_neg (Nat.not_lt.mpr hwhole)).trans (State.finishKeys_of_keys horders hkind hbody hkeys))) trivial
  case enrolment =>
    exact fun htakes htotal hsome hmost hturn hwhole horders hkind hbody =>
      htakes.done_eq ((handleKeyProvision_of_go htotal hsome hmost hturn).trans
        ((if_neg (Nat.not_lt.mpr hwhole)).trans (State.finishKeys_of_enrolment horders hkind hbody))) trivial

/-- Settles O18: the branch of each event. -/
theorem sessionEventsComplete : Obligations.SessionEventsComplete := by
  intro s t n
  refine ⟨?opened, ?closed, ?idle, ?dropped, ?lapsed, ?report⟩
  case opened =>
    intro src dst c u hne hreset b hnext v hopens e
    exact congrArg Host.Outcome.next ((State.onItem_of_next _ hne hreset hnext).trans (if_pos hopens))
  case closed =>
    intro src dst c u hne hreset b hnext v hcloses
    exact congrArg Host.Outcome.next ((State.onItem_of_next _ hne hreset hnext).trans (if_neg hcloses))
  case idle =>
    intro num e u hsession hidle
    simp only [exec, execSessionIdleTimeout]
    rw [hsession]
    exact if_pos hidle
  case dropped =>
    intro num e k u hsession hcause
    simp only [exec, execSessionDropped]
    rw [hsession]
    dsimp only
    rw [hcause]
    rfl
  case lapsed => exact fun num => rfl
  case report =>
    intro r u hreq
    simp only [exec, execAttestReportDone]
    rw [hreq]
    rfl

end Sys2Proof.Machine

/-! The steering, brake and profile commands (R43, R76, R95, R241, R246, R353, R355, R356). -/

namespace Sys2Proof.Machine

/-- A motion command whose own tests pass is applied, or held where the module follows a twin Leader (R76, R353). -/
theorem motionHandler_of_passed {chk : MotionCheck} {p : State} {n : Lane} {c : Call} (eff : MotionEffect) (brake : Bool)
    (h : chk p n c = none) :
    motionHandler chk eff brake p n c = .ok (if p.twinFollows then p.holdCommand n c else p.applyMotion n c eff brake) [] := by
  simp only [motionHandler, h]

/-- PROFILE_LIMITS whose own tests pass (R241). -/
theorem handleProfileLimits_of_passed {p : State} {n : Lane} {c : Call} (h : chkProfileLimits p n c = none) :
    handleProfileLimits p n c = .ok (if p.twinFollows then p.holdCommand n c else p.applyLimits n c) [] := by
  simp only [handleProfileLimits, h]

/-- A taken motion command whose own tests pass (R353, R356). -/
theorem State.Takes.motion {s : State} {n : Lane} {op : Half} {r : Req} {chk : MotionCheck} {eff : MotionEffect} {brake : Bool}
    (h : s.Takes n op r (holdMotion chk)) {p : State} (hp : s.met op r (holdMotion chk) = p) (hchk : chk p n (p.callAt n op r) = none) :
    done (s.fcp op r (motionHandler chk eff brake) (holdMotion chk)) = .next (p.answered n op r
      (.ok (if p.twinFollows then p.holdCommand n (p.callAt n op r) else p.applyMotion n (p.callAt n op r) eff brake) [])) := by
  subst hp
  exact h.done_eq (motionHandler_of_passed eff brake hchk) trivial

/-- Settles O2: each command's own tests pass, and its effect is applied or held. -/
theorem motionCommandsComplete : Obligations.MotionCommandsComplete := by
  refine ⟨fun s n r => ⟨?steerAngle, ?steerTorque, ?steerMoveAt, ?steerHold⟩,
    fun s n r => ⟨?brakeForce, ?brakePosition, ?brakeRelease, ?parkApply, ?parkRelease⟩, fun s n r => ⟨?limits, ?vector⟩⟩
  case steerAngle => exact fun htakes hchk => htakes.motion rfl hchk
  case steerTorque => exact fun htakes hchk => htakes.motion rfl hchk
  case steerMoveAt => exact fun htakes hchk => htakes.motion rfl hchk
  case steerHold => exact fun htakes hchk => htakes.motion rfl hchk
  case brakeForce => exact fun htakes hchk => htakes.motion rfl hchk
  case brakePosition => exact fun htakes hchk => htakes.motion rfl hchk
  case brakeRelease => exact fun htakes hchk => htakes.motion rfl hchk
  case parkApply => exact fun htakes hchk => htakes.motion rfl hchk
  case parkRelease => exact fun htakes hchk => htakes.motion rfl hchk
  case limits => exact fun htakes hchk => htakes.done_eq (handleProfileLimits_of_passed hchk) trivial
  case vector => exact fun htakes hchk => htakes.motion rfl hchk

end Sys2Proof.Machine

/-! The parameter commands (R28, R352, R354, R358 to R361, R398). -/

namespace Sys2Proof.Machine

/-- No address of a range has a property that none of them has. -/
theorem firstAddr_eq_none {a len : Nat} {f : Nat → Bool} (h : ∀ i < len, f (a + i) = false) : firstAddr a len f = none := by
  refine List.find?_eq_none.mpr fun x hx => ?_
  obtain ⟨i, hi, rfl⟩ := List.mem_map.mp hx
  exact Bool.eq_false_iff.mp (h i (List.mem_range.mp hi))

section
variable {p : State} {n : Lane} {c : Call}

theorem handleParamRead_of_key {row : ParamRow} (hform : rd c.p 0 1 = 0) (hrow : paramRow (BitVec.ofNat 16 (rd c.p 2 2)) = some row) :
    handleParamRead p n c = .ok p ((p.lane n).par.keyReply row) := by
  simp only [handleParamRead, hform, if_true, hrow]

/-- A memory read of mapped bytes outside the key store, none of them uncorrectable (R28, R359, R398). -/
theorem handleParamRead_of_memory {b : List Byte} (hform : rd c.p 0 1 = 1) (hsome : 1 ≤ rd c.p 2 2) (hmost : rd c.p 2 2 ≤ 1024)
    (hrange : ∀ i < rd c.p 2 2, mapped (rd c.p 4 4 + i) = true ∧ inKeyStore (rd c.p 4 4 + i) = false)
    (hsupply : p.serviceStopped = false)
    (hread : (p.readBytes n (rd c.p 4 4) (min (rd c.p 2 2) (p.maxData n c.r.carriage - 4))).2 = some b) :
    handleParamRead p n c = .ok (p.readBytes n (rd c.p 4 4) (min (rd c.p 2 2) (p.maxData n c.r.carriage - 4))).1
      (beBytes 4 (rd c.p 4 4) ++ b) := by
  have hlength : ¬(rd c.p 2 2 < 1 ∨ 1024 < rd c.p 2 2) := by omega
  have hmapped : firstAddr (rd c.p 4 4) (rd c.p 2 2) (fun x => !mapped x) = none :=
    firstAddr_eq_none fun i hi => by rw [(hrange i hi).1]; rfl
  have houtside : firstAddr (rd c.p 4 4) (rd c.p 2 2) inKeyStore = none := firstAddr_eq_none fun i hi => (hrange i hi).2
  simp only [handleParamRead, hform, one_ne_zero, if_false, if_true, if_neg hlength, hmapped, houtside, hsupply, Bool.false_eq_true,
    hread]

theorem handleParamWrite_of_passed (hsome : 1 ≤ rd c.p 0 1) (hmost : rd c.p 0 1 ≤ 32)
    (hpairs : checkPairs p.m.mode c.expert [] (pairsOf c.p) = none) :
    handleParamWrite p n c = .ok (p.writePairs (pairsOf c.p)) [] := by
  have hcount : ¬(rd c.p 0 1 < 1 ∨ 32 < rd c.p 0 1) := by omega
  simp only [handleParamWrite, if_neg hcount, hpairs]

theorem handleParamCommit_of_passed (hrules : brokenRule (p.lane n).par = none) (hidle : p.m.commitDue = none) :
    handleParamCommit p n c = .later (p.beginCommit c.r) := by
  simp only [handleParamCommit, hrules, hidle, Option.isSome_none, Bool.false_eq_true, if_false]

end

/-- The completion of a commit that waits for its reply (R361). -/
theorem execParamCommitDone_of_due {s : State} {t : Nat} {r : Req} (hdue : (s.at_ t).m.commitDue = some r) {w : State}
    (hw : ((s.at_ t).onLanes (fun _ l => if l.par.commitAt.isSome then { l with par := l.par.commit } else l)).onM
      (fun m => { m with commitDue := none }) = w) :
    exec (.paramCommitDone t) s = .next (w.reply w.scribe 0x0503 r (.ok w [])) := by
  subst hw
  simp only [exec, execParamCommitDone, hdue]
  rfl

/-- Settles O3: each request's operation accepts it, and the completion finds the request that waits. -/
theorem paramCommandsComplete : Obligations.ParamCommandsComplete := by
  refine ⟨fun s n r => ⟨?key, ?memory, ?image⟩, fun s n r => ⟨?write, ?commit, ?completed⟩⟩
  case key =>
    intro row htakes p c hrow
    exact htakes.done_eq (handleParamRead_of_key (htakes.action (needLen_paramRead _ _)) hrow) trivial
  case memory =>
    intro b htakes p c hsome hmost hrange hsupply q hread
    exact htakes.done_eq (handleParamRead_of_memory (htakes.action (needLen_paramRead _ _)) hsome hmost hrange hsupply hread) trivial
  case image => exact fun htakes hpiece => htakes.done_eq rfl (piecewise_accepted hpiece)
  case write => exact fun htakes hsome hmost hpairs => htakes.done_eq (handleParamWrite_of_passed hsome hmost hpairs) trivial
  case commit => exact fun htakes hrules hidle => htakes.done_eq (handleParamCommit_of_passed hrules hidle) trivial
  case completed => exact fun t hdue => execParamCommitDone_of_due hdue rfl

end Sys2Proof.Machine

/-! MEASURE_LOAD, MEASURE_CABLE and MEASURE_SUPPLY (R352, R362, R375, R376, R379, R380, R398). That the read form of MEASURE_LOAD
begins at offset 0 is the model's choice. -/

namespace Sys2Proof.Machine

/-- MEASURE_LOAD and MEASURE_CABLE need their action byte whatever the version and the parameters (R335 order 9, R362). -/
theorem needLen_measureLoad_pos (v : Nat) (p : List Byte) : 0 < needLen 0x0601 v p := Nat.succ_pos _
theorem needLen_measureCable_pos (v : Nat) (p : List Byte) : 0 < needLen 0x0602 v p := Nat.succ_pos _

section
variable {p : State} {n : Lane} {c : Call}

/-- MEASURE_LOAD's tests pass (R362, R376, R379, R398). -/
theorem State.startLoad_of_passed {xs : List Axis} (hsets : loadSets n (rd c.p 1 1) = some xs) (hperm : p.seesPermitted n n = true)
    (husable : ∀ x ∈ xs, p.moving n x = false ∧ (p.lane n).setBad x = false) (hsupply : p.serviceStopped = false)
    (hfree : p.occupied = false) (hidle : p.m.runEntry = 0) :
    p.startLoad n c = .pending (p.beginLoad n xs (BitVec.ofNat 4 (rd c.p 2 1))) [] := by
  have hstill : xs.any (p.moving n) = false := List.any_eq_false.mpr fun x hx => Bool.eq_false_iff.mp (husable x hx).1
  have hgood : ∀ t ∈ xs.map (fun x => ((p.lane n).setBad x, (0x31 : Byte), setAddr n x)), t.1 = false := by
    intro t ht
    obtain ⟨x, hx, rfl⟩ := List.mem_map.mp ht
    exact (husable x hx).2
  have htests : firstErr ([(!p.seesPermitted n n, 0x22, c.opAddr), (xs.any (p.moving n), 0x20, c.opAddr),
      (p.serviceStopped, 0x21, c.opAddr)] ++ xs.map (fun x => ((p.lane n).setBad x, 0x31, setAddr n x)) ++
      [(p.occupied || p.m.runEntry != 0, 0x18, c.opAddr)]) = none := by
    refine firstErr_eq_none fun t ht => ?_
    rcases List.mem_append.mp ht with ht | ht
    · rcases List.mem_append.mp ht with ht | ht
      · simp only [hperm, hstill, hsupply, List.mem_cons, List.not_mem_nil, or_false] at ht
        rcases ht with rfl | rfl | rfl <;> rfl
      · exact hgood t ht
    · rw [List.mem_singleton.mp ht, hfree, hidle]
      rfl
  simp only [State.startLoad, hsets, htests]

theorem handleMeasureLoad_of_start (haction : rd c.p 0 1 = 0) : handleMeasureLoad p n c = p.startLoad n c := if_pos haction

theorem handleMeasureLoad_of_read {xs : List Axis} (haction : rd c.p 0 1 = 1) (hsets : loadSets n (rd c.p 1 1) = some xs)
    (hsupply : p.serviceStopped = false) :
    handleMeasureLoad p n c = p.piecewise n c 0 ((xs.map (fun x => ((p.lane n).set x).loadRecord n x)).flatten) := by
  simp only [handleMeasureLoad, haction, one_ne_zero, if_false, if_true, hsets, hsupply, Bool.false_eq_true]

theorem loadSets_ne_nil {b : Nat} {xs : List Axis} (h : loadSets n b = some xs) : xs ≠ [] := by
  unfold loadSets at h
  repeat' split at h
  all_goals cases h
  all_goals exact List.cons_ne_nil _ _

/-- Named sets have a record to answer (R352, R362). -/
theorem loadRecords_ne_nil {b : Nat} {xs : List Axis} (h : loadSets n b = some xs) (l : LaneSt) :
    (xs.map (fun x => (l.set x).loadRecord n x)).flatten ≠ [] := by
  obtain ⟨x, xs, rfl⟩ := List.exists_cons_of_ne_nil (loadSets_ne_nil h)
  exact List.cons_ne_nil _ _

/-- A record that is not empty has a byte at offset 0 (R352). -/
theorem State.pieceOk_zero {record : List Byte} (h : record ≠ []) : p.pieceOk n c 0 record = true :=
  decide_eq_true (List.length_pos_iff.mpr h)

theorem handleMeasureCable_of_start (haction : rd c.p 0 1 = 0) (hchan : rd c.p 1 1 ≤ 1) (hsupply : p.serviceStopped = false) {ch : Chan}
    (hch : (if rd c.p 1 1 = 0 then Chan.x else .y) = ch) (hpartner : ((p.lane n).net.chan ch.other).state = 3)
    (hidle : p.meas.cableOn = false) : handleMeasureCable p n c = .pending (p.beginCable n ch) [] := by
  have hknown : ¬(1 < 0 ∨ 1 < rd c.p 1 1) := by omega
  simp only [handleMeasureCable, haction, if_neg hknown, hsupply, hch, hpartner, hidle, ne_eq, not_true, Bool.false_eq_true, if_false,
    if_true]

theorem handleMeasureCable_of_read (haction : rd c.p 0 1 = 1) (hchan : rd c.p 1 1 ≤ 1) (hsupply : p.serviceStopped = false) {ch : Chan}
    (hch : (if rd c.p 1 1 = 0 then Chan.x else .y) = ch) :
    handleMeasureCable p n c =
      .ok p ([(p.meas.cable n ch).1, (p.meas.cable n ch).2.1] ++ beBytes 2 (p.meas.cable n ch).2.2.toNat) := by
  have hknown : ¬(1 < 1 ∨ 1 < rd c.p 1 1) := by omega
  simp only [handleMeasureCable, haction, if_neg hknown, hsupply, hch, one_ne_zero, Bool.false_eq_true, if_false]

end

/-- Settles O4: each request's operation accepts it. -/
theorem measureRequestsComplete : Obligations.MeasureRequestsComplete := by
  refine ⟨fun s n r => ⟨?loadStart, ?loadRead⟩, fun s n r => ⟨?cableStart, ?cableRead, ?supply⟩⟩
  case loadStart =>
    intro xs htakes p c hsets hperm husable hsupply hfree hidle
    exact htakes.done_eq ((handleMeasureLoad_of_start (htakes.action (needLen_measureLoad_pos _ _))).trans
      (State.startLoad_of_passed hsets hperm husable hsupply hfree hidle)) trivial
  case loadRead =>
    intro xs htakes p c hsets hsupply
    exact htakes.done_eq (handleMeasureLoad_of_read (htakes.action (needLen_measureLoad_pos _ _)) hsets hsupply)
      (piecewise_accepted (State.pieceOk_zero (loadRecords_ne_nil hsets _)))
  case cableStart =>
    intro htakes p c hchan ch hsupply hpartner hidle
    exact htakes.done_eq (handleMeasureCable_of_start (htakes.action (needLen_measureCable_pos _ _)) hchan hsupply rfl hpartner hidle)
      trivial
  case cableRead =>
    intro htakes p c hchan ch hsupply
    exact htakes.done_eq (handleMeasureCable_of_read (htakes.action (needLen_measureCable_pos _ _)) hchan hsupply rfl) trivial
  case supply => exact fun htakes hpiece => htakes.done_eq rfl (piecewise_accepted hpiece)

end Sys2Proof.Machine

/-! The firmware commands (R366, R367, R398, R441). -/

namespace Sys2Proof.Machine

/-- FW_VERIFY needs its action byte whatever the version and the parameters (R335 order 9, R367). -/
theorem needLen_fwVerify_pos (v : Nat) (p : List Byte) : 0 < needLen 0x0903 v p := Nat.succ_pos _

section
variable {p : State} {n : Lane} {c : Call}

theorem handleFwBegin_of_passed (hkind : rd c.p 0 1 = 1 ∨ rd c.p 0 1 = 2) (hfits : rd c.p 4 4 ≤ pkgMax (rd c.p 0 1))
    (hbanks : rd c.p 0 1 = 1 → ∀ m ∈ p.actives, (p.lane m).bankBad = false) :
    handleFwBegin p n c = .ok (p.openTransfer (rd c.p 0 1) (rd c.p 4 4) (BitVec.ofNat 32 (rd c.p 8 4))) [] := by
  have hknown : ¬((rd c.p 0 1 ≠ 1 ∧ rd c.p 0 1 ≠ 2) ∨ pkgMax (rd c.p 0 1) < rd c.p 4 4) := by
    rintro (⟨hnot1, hnot2⟩ | hlarge)
    · exact hkind.elim hnot1 hnot2
    · exact absurd hlarge (Nat.not_lt.mpr hfits)
  have husable : (if rd c.p 0 1 = 1 then p.actives.find? (fun m => (p.lane m).bankBad) else none) = none := by
    split
    · next h => exact List.find?_eq_none.mpr fun m hm => Bool.eq_false_iff.mp (hbanks h m hm)
    · rfl
  simp only [handleFwBegin, if_neg hknown, husable]

section
variable {x : Xfer} (hopen : (p.lane n).sec.fw = some x) (hsome : 1 ≤ rd c.p 4 2) (hmost : rd c.p 4 2 ≤ 1024)
  (hwithin : rd c.p 0 4 + rd c.p 4 2 ≤ x.total) (hsupply : p.serviceStopped = false)
include hopen hsome hmost hwithin hsupply

/-- A FW_CHUNK segment within the total and in turn is written in every lane that holds the transfer (R366, R367). -/
theorem handleFwChunk_of_go {y : Xfer} (hturn : segStep (some x) none (rd c.p 0 4) ((c.p.drop 8).take (rd c.p 4 2)) = .go y) :
    handleFwChunk p n c = .ok (p.onLanes (fun _ l =>
      if l.state = .active ∧ l.sec.fwHave = true then l.putChunk y (rd c.p 0 4) ((c.p.drop 8).take (rd c.p 4 2)) else l)) [] := by
  have hsize : ¬(rd c.p 4 2 < 1 ∨ 1024 < rd c.p 4 2 ∨ x.total < rd c.p 0 4 + rd c.p 4 2) := by omega
  simp only [handleFwChunk, hopen, if_neg hsize, hturn, hsupply, Bool.false_eq_true, if_false]

/-- A repeated FW_CHUNK segment changes nothing (R366). -/
theorem handleFwChunk_of_again (hturn : segStep (some x) none (rd c.p 0 4) ((c.p.drop 8).take (rd c.p 4 2)) = .again) :
    handleFwChunk p n c = .ok p [] := by
  have hsize : ¬(rd c.p 4 2 < 1 ∨ 1024 < rd c.p 4 2 ∨ x.total < rd c.p 0 4 + rd c.p 4 2) := by omega
  simp only [handleFwChunk, hopen, if_neg hsize, hturn, hsupply, Bool.false_eq_true, if_false]

end

theorem handleFwVerify_of_start {x : Xfer} (haction : rd c.p 0 1 = 0) (hopen : (p.lane n).sec.fw = some x)
    (hwhole : x.total ≤ x.got.length) (hidle : p.m.fwState ≠ 1) :
    handleFwVerify p n c = .pending (p.onM (fun m => { m with fwState := 1 })) [] := by
  have hready : ¬(true = false ∨ x.got.length < x.total) := by
    rintro (h | h)
    · exact Bool.false_ne_true h.symm
    · omega
  simp only [handleFwVerify, haction, hopen, Nat.not_lt_zero, if_false, if_true, if_neg hready, if_neg hidle]

theorem handleFwVerify_of_read (haction : rd c.p 0 1 = 1) (hpassed : p.m.fwState ≠ 3) :
    handleFwVerify p n c = .ok p [p.m.fwState.setWidth 8] := by
  simp only [handleFwVerify, haction, lt_irrefl, one_ne_zero, if_false, if_neg hpassed]

theorem handleFwActivate_of_verified (hverified : p.m.fwState = 2) :
    handleFwActivate p n c = .ok (((p.takeEffect .fwActivate).onLanes
      (fun _ l => if l.state = .active ∧ l.sec.fwHave = true then l.activate else l)).onM
      (fun m => { m with fwReq := true, fwState := 0 })) [] :=
  if_neg (not_not.mpr hverified)

end

theorem State.noteSpread_m (s : State) (op : Half) (r : Req) : (s.noteSpread op r).m = s.m := by
  unfold State.noteSpread
  split <;> rfl

theorem State.noteAccepted_fwReq (s : State) : s.noteAccepted.m.fwReq = s.m.fwReq := by
  unfold State.noteAccepted
  split <;> rfl

/-- Answering OK leaves a restart asked for as it is (R441). -/
theorem State.answered_ok_fwReq (p w : State) (n : Lane) (op : Half) (r : Req) (d : List Byte) :
    (p.answered n op r (.ok w d)).m.fwReq = w.m.fwReq := by
  unfold State.answered State.reply
  rw [State.noteAccepted_fwReq, State.noteSpread_m, State.onLane_m]
  dsimp only
  split
  · rfl
  · rw [State.sendReply_m]

/-- Settles O7: each request's operation accepts it; FW_ACTIVATE asks for the restart, which over the host port follows at once. -/
theorem firmwareRequestsComplete : Obligations.FirmwareRequestsComplete := by
  refine ⟨fun s n r => ⟨?transfer, ?chunk, ?again⟩, fun s n r => ⟨?verify, ?reading, ?activate⟩⟩
  case transfer => exact fun htakes hkind hfits hbanks => htakes.done_eq (handleFwBegin_of_passed hkind hfits hbanks) trivial
  case chunk =>
    exact fun x y htakes hopen hsome hmost hwithin hturn hsupply =>
      htakes.done_eq (handleFwChunk_of_go hopen hsome hmost hwithin hsupply hturn) trivial
  case again =>
    exact fun x htakes hopen hsome hmost hwithin hturn hsupply =>
      htakes.done_eq (handleFwChunk_of_again hopen hsome hmost hwithin hsupply hturn) trivial
  case verify =>
    exact fun x htakes hopen hwhole hidle =>
      htakes.done_eq (handleFwVerify_of_start (htakes.action (needLen_fwVerify_pos _ _)) hopen hwhole hidle) trivial
  case reading =>
    exact fun htakes hpassed =>
      htakes.done_eq (handleFwVerify_of_read (htakes.action (needLen_fwVerify_pos _ _)) hpassed) trivial
  case activate =>
    intro htakes p hverified w u
    have hfcp : s.fcp 0x0904 r handleFwActivate noPart = u := htakes.fcp_eq (handleFwActivate_of_verified hverified) trivial
    have hreq : u.m.fwReq = true := State.answered_ok_fwReq ..
    simp only [exec, execFwActivate, hfcp, hreq, true_and]
    rfl

section
variable (w : State) (op : Half) (r : Req) (m : Lane)

theorem LaneSt.noteRequest_mem (l : LaneSt) (t : Nat) : (l.noteRequest op r t).mem = l.mem :=
  congrArg LaneCore.mem (LaneSt.noteRequest_core l op r t)

theorem State.onLane_mem (n : Lane) {f : LaneSt → LaneSt} (hf : ∀ l, (f l).mem = l.mem) :
    ((w.onLane n f).lane m).mem = (w.lane m).mem := by
  by_cases hm : m = n
  · subst hm
    rw [State.onLane_lane, hf]
  · rw [State.onLane_lane_ne _ _ _ hm]

theorem LaneSt.queueReply_mem (l : LaneSt) (okReply : Bool) (b : List Byte) : (l.queueReply okReply b).mem = l.mem := by
  unfold LaneSt.queueReply
  dsimp only
  split <;> rfl

theorem State.sendReply_mem (n : Lane) (c : Carriage) (okReply : Bool) (b : List Byte) :
    ((w.sendReply n c okReply b).lane m).mem = (w.lane m).mem := by
  cases c
  · exact State.onLane_mem w m n fun l => l.queueReply_mem okReply b
  · exact congrArg LaneSt.mem (State.with_host_lane ..)

theorem State.noteSpread_mem : ((w.noteSpread op r).lane m).mem = (w.lane m).mem := by
  unfold State.noteSpread
  split
  · rw [State.onLanes_lane]
    split <;> rfl
  · rfl

theorem State.noteAccepted_lane : w.noteAccepted.lane m = w.lane m := by
  unfold State.noteAccepted
  split
  · exact State.onM_lane ..
  · rfl

/-- Answering OK writes no memory. -/
theorem State.answered_ok_mem (p : State) (n : Lane) (d : List Byte) :
    ((p.answered n op r (.ok w d)).lane m).mem = (w.lane m).mem := by
  unfold State.answered State.reply
  rw [State.noteAccepted_lane, State.noteSpread_mem, State.onLane_mem _ _ _ fun l => l.noteRequest_mem op r _]
  dsimp only
  split
  · exact congrArg LaneSt.mem (State.with_host_lane ..)
  · exact State.sendReply_mem ..

end

/-- A read after a segment was written gives the segment's byte within it and the old one outside (R366). -/
theorem Memory.read_writeBytes_eq_ite {l : List Host.Cell} (hl : Memory.wf l = true) (a : Nat) (bs : List Byte) (x : Nat) :
    Memory.read (Memory.writeBytes l a bs) x = if a ≤ x ∧ x < a + bs.length then bs.getD (x - a) 0 else Memory.read l x := by
  split
  · next h =>
    obtain ⟨hlo, hhi⟩ := h
    obtain ⟨i, rfl⟩ := Nat.exists_eq_add_of_le hlo
    have hi : i < bs.length := by omega
    rw [Memory.read_writeBytes hl a bs i hi, Nat.add_sub_cancel_left, List.getD_eq_getElem _ _ hi]
  · next h => exact Memory.read_writeBytes_of_not_mem hl a bs x (by omega)

/-- A request that the other lanes have no part in is met in a sound state. -/
theorem State.met_inv {s : State} (op : Half) (r : Req) (h : s.Inv) : (s.met op r noPart).Inv :=
  (State.met_keep (kc := false) (kw := false) .noPart (.refl _)).inv (State.at_inv r.at_ h)

/-- Settles O42: the accepted segment's writes are all that touches memory. -/
theorem firmwareSegmentIsStoredAtItsOffset : Obligations.FirmwareSegmentIsStoredAtItsOffset := by
  intro s n r x y hinv htakes p c off data hopen hsome hmost hwithin hturn hsupply
  refine ⟨_, htakes.done_eq (handleFwChunk_of_go hopen hsome hmost hwithin hsupply hturn) trivial, fun m a => ?_⟩
  obtain ⟨hwf, -, -⟩ := State.met_inv 0x0902 r hinv m
  rw [State.answered_ok_mem, State.onLanes_lane]
  by_cases hholds : (p.lane m).state = .active ∧ (p.lane m).sec.fwHave = true
  · obtain ⟨hactive, hhave⟩ := hholds
    rw [if_pos ⟨hactive, hhave⟩]
    simp only [hactive, hhave, true_and]
    exact Memory.read_writeBytes_eq_ite hwf _ _ a
  · rw [if_neg hholds, if_neg fun ⟨hactive, hhave, _⟩ => hholds ⟨hactive, hhave⟩]

end Sys2Proof.Machine

/-! Shedding, the self-quench, the restart and the overvoltage disconnect (R374, R396, R399, R400, R402, R406). -/

namespace Sys2Proof.Machine

section
variable {s : State} {t : Nat} {n : Lane}

/-- A running lane takes the deepest level its comparators hold (R396). -/
theorem execSupplyShed_of_runs {vsup link : Nat} {u : State} (hu : (s.at_ t).seeSupply n vsup link = u)
    (hreset : (u.lane n).rst.inReset = false) (hon : (u.lane n).state ≠ .off) (hlevel : (u.lane n).sup.level ≠ 5) {w : State}
    (hw : u.onLane n (·.shedTrack t) = w) :
    exec (.supplyShed t n vsup link) s =
      .next ((w.onSup n (fun p => { p with levels := (w.lane n).shedHeld t })).setLevel n (deepest ((w.lane n).shedHeld t))) := by
  subst hu hw
  have hruns : ¬(((((s.at_ t).seeSupply n vsup link).lane n).state == .off ||
      (((s.at_ t).seeSupply n vsup link).lane n).sup.level == 5) = true) := by
    rw [Bool.or_eq_true, beq_iff_eq, beq_iff_eq]
    exact not_or.mpr ⟨hon, hlevel⟩
  simp only [exec, execSupplyShed, hreset, Bool.false_eq_true, if_false, if_neg hruns]
  rfl

theorem execSupplyShed_of_reset {vsup link : Nat} {u : State} (hu : (s.at_ t).seeSupply n vsup link = u)
    (hreset : (u.lane n).rst.inReset = true) : exec (.supplyShed t n vsup link) s = .next (u.supplyBack n (u.lane n).sup.eff) := by
  subst hu
  exact if_pos hreset

/-- The armed comparator quenches its lane (R400). -/
theorem execSupplyQuench_of_armed {v : SupplyMv} {held : Nat} {u : State} (hu : (s.at_ t).seeSupply n v.vsup v.link = u)
    (harmed : (u.lane n).sup.armed = true) (hcaldera : (u.lane n).vote.caldera = false) (hreset : (u.lane n).rst.inReset = false)
    (hlow : (u.lane n).sup.eff < 14000) (hheld : us 20 ≤ held) : exec (.supplyQuench t n v held) s = .next (u.supplyQuench n) := by
  subst hu
  refine if_pos ?_
  simp only [harmed, hcaldera, hreset, decide_eq_true hlow, decide_eq_true hheld, Bool.not_false, Bool.and_self]

/-- A lane quenched through the supply path alone restarts (R402). -/
theorem execSupplyRestart_of_due {v : SupplyMv} {held : Nat} {u : State} (hu : (s.at_ t).seeSupply n v.vsup v.link = u)
    (hcaldera : (u.lane n).vote.caldera = true) (honly : (u.lane n).vote.supplyOnly = true) (hvotes : u.voters n = [])
    (hback : 15000 ≤ (u.lane n).sup.eff) (hheld : ms ((u.lane n).codeN Key.supplyRestartDelay) ≤ held) {recent : List Nat}
    (hrecent : (u.lane n).sup.restarts.filter (fun a => decide (t < a + ms 600000)) = recent)
    (hfew : recent.length < (u.lane n).codeN Key.supplyRestartMax) :
    exec (.supplyRestart t n v held) s =
      .next ((((u.log n 0x0B15 (laneAddr n)).resetLane n 3).onSup n (fun p => { p with restarts := t :: recent })).clearCause n 3) := by
  subst hu hrecent
  refine if_pos ?_
  simp only [hcaldera, honly, hvotes, List.isEmpty_nil, decide_eq_true hback, decide_eq_true hheld, decide_eq_true hfew, Bool.and_self]

/-- At 61.0 V the disconnect opens (R406). -/
theorem execSupplyOvOpen_of_over {mv : Nat} (hover : 61000 ≤ mv) (hshut : ((s.at_ t).lane n).sup.ovOpen = false)
    (hclosed : ((s.at_ t).lane n).sup.disc ≠ 0 ∨ ((s.at_ t).lane n).sup.linkOpen = true) :
    exec (.supplyOvOpen t n mv) s =
      .next (((s.at_ t).onSup n (fun p => { p with disc := 0, ovOpen := true, vsup := mv })).logModule n 0x0909 (laneAddr n)) := by
  refine (if_pos ?_).trans (congrArg (fun u : State => done (u.logModule n 0x0909 (laneAddr n))) (State.onSup_onSup ..))
  rw [State.onSup_lane]
  exact ⟨hover, hshut, hclosed⟩

/-- Below 58.0 V for 1 ms it closes again, unless the DC link keeps it open (R406). -/
theorem execSupplyOvClose_of_under {mv held : Nat} (hopen : ((s.at_ t).lane n).sup.ovOpen = true) (hunder : mv < 58000)
    (hheld : ms 1 ≤ held) :
    exec (.supplyOvClose t n mv held) s = .next ((s.at_ t).onSup n (fun p =>
      { p with vsup := mv, ovOpen := false, disc := if p.linkOpen || p.geyOpen then 0 else 2 })) := by
  refine (if_pos ?_).trans (congrArg Host.Outcome.next (State.onSup_onSup ..))
  rw [State.onSup_lane]
  exact ⟨hopen, hunder, hheld⟩

end

/-- Settles O12: the branch of each event. -/
theorem supplyEventsComplete : Obligations.SupplyEventsComplete := by
  intro s t n
  refine ⟨?shed, ?inReset, ?quenched, ?restarts, ?opens, ?closes, ?item⟩
  case shed =>
    intro vsup link u hreset hon hlevel w
    exact execSupplyShed_of_runs rfl hreset hon hlevel rfl
  case inReset =>
    intro vsup link u hreset
    exact execSupplyShed_of_reset rfl hreset
  case quenched =>
    intro vsup link held u harmed hcaldera hreset hlow hheld
    exact execSupplyQuench_of_armed rfl harmed hcaldera hreset hlow hheld
  case restarts =>
    intro vsup link held u hcaldera honly hvotes hback hheld recent hfew
    exact execSupplyRestart_of_due (u := u) rfl hcaldera honly hvotes hback hheld rfl hfew
  case opens => exact fun mv hover hshut hclosed => execSupplyOvOpen_of_over hover hshut hclosed
  case closes => exact fun mv held hopen hunder hheld => execSupplyOvClose_of_under hopen hunder hheld
  case item =>
    exact fun src dst e hne hreset hnext => congrArg Host.Outcome.next (State.onItem_of_next _ hne hreset hnext)

end Sys2Proof.Machine

/-! Measurements and self-tests that end (R376, R377, R380, R384, R385, R387). -/

namespace Sys2Proof.Machine

/-- The sequence of a named set that switches has ended, the S set's before the B set's (R376). -/
theorem loadCompletes_of_named {u : State} {n : Lane} {x : Axis} (hnamed : u.meas.names n x = true)
    (hswitching : ((u.lane n).set x).switching = true) (hturn : x = .s ∨ u.meas.loadS = false) :
    (u.meas.names n x && ((u.lane n).set x).switching && !(x == .b && u.meas.loadS)) = true := by
  have hnext : (x == .b && u.meas.loadS) = false := by
    rcases hturn with rfl | hdone
    · rfl
    · rw [hdone, Bool.and_false]
  rw [hnamed, hswitching, hnext]
  rfl

/-- Settles O20: the branch of each event. -/
theorem measurementEventsComplete : Obligations.MeasurementEventsComplete := by
  intro s t n
  refine ⟨?load, ?cable, ?selftest⟩
  case load => exact fun x m hnamed hswitching hturn => if_pos (loadCompletes_of_named hnamed hswitching hturn)
  case cable => exact fun refl delay hon hlane hpulses => if_pos ⟨hon, hlane, hpulses⟩
  case selftest => exact fun ok bad bits hon hnext => if_pos ⟨hon, hnext⟩

end Sys2Proof.Machine

/-! Reset sources, the external reset and its handshake, the watchdog (R82, R413 to R417). -/

namespace Sys2Proof.Machine

section
variable {s : State} {t : Nat} {n : Lane}

/-- A source that is a cause takes its lane into reset (R413). -/
theorem execResetAssert_of_cause {src : ResetSource} {u : State} (hu : (s.at_ t).seeSource n src = u) {k : Nat}
    (hk : causeOf (u.lane n).sup.eff src = k) (hcause : k ≠ 0) {w : State}
    (hw : (if k = 7 ∨ k = 8 then u.restart n k else u.resetLane n k) = w) :
    exec (.resetAssert t n src) s = .next ((if k = 4 ∨ k = 1 then w.onSup n (fun p => { p with disc := 0 }) else w).checkLimp) := by
  subst hu hk hw
  simp only [exec, execResetAssert, if_neg hcause]
  rfl

/-- A supply at 9 V and above is no cause (R413). -/
theorem execResetAssert_of_none {src : ResetSource} {u : State} (hu : (s.at_ t).seeSource n src = u)
    (hnone : causeOf (u.lane n).sup.eff src = 0) : exec (.resetAssert t n src) s = .next u := by
  subst hu
  simp only [exec, execResetAssert, hnone, if_true]
  rfl

/-- A lane that is not asleep, or has been woken, takes an external reset (R417). -/
theorem not_asleep {r : ResetSt} (h : r.causes.contains 4 = false ∨ r.wakeAt.isSome = true) :
    (r.causes.contains 4 && r.wakeAt.isNone) = false := by
  rcases h with hawake | hwoken
  · rw [hawake, Bool.false_and]
  · rw [Option.isNone_eq_false_iff.mpr hwoken, Bool.and_false]

theorem execExternalReset_of_awake {low : Nat} (hlow : 200 ≤ low)
    (hawake : ((s.at_ t).lane n).rst.causes.contains 4 = false ∨ ((s.at_ t).lane n).rst.wakeAt.isSome = true) :
    exec (.externalReset t n low) s =
      if 1000 ≤ low then .next (((s.at_ t).resetLane n 5).checkLimp)
      else .next (if Config.rstBand (s.at_ t).free then (State.resetLane { s.at_ t with free := (s.at_ t).free + 1 } n 5).checkLimp
        else { s.at_ t with free := (s.at_ t).free + 1 }) := by
  refine if_neg ?_
  simp only [not_asleep hawake, decide_eq_false (Nat.not_lt.mpr hlow), Bool.or_self, Bool.false_eq_true, not_false_eq_true]

theorem execExternalReset_of_short {low : Nat} (hlow : low < 200) : exec (.externalReset t n low) s = .next (s.at_ t) := by
  refine if_pos ?_
  rw [decide_eq_true hlow, Bool.or_true]

/-- The handshake's sample: a low pin holds cause 5, a high one ends it (R417). -/
theorem execRstHandshakeSample_of_sampled {low : Bool} (hreset : ((s.at_ t).lane n).rst.inReset = true)
    (hdriven : ((s.at_ t).lane n).rst.rstDriven = false) (hdue : ((s.at_ t).lane n).rst.extDone + us 25 ≤ t)
    (hcauses : ((s.at_ t).lane n).rst.causes.all (· == 5) = true) :
    exec (.rstHandshakeSample t n low) s = .next ((s.at_ t).onRst n (fun r =>
      if low then { r with causes := [5], cause := min r.cause 5, rstHigh := false, clearAt := t }
      else { r with causes := [], rstHigh := true, clearAt := if r.causes.contains 5 then t else r.clearAt })) := by
  refine (if_pos ?_).trans ?_
  · simp only [hreset, hdriven, hcauses, decide_eq_true hdue, Bool.not_false, Bool.and_self]
  · cases low <;> rfl

/-- No application cycle for 2 ms: the quench request is forced (R413). -/
theorem execWatchdog_of_silent (hreset : ((s.at_ t).lane n).rst.inReset = false) (hforced : ((s.at_ t).lane n).rst.dogForced = false)
    (hon : ((s.at_ t).lane n).state ≠ .off) (hdue : ((s.at_ t).lane n).rst.appAt + ms 2 ≤ t) :
    exec (.watchdog t n) s =
      .next ((((s.at_ t).onRst n (fun r => { r with dogForced := true, dogAt := t })).quenchRequest n).checkLimp) := by
  refine if_pos ?_
  rw [hreset, hforced, bne_iff_ne.mpr hon, decide_eq_true hdue]
  rfl

/-- The lane resets 10 ms after the watchdog forced its quench request (R413). -/
theorem execWatchdogReset_of_forced (hforced : ((s.at_ t).lane n).rst.dogForced = true)
    (hdue : ((s.at_ t).lane n).rst.dogAt + ms 10 ≤ t) : exec (.watchdogReset t n) s = .next (((s.at_ t).restart n 7).checkLimp) := by
  refine if_pos ?_
  rw [hforced, decide_eq_true hdue]
  rfl

end

/-- Settles O16: the branch of each event. -/
theorem resetEventsComplete : Obligations.ResetEventsComplete := by
  intro s t n
  refine ⟨?asserted, ?noCause, ?external, ?short, ?band, ?handshake, ?watchdog, ?watchdogReset⟩
  case asserted => exact fun src hcause => execResetAssert_of_cause rfl rfl hcause rfl
  case noCause => exact fun src hnone => execResetAssert_of_none rfl hnone
  case external => exact fun low hlong hawake => (execExternalReset_of_awake (by omega) hawake).trans (if_pos hlong)
  case short => exact fun low hshort => execExternalReset_of_short hshort
  case band =>
    exact fun low hlow hshort hawake => (execExternalReset_of_awake hlow hawake).trans (if_neg (Nat.not_le.mpr hshort))
  case handshake => exact fun low hreset hdriven hdue hcauses => execRstHandshakeSample_of_sampled hreset hdriven hdue hcauses
  case watchdog => exact fun hreset hforced hon hdue => execWatchdog_of_silent hreset hforced hon hdue
  case watchdogReset => exact fun hforced hdue => execWatchdogReset_of_forced hforced hdue

end Sys2Proof.Machine
